-- ==== Sys2Proof/Word.lean ====
section
/-!
DEFINITION. The word types of the WG340's frames and stamps.

The part's frames are bytes (R160), its counts on the line are 16-bit words (Table 10-1, 10-3) and its show clock
is a 32-bit count (R49). Positions are whole numbers of counts inside the part (spec/02 forms them exactly); only
their encodings on the line are words.
-/

namespace Sys2Proof

/-- One byte of a frame. -/
abbrev Byte := BitVec 8

/-- A 16-bit number of a frame: a position, a load, a check. -/
abbrev Half := BitVec 16

/-- A value of the show clock (R49), or a stamp copied from it. It wraps modulo 2^32. -/
abbrev Clock := BitVec 32

end Sys2Proof
end

