-- ==== Sys2Proof/Syntax.lean ====
section
/-!
DEFINITION. The commands of the WG340: one constructor of `Instr` for each row of spec/opcode_table.json, with the
operands the row's rule reads.

Three kinds of operand stand here. A frame that arrives at a receiver is a `Frame`: the envelope of Table 10-1, its
payload and the check that came with it. A command frame that the Line Relay has passed on (R166 line 2) is named by
its `Sender` and by the bytes after its table id or sub-command. An arrival or expiry inside the part names what it is
about: a model, a node, a zone, a button key, an alert number.
-/

namespace Sys2Proof

/-- A model, 0-11 (R1). -/
abbrev ModelId := Fin 12

/-- A bay node. Node address a (1-62) is the number a - 1. -/
abbrev NodeId := Fin 62

/-- A presence zone, 0-7 (R88). -/
abbrev ZoneId := Fin 8

/-- A button of a panel, 0-15. -/
abbrev ButtonIx := Fin 16

/-- An entry of the button map, 0-127 (R62). -/
abbrev EntryIx := Fin 128

/-- An entry of the cue table, 0-31 (R27). -/
abbrev CueId := Fin 32

/-- An entry of the profile table, 0-63 (R25). -/
abbrev ProfileId := Fin 64

/-- One of the two motion channels of a drive node. -/
abbrev Axis := Fin 2

/-- A button's key: its panel node and its number on that panel (Table 4-1). -/
structure Key where
  node : NodeId
  button : ButtonIx
  deriving DecidableEq, Repr

/-- The two line ports (R160). -/
inductive Port where
  | bay
  | spine
  deriving DecidableEq, Repr

/-- A frame of Table 10-1. Its Length byte is the payload's length; `check` is the two check bytes as one number. -/
structure Frame where
  dstBay : Byte
  dstNode : Byte
  srcBay : Byte
  srcNode : Byte
  kind : Byte
  payload : List Byte
  check : Half
  deriving DecidableEq, Repr

/-- How a command frame was addressed: to bay 31 (`all`) or to the own bay, and the source bay and node that its reply
goes to (R166, R182). -/
structure Sender where
  all : Bool
  srcBay : Byte
  srcNode : Byte
  deriving DecidableEq, Repr

/-- One axis entry of a FEEDBACK frame (Table 10-3). -/
structure AxisEntry where
  axis : Axis
  position : Half
  load : Half
  flags : Byte
  deriving DecidableEq, Repr

/-- The commands, one constructor per row of spec/opcode_table.json. -/
inductive Instr where
  -- resets, pins and keys
  | hardReset (bayStraps : BitVec 5) (rateStraps : BitVec 2) (stopOpen ackClosed : Bool)
  | softReset (stopOpen ackClosed : Bool)
  | stopKeyAsserted
  | stopKeyReleased
  | ackKeyPressed
  | ackKeyLetGo
  | ackPressTimerExpiry
  -- receivers and the frames they take
  | receiverGapTimeout (port : Port)
  | framingError (port : Port)
  | receiverIdleTimeout (port : Port)
  | bayFrameReceived (frame : Frame)
  | panel (node : NodeId) (downSet : BitVec 16) (hello : Bool)
  | feedback (node : NodeId) (entries : List AxisEntry)
  | presence (node : NodeId) (occupiedSet : BitVec 8)
  | ringCheckReturn
  | spineFrameReceived (frame : Frame)
  -- table commands: the bytes of the record, after the table id and the index
  | nodeWrite (sender : Sender) (index : Byte) (record : List Byte)
  | buttonWrite (sender : Sender) (index : Byte) (record : List Byte)
  | cueWrite (sender : Sender) (index : Byte) (record : List Byte)
  | profileWrite (sender : Sender) (index : Byte) (record : List Byte)
  | modelWrite (sender : Sender) (index : Byte) (record : List Byte)
  | routeWrite (sender : Sender) (index : Byte) (record : List Byte)
  | patternWrite (sender : Sender) (index : Byte) (record : List Byte)
  | settingsWrite (sender : Sender) (index : Byte) (record : List Byte)
  | badTable (sender : Sender) (payload : List Byte)
  | tableRead (sender : Sender) (payload : List Byte)
  -- CONTROL sub-commands: the argument bytes after the sub-command byte
  | enable (sender : Sender) (args : List Byte)
  | disable (sender : Sender) (args : List Byte)
  | commit (sender : Sender) (args : List Byte)
  | cueStart (sender : Sender) (args : List Byte)
  | cueStartScheduled (sender : Sender) (args : List Byte)
  | cueStop (sender : Sender) (args : List Byte)
  | mode (sender : Sender) (args : List Byte)
  | showSync (sender : Sender) (args : List Byte)
  | clearFault (sender : Sender) (args : List Byte)
  | resume (sender : Sender) (args : List Byte)
  | statusQuery (sender : Sender) (args : List Byte)
  | statusQueryClear (sender : Sender) (args : List Byte)
  | restart (sender : Sender) (args : List Byte)
  | alertAck (sender : Sender) (payload : List Byte)
  -- transmitters
  | bayOutFrameSent
  | spineOutFrameSent
  -- the part's own notices and expiries
  | sampleTimerExpiry
  | modelFreeNotice (model : ModelId)
  | scheduleEntryDue
  | lateCountdownExpiry (model : ModelId)
  | pauseWindowExpiry (model : ModelId)
  | holdLimitExpiry (model : ModelId)
  | stuckTimerExpiry (key : Key)
  | lockoutEnd (key : Key)
  | requestExpiry (model : ModelId) (key : Key)
  | refreshTimerExpiry (node : NodeId)
  | nodeSilenceExpiry (node : NodeId)
  | driveSilenceExpiry (model : ModelId)
  | zoneSettleExpiry (zone : ZoneId)
  | spineSilenceExpiry
  | ringCheckTimerExpiry
  | ringCheckMiss
  | bayCheckWindowEnd
  | escalationDeadlineExpiry (number : Byte)
  | beaconPhaseEnd
  | dozeTimerExpiry
  | wakeLimitExpiry
  -- reset and clock pins
  | resetNLow
  | clkStop
  | clkResume
  -- a CONTROL frame with no sub-command, or an unknown one
  | badCommand (sender : Sender) (payload : List Byte)
  deriving DecidableEq, Repr

end Sys2Proof
end

