-- ==== Sys2Proof/Decode.lean ====
section
/-!
DEFINITION. Reading a command from the bits of its row.

No row of spec/opcode_table.json gives bits: the part has no opcode words, its commands are frames, expiries and pin
events. So no word spells a command.
-/

namespace Sys2Proof

/-- The command whose row has the bits `_w`. No row of the table gives bits (spec/98_reader.md: n_rows_with_fields 0),
so no word spells one. -/
def decodeTableWord (_nbits _w : Nat) : Option Instr := none

end Sys2Proof
end

