-- ==== Sys2Proof/Config.lean ====
section
/-!
DEFINITION. What the WG340 fixes: the sizes of its tables, FIFOs and lists, and its fixed times.

The spec leaves no result of a command undefined, so there is no free value here.
-/

namespace Sys2Proof.Config

/-- R167: each forward FIFO holds up to 16 whole frames. -/
abbrev forwardDepth : Nat := 16

/-- R171: the reply FIFO holds up to 4 frames. -/
abbrev replyDepth : Nat := 4

/-- R129: the alert queue holds at most 24 records. -/
abbrev alertDepth : Nat := 24

/-- R52: the schedule list holds at most 8 entries. -/
abbrev scheduleDepth : Nat := 8

/-- R168: the ring-check timer and the miss timer are of 100 ms. -/
abbrev ringCheckMs : Nat := 100

/-- R119: RING_OPEN becomes true when the miss run reaches 3, where the run is held. -/
abbrev missRunMax : Nat := 3

/-- R120: a bay-check window lasts 10 s. -/
abbrev bayWindowMs : Nat := 10000

/-- R85: a panel's refresh timer is of 2 s. -/
abbrev refreshMs : Nat := 2000

/-- R108: the ACK press timer is of 3 s. -/
abbrev ackPressMs : Nat := 3000

/-- R173: a port counter saturates at 65,535. -/
abbrev counterMax : Nat := 65535

/-- R76, R77: a press tally saturates at 4,294,967,295. -/
abbrev tallyMax : Nat := 4294967295

/-- R96: the following-error run count saturates at 15. -/
abbrev runMax : Nat := 15

/-- R38: the segment ends one sample can cross: 15 repeats of 8 steps of 11 segments. -/
abbrev maxCrossings : Nat := 1320

end Sys2Proof.Config
end

