-- ==== Sys2Proof/Machine/Wire.lean ====
section
/-!
DEFINITION. Frames on the lines: byte order, the check of R162, frame kinds, result codes and the frames the part builds
(spec/10, sections 10.1 and 10.9).
-/

namespace Sys2Proof.Machine

/-! ### Numbers in payloads: low byte first (section 10.9) -/

/-- The byte that holds a small number. -/
def byteOf (n : Nat) : Byte := BitVec.ofNat 8 n

/-- The byte that holds a flag in its bit `i`. -/
def flagBit (i : Nat) (b : Bool) : Byte := if b then BitVec.ofNat 8 (2 ^ i) else 0

/-- A 16-bit number, low byte first. -/
def le16 (w : Half) : List Byte := [w.extractLsb' 0 8, w.extractLsb' 8 8]

/-- A 32-bit number, low byte first. -/
def le32 (w : Clock) : List Byte :=
  [w.extractLsb' 0 8, w.extractLsb' 8 8, w.extractLsb' 16 8, w.extractLsb' 24 8]

/-- The 16-bit number whose low byte comes first. -/
def of16 (lo hi : Byte) : Half := hi ++ lo

/-- The 32-bit number whose low byte comes first. -/
def of32 (b0 b1 b2 b3 : Byte) : Clock := b3 ++ b2 ++ b1 ++ b0

/-- A position on the line: signed 16-bit two's complement (section 10.9). -/
def ofPosition (p : Int) : Half := BitVec.ofInt 16 p

/-- The byte at an offset of a record or payload; 0 beyond its end (a caller has tested the length). -/
def byteAt (bs : List Byte) (i : Nat) : Byte := bs.getD i 0

/-- The number at an offset. -/
def natAt (bs : List Byte) (i : Nat) : Nat := (byteAt bs i).toNat

/-- The 16-bit number at an offset. -/
def halfAt (bs : List Byte) (i : Nat) : Half := of16 (byteAt bs i) (byteAt bs (i + 1))

/-- The 32-bit number at an offset. -/
def clockAt (bs : List Byte) (i : Nat) : Clock :=
  of32 (byteAt bs i) (byteAt bs (i + 1)) (byteAt bs (i + 2)) (byteAt bs (i + 3))

/-- Node address 1-62 as a node; none for 0 and above 62. -/
def nodeOfAddress (a : Nat) : Option NodeId := if h : 1 ≤ a ∧ a ≤ 62 then some ⟨a - 1, by omega⟩ else none

/-- The address byte of a node. -/
def addressOf (n : NodeId) : Byte := byteOf (n.val + 1)

/-- A number below the bound, as an index of a table with that many entries. -/
def indexBelow (bound : Nat) (a : Nat) : Option (Fin bound) := if h : a < bound then some ⟨a, h⟩ else none

/-! ### The check (R162) -/

/-- One of the eight shifts of R162. -/
def crcShift (r : Half) : Half := if r.msb then (r <<< 1) ^^^ 0x1021 else r <<< 1

/-- One byte of R162: exclusive-or into the upper eight bits, then eight shifts. -/
def crcByte (r : Half) (b : Byte) : Half :=
  crcShift (crcShift (crcShift (crcShift (crcShift (crcShift (crcShift (crcShift
    (r ^^^ (b.zeroExtend 16 <<< 8)))))))))

/-- The check over a run of bytes: a register of FFFFh, no final inversion (R162). -/
def crc16 (bs : List Byte) : Half := bs.foldl crcByte 0xFFFF

/-- The bytes of a frame before its check: the envelope of Table 10-1 and the payload. -/
def frameBody (f : Frame) : List Byte :=
  [f.dstBay, f.dstNode, f.srcBay, f.srcNode, f.kind, byteOf f.payload.length] ++ f.payload

/-- The bytes of a frame as sent: the body and the check, low byte first. -/
def frameBytes (f : Frame) : List Byte := frameBody f ++ le16 f.check

/-- R161: a receiver calls the check good when it equals the value computed over the bytes received. -/
def checkGood (f : Frame) : Bool := f.check == crc16 (frameBody f)

/-- R162: a fresh check over the bytes as sent. -/
def withCheck (f : Frame) : Frame := { f with check := crc16 (frameBody f) }

/-- A frame with its fresh check. -/
def mkFrame (dstBay dstNode srcBay srcNode kind : Byte) (payload : List Byte) : Frame :=
  withCheck { dstBay, dstNode, srcBay, srcNode, kind, payload, check := 0 }

/-! ### Frame kinds (Table 10-2) -/

abbrev kPanel : Byte := 0x11
abbrev kFeedback : Byte := 0x12
abbrev kPresence : Byte := 0x13
abbrev kSetpoint : Byte := 0x21
abbrev kLamp : Byte := 0x22
abbrev kRingCheck : Byte := 0x23
abbrev kTableWrite : Byte := 0x31
abbrev kTableRead : Byte := 0x32
abbrev kControl : Byte := 0x33
abbrev kAlertAck : Byte := 0x34
abbrev kReply : Byte := 0x41
abbrev kTableData : Byte := 0x42
abbrev kStatusReport : Byte := 0x43
abbrev kAlert : Byte := 0x44

/-- A guest kind, 80h-FEh. -/
def guestKind (k : Byte) : Bool := 0x80 ≤ k.toNat && k.toNat ≤ 0xFE

/-- A kind listed in Table 10-2. -/
def listedKind (k : Byte) : Bool :=
  [kPanel, kFeedback, kPresence, kSetpoint, kLamp, kRingCheck, kTableWrite, kTableRead, kControl, kAlertAck,
    kReply, kTableData, kStatusReport, kAlert].contains k || guestKind k

/-! ### Result codes (Table 10-6) -/

/-- The results a REPLY can carry. -/
inductive Result where
  | ok | okClamped | staged | pending | replaced | nothingStaged
  | badTable | badIndex | badField | badCommand | duplicate | inUse | outOfRange | busy | blocked | notReady
  | notConfigured | notRunning | mode | listFull | cueInvalid | stillActive | faultLatched | unknownAlert
  deriving DecidableEq, Repr

/-- The code of a result (Table 10-6). -/
def Result.code : Result → Byte
  | .ok => 0x00 | .okClamped => 0x01 | .staged => 0x02 | .pending => 0x03 | .replaced => 0x04
  | .nothingStaged => 0x05 | .badTable => 0x10 | .badIndex => 0x11 | .badField => 0x12 | .badCommand => 0x13
  | .duplicate => 0x14 | .inUse => 0x15 | .outOfRange => 0x16 | .busy => 0x17 | .blocked => 0x18
  | .notReady => 0x19 | .notConfigured => 0x1A | .notRunning => 0x1B | .mode => 0x1C | .listFull => 0x1D
  | .cueInvalid => 0x1E | .stillActive => 0x1F | .faultLatched => 0x20 | .unknownAlert => 0x21

/-! ### Control sub-commands (Table 10-5) -/

abbrev cEnable : Byte := 0x01
abbrev cDisable : Byte := 0x02
abbrev cCommit : Byte := 0x03
abbrev cCueStart : Byte := 0x04
abbrev cCueStop : Byte := 0x05
abbrev cMode : Byte := 0x06
abbrev cShowSync : Byte := 0x07
abbrev cClearFault : Byte := 0x08
abbrev cResume : Byte := 0x09
abbrev cStatusQuery : Byte := 0x0A
abbrev cRestart : Byte := 0x0B

/-- A sub-command code of Table 10-5: 01h to 0Bh. -/
def listedSubCommand (c : Byte) : Bool := 1 ≤ c.toNat && c.toNat ≤ 0x0B

/-! ### Tables (Table 11-1) -/

/-- The index range of a table, as lowest index and one past the highest; none for an id outside 1-8. -/
def tableRange (id : Nat) : Option (Nat × Nat) :=
  match id with
  | 1 => some (1, 63)
  | 2 => some (0, 128)
  | 3 => some (0, 32)
  | 4 => some (0, 64)
  | 5 => some (0, 12)
  | 6 => some (0, 15)
  | 7 => some (0, 3)
  | 8 => some (0, 1)
  | _ => none

/-- A refusal's result and detail. -/
abbrev Verdict16 := Result × Half

/-- The tests of R174 on the payload of a TABLE_READ (`read`) or of a TABLE_WRITE: the first that fails gives the
reply. -/
def tableAddressFault (read : Bool) (payload : List Byte) : Option Verdict16 :=
  if (if read then payload.length != 2 else payload.length < 3) then some (.badField, 0xFFFF)
  else match tableRange (natAt payload 0) with
    | none => some (.badTable, 0)
    | some (lo, hi) => if lo ≤ natAt payload 1 ∧ natAt payload 1 < hi then none else some (.badIndex, 0)

end Sys2Proof.Machine
end

