-- ==== Sys2Proof/Machine/State.lean ====
section
/-!
DEFINITION. The state of the WG340, as plain data: one structure per block of spec/00_scope.md Table 1, the SETTINGS
record, the pins and the queue of waiting commands.

Times are in milliseconds. A timer is `none` while stopped and `some t` while running with t ms left.
-/

namespace Sys2Proof.Machine

/-- A timer: stopped, or running with so many milliseconds left. -/
abbrev Timer := Option Nat

/-! ### Motion Sequencer (spec/01, spec/02, spec/03) -/

/-- The eight model states of Table 1-3. -/
inductive ModelState where
  | disabled | enabling | idle | running | holding | returning | stopped | faulted
  deriving DecidableEq, Repr

/-- What a HOLDING model goes on with (Table 1-2). -/
inductive Target where
  | cue
  | home
  deriving DecidableEq, Repr

/-- On whose behalf a cue plays (R4). -/
inductive Owner where
  | button (key : Key)
  | control
  deriving DecidableEq, Repr

/-- The configured fields of a model record (Table 1-1). -/
structure ModelConfig where
  driveNode : Option NodeId
  axis : Axis
  travelMin : Int
  travelMax : Int
  home : Int
  rateLimit : Nat
  returnRate : Nat
  leadOffset : Int
  dwellOffset : Int
  tailOffset : Int
  followLimit : Nat
  followCount : Nat
  feedbackLag : Nat
  loadDepth : Nat
  loadAlarm : Nat
  loadTrip : Nat
  loadRelease : Nat
  zoneMask : BitVec 8
  holdLimit : Nat
  pauseWindow : Nat
  waitDepth : Nat
  maxWaitAge : Nat
  deriving DecidableEq, Repr

/-- The column "Unconfigured" of Table 1-1 (R1). -/
def ModelConfig.unconfigured : ModelConfig :=
  { driveNode := none, axis := 0, travelMin := -32768, travelMax := 32767, home := 0, rateLimit := 1, returnRate := 1,
    leadOffset := 0, dwellOffset := 0, tailOffset := 0, followLimit := 32767, followCount := 15, feedbackLag := 0,
    loadDepth := 1, loadAlarm := 1023, loadTrip := 1023, loadRelease := 0, zoneMask := 0, holdLimit := 255,
    pauseWindow := 60, waitDepth := 0, maxWaitAge := 255 }

/-- The cue position and the segment working values (Table 2-3). -/
structure CuePosition where
  cue : CueId
  repeats : Nat
  step : Nat
  segment : Nat
  elapsed : Nat
  stepStart : Int
  duration : Nat
  segStart : Int
  segEnd : Int
  deriving DecidableEq, Repr

/-- A model record: its configured fields and its run state (Table 1-2). -/
structure Model where
  config : ModelConfig
  state : ModelState
  holdZone : Bool
  holdPause : Bool
  target : Option Target
  owner : Option Owner
  position : Option CuePosition
  lastSetpoint : Int
  history : List Int
  fedBack : Option Int
  loads : List Nat
  run : Nat
  flagSeen : Bool
  pauseTimer : Timer
  staged : Option ModelConfig
  commitPending : Bool
  deriving DecidableEq, Repr

/-- A model record after either reset (R1, R2). -/
def Model.reset : Model :=
  { config := .unconfigured, state := .disabled, holdZone := false, holdPause := false, target := none, owner := none,
    position := none, lastSetpoint := 0, history := List.replicate 8 0, fedBack := none, loads := [], run := 0,
    flagSeen := false, pauseTimer := none, staged := none, commitPending := false }

/-- A step of a cue (Table 2-2); a dwell is a count of 100 ms. -/
inductive CueStep where
  | play (profile : ProfileId)
  | dwell (count : Nat)
  deriving DecidableEq, Repr

/-- What a model does when its cue ends (Table 2-2). -/
inductive EndAction where
  | goHome
  | stay
  deriving DecidableEq, Repr

/-- A defined cue (Table 2-2). -/
structure Cue where
  steps : List CueStep
  repeats : Nat
  endAction : EndAction
  deriving DecidableEq, Repr

/-- How segment targets are read (R26). -/
inductive ProfileMode where
  | abs
  | rel
  deriving DecidableEq, Repr

/-- Which offset stretches a segment (R36). -/
inductive Stretch where
  | none
  | lead
  | dwell
  | tail
  deriving DecidableEq, Repr

/-- A segment of a profile (Table 2-1). -/
structure Segment where
  duration : Nat
  target : Int
  stretch : Stretch
  deriving DecidableEq, Repr

/-- A defined profile (Table 2-1). -/
structure Profile where
  mode : ProfileMode
  segments : List Segment
  deriving DecidableEq, Repr

/-- An entry of the schedule list (R52). `due` holds the late countdown, present while the entry is due. -/
structure ScheduleEntry where
  model : ModelId
  cue : CueId
  start : Clock
  lateLimit : Nat
  due : Timer
  deriving DecidableEq, Repr

/-- The Motion Sequencer's state. `freeNotices` are the model-free notices sent and not yet taken (R9, R73). -/
structure MotionSequencer where
  models : Vector Model 12
  cues : Vector (Option Cue) 32
  profiles : Vector (Option Profile) 64
  schedule : List ScheduleEntry
  clock : Clock
  sampleTimer : Nat
  freeNotices : List ModelId
  deriving DecidableEq, Repr

/-! ### Line Relay (spec/10) -/

/-- Roles of a node (R163). -/
inductive Role where
  | empty | panel | drive | sensor | guest
  deriving DecidableEq, Repr

/-- Relay policies (R163). -/
inductive Policy where
  | consume | mirror | pass
  deriving DecidableEq, Repr

/-- An entry of the node table with its run state (R163) and its silence timer (R117). -/
structure NodeEntry where
  role : Role
  timeout : Nat
  policy : Policy
  zones : BitVec 8
  lastHeard : Option Clock
  helloSeen : Bool
  silence : Timer
  deriving DecidableEq, Repr

/-- A node entry after either reset (R163). -/
def NodeEntry.reset : NodeEntry :=
  { role := .empty, timeout := 0, policy := .consume, zones := 0, lastHeard := none, helloSeen := false,
    silence := none }

/-- A receiver's state (R161). -/
inductive Receiver where
  | waiting | receiving | discarding
  deriving DecidableEq, Repr

/-- The line rates of R160. -/
inductive Rate where
  | kbps125 | kbps250 | kbps500 | kbps1000
  deriving DecidableEq, Repr

/-- A frame of the reply FIFO; `restart` marks the OK reply that a soft reset waits on (R172). -/
structure ReplyFrame where
  frame : Frame
  restart : Bool
  deriving DecidableEq, Repr

/-- The frame in progress on BAY_OUT; `ringCheck` marks a ring check of the present round (R168). -/
structure BaySending where
  frame : Frame
  ringCheck : Bool
  deriving DecidableEq, Repr

/-- Who is told when a frame has left SPINE_OUT (R170): nobody, the RESTART sequence, or the Alert Unit. -/
inductive SpineBuilder where
  | plain | restart | alert
  deriving DecidableEq, Repr

/-- The frame in progress on SPINE_OUT. -/
structure SpineSending where
  frame : Frame
  builder : SpineBuilder
  deriving DecidableEq, Repr

/-- The port counters of BAY (R173). -/
structure BayCounters where
  good : Nat
  checkErrors : Nat
  framingErrors : Nat
  misrouted : Nat
  dropped : Nat
  undelivered : Nat
  stranger : Nat
  deriving DecidableEq, Repr

/-- The port counters of SPINE (R173). -/
structure SpineCounters where
  good : Nat
  checkErrors : Nat
  framingErrors : Nat
  misrouted : Nat
  dropped : Nat
  overrun : Nat
  deriving DecidableEq, Repr

/-- Every counter 0 (R173). -/
def BayCounters.zero : BayCounters := ⟨0, 0, 0, 0, 0, 0, 0⟩

/-- Every counter 0 (R173). -/
def SpineCounters.zero : SpineCounters := ⟨0, 0, 0, 0, 0, 0⟩

/-- The Line Relay's state. -/
structure LineRelay where
  ownBay : Byte
  rate : Rate
  rxBay : Receiver
  rxSpine : Receiver
  nodes : Vector NodeEntry 62
  bayFifo : List Frame
  spineFifo : List Frame
  replyFifo : List ReplyFrame
  slots : Vector (Option Frame) 62
  lastDrive : Nat
  lastPanel : Nat
  bayOut : Option BaySending
  spineOut : Option SpineSending
  ringTimer : Nat
  ringRequest : Bool
  ringOutstanding : Bool
  missTimer : Timer
  missRun : Nat
  windowTimer : Nat
  windowCount : Nat
  spineSilence : Timer
  bayCounters : BayCounters
  spineCounters : SpineCounters
  softPending : Bool
  softWaiting : Bool
  deriving DecidableEq, Repr

/-! ### Press Arbiter (spec/04, spec/05) -/

/-- How a button's edges act (Table 4-1). -/
inductive ButtonMode where
  | tap | toggle | hold | call
  deriving DecidableEq, Repr

/-- An edge of a button. -/
inductive Edge where
  | down | up
  deriving DecidableEq, Repr

/-- A defined entry of the button map (Table 4-1) with its run state (R63). Model and cue are the bytes as stored: a
CALL entry's are not read (R177). -/
structure Button where
  key : Key
  mode : ButtonMode
  acting : Edge
  model : Byte
  cue : Byte
  lockout : Nat
  stuckLimit : Nat
  downSince : Option Clock
  stuckTimer : Timer
  lockoutTimer : Timer
  lockoutUntil : Option Clock
  suspect : Bool
  deriving DecidableEq, Repr

/-- A waiting request (Table 4-2). -/
structure Request where
  key : Key
  cue : CueId
  arrival : Clock
  left : Nat
  deriving DecidableEq, Repr

/-- The press tallies (R76). -/
structure Tallies where
  taken : Nat
  started : Nat
  expired : Nat
  flushed : Nat
  refused : Nat
  deriving DecidableEq, Repr

/-- The lamp states of Table 5-1. -/
inductive Lamp where
  | off | ready | busy | wait | running | paused | locked | out | wake
  deriving DecidableEq, Repr

/-- The Press Arbiter's state. -/
structure PressArbiter where
  recorded : Vector (BitVec 16) 62
  buttons : Vector (Option Button) 128
  waits : Vector (List Request) 12
  tallies : Tallies
  lamps : Vector (Vector Lamp 16) 62
  dirty : Vector Bool 62
  refresh : Vector Timer 62
  deriving DecidableEq, Repr

/-! ### Supervisor (spec/06, spec/07) -/

/-- A zone's state (R88). -/
inductive ZoneState where
  | clear | occupied | settling
  deriving DecidableEq, Repr

/-- An entry of the zone table (R88). -/
structure Zone where
  state : ZoneState
  settle : Timer
  deriving DecidableEq, Repr

/-- What the Supervisor keeps for a model: the mask-occupied mark (R92), the hold-limit timer (R94), the drive silence
timer (R103) and the energised record (R102). -/
structure Watch where
  maskOccupied : Bool
  holdTimer : Timer
  driveSilence : Timer
  energised : Bool
  deriving DecidableEq, Repr

/-- Nothing watched (R92, R94, R102, R103). -/
def Watch.reset : Watch := ⟨false, none, none, false⟩

/-- The sensing of the ACK key (R108). -/
inductive AckState where
  | armed | timing | long | blocked
  deriving DecidableEq, Repr

/-- The latching kinds whose subject is a model (Table 7-1), in the table's order. -/
inductive ModelKind where
  | follow | loadAlarm | loadTrip | driveReport | driveSilent
  deriving DecidableEq, Repr

/-- The latching kinds whose subject is the bay (Table 7-1), in the table's order. -/
inductive BayKind where
  | stopKey | spineSilent | ringOpen | bayCheck
  deriving DecidableEq, Repr

/-- An entry of the fault table: a latching kind and a subject of its type (R111). -/
inductive FaultId where
  | model (kind : ModelKind) (model : ModelId)
  | nodeSilent (node : NodeId)
  | buttonStuck (key : Key)
  | bay (kind : BayKind)
  deriving DecidableEq, Repr

/-- The marks of a fault table entry (R111) and the underlying state its source last reported (R112). -/
structure Marks where
  underlying : Bool
  active : Bool
  latched : Bool
  deriving DecidableEq, Repr

/-- All marks clear (R125). -/
def Marks.clear : Marks := ⟨false, false, false⟩

/-- The fault table (R111): the model kinds, the nodes, the keys and the bay kinds. -/
structure FaultTable where
  modelMarks : Vector (Vector Marks 12) 5
  nodeMarks : Vector Marks 62
  keyMarks : Vector (Vector Marks 16) 62
  bayMarks : Vector Marks 4
  deriving DecidableEq, Repr

/-- The Supervisor's state. -/
structure Supervisor where
  zones : Vector Zone 8
  reported : Vector (BitVec 8) 62
  watch : Vector Watch 12
  stopAsserted : Bool
  ack : AckState
  ackTimer : Timer
  faults : FaultTable
  deriving DecidableEq, Repr

/-! ### Alert Unit (spec/08) -/

/-- What an alert record is about: its kind and its subject together (Table 8-2). -/
inductive About where
  | fault (id : FaultId)
  | holdLimit (model : ModelId)
  | startMissed (model : ModelId)
  | commitFailed (model : ModelId)
  | visitorCall (key : Key)
  deriving DecidableEq, Repr

/-- An entry of the route table (R127). -/
structure Route where
  detect : Bool
  spine : Bool
  beacon : Bool
  tier : Nat
  escalation : Nat
  deriving DecidableEq, Repr

/-- Tones of the chime (R144). -/
inductive Tone where
  | khz1 | khz2 | khz29 | khz4
  deriving DecidableEq, Repr

/-- An entry of the pattern table (R144); times are counts of 10 ms. -/
structure Pattern where
  onTime : Nat
  offTime : Nat
  chime : Bool
  tone : Tone
  deriving DecidableEq, Repr

/-- The state of an alert record (Table 8-2). -/
inductive AlertState where
  | unsent | awaiting | acked
  deriving DecidableEq, Repr

/-- An alert record (Table 8-2). -/
structure AlertRecord where
  number : Nat
  about : About
  tier : Nat
  occurrences : Nat
  raisedAt : Clock
  spine : Bool
  beacon : Bool
  state : AlertState
  escalated : Bool
  deadline : Timer
  inFlight : Bool
  resend : Bool
  deriving DecidableEq, Repr

/-- The showing state (R145). -/
inductive Showing where
  | dark
  | steady
  | flash (tier : Nat)
  deriving DecidableEq, Repr

/-- The Alert Unit's state. `phaseOn` and `phaseTimer` are the phase of FLASH; `beacon` and `chime` are the outputs of
R146, which drive the BEACON and CHIME pins (R186). `phaseCut` is the model's own mark (log 35): in this millisecond a
change of the showing state has cut a phase short, so that the phase's end, if it comes now, is void. -/
structure AlertUnit where
  routes : Vector Route 15
  queue : List AlertRecord
  lastNumber : Nat
  overflow : Bool
  lost : Nat
  reportPending : Bool
  overflowSince : Clock
  patterns : Vector Pattern 3
  showing : Showing
  phaseOn : Bool
  phaseTimer : Timer
  phaseCut : Bool
  beacon : Bool
  chime : Option Tone
  deriving DecidableEq, Repr

/-- The route table's defaults (Table 8-1). -/
def defaultRoutes : Vector Route 15 :=
  #v[⟨true, true, true, 2, 6⟩, ⟨true, true, false, 1, 0⟩, ⟨true, true, true, 2, 6⟩, ⟨true, true, true, 2, 6⟩,
     ⟨true, true, true, 2, 6⟩, ⟨true, true, false, 2, 30⟩, ⟨true, true, false, 1, 0⟩, ⟨true, true, true, 3, 3⟩,
     ⟨true, false, true, 2, 0⟩, ⟨true, true, true, 3, 6⟩, ⟨true, true, false, 1, 0⟩, ⟨true, true, true, 2, 12⟩,
     ⟨true, true, false, 1, 0⟩, ⟨true, true, false, 1, 0⟩, ⟨true, true, true, 2, 9⟩]

/-- The pattern table's defaults (Table 8-3). -/
def defaultPatterns : Vector Pattern 3 :=
  #v[⟨20, 180, false, .khz1⟩, ⟨50, 50, false, .khz1⟩, ⟨25, 25, true, .khz29⟩]

/-! ### Mode Control, SETTINGS and pins (spec/09, spec/11, spec/13) -/

/-- The gallery modes (Table 9-1). -/
inductive GalleryMode where
  | closed | opened | doze | waking | service
  deriving DecidableEq, Repr

/-- Mode Control's state (R148). -/
structure ModeControl where
  mode : GalleryMode
  dozeTimer : Timer
  wakeTimer : Timer
  deriving DecidableEq, Repr

/-- The SETTINGS record (Table 11-2), each field in the table's unit. -/
structure Settings where
  samplePeriod : Nat
  dozeTime : Nat
  wakeLimit : Nat
  clearSettle : Nat
  spineSilence : Nat
  bayThreshold : Nat
  deriving DecidableEq, Repr

/-- The reset values of Table 11-2 (R180). -/
def Settings.reset : Settings := ⟨10, 0, 30, 10, 0, 20⟩

/-- The input pins of Table 13-1 that are not line pins. `resetEdge` is a rising edge of RESET_N that waits for CLK to
resume (R185). The output pins are the transmitters' frames and the Alert Unit's `beacon` and `chime`. -/
structure Pins where
  bayStraps : BitVec 5
  rateStraps : BitVec 2
  stopOpen : Bool
  ackClosed : Bool
  resetNHigh : Bool
  clkRunning : Bool
  resetEdge : Bool
  deriving DecidableEq, Repr

/-- The state of the WG340. `pending` is the queue of commands that wait, first in first out. -/
structure State where
  relay : LineRelay
  press : PressArbiter
  motion : MotionSequencer
  sup : Supervisor
  alert : AlertUnit
  modeCtl : ModeControl
  settings : Settings
  pins : Pins
  pending : List Instr
  deriving DecidableEq, Repr

/-- A reason for the part to stop. It has no constructor: every rule of the spec gives an arrival, an expiry or a
command an effect or says that it changes nothing, so nobody raises one. (The fault table of spec/07 is ordinary
state.) -/
inductive Fault where
  deriving DecidableEq, Repr

/-- A reason for the model to give a command no meaning. -/
inductive Refusal where
  /-- Raised by an arm of `exec` whose command has no meaning yet. No arm raises it. Safe: a claim about such a command
  could not be proved. -/
  | notModelled (mnemonic : String)
  deriving DecidableEq, Repr

/-! ### Reset values -/

/-- The payload of the start-up report of a part that holds its reset values with the STOP key released: origin, mode
CLOSED, and zeros (Table 10-7, R172, R184). -/
def startUpPayload (origin : Byte) : List Byte := origin :: List.replicate 62 0

/-- The Line Relay after a hard reset with all straps 0: bay 1, 125 kbit/s (R160, R161, R163, R167 to R173). -/
def LineRelay.reset : LineRelay :=
  { ownBay := 1, rate := .kbps125, rxBay := .discarding, rxSpine := .discarding,
    nodes := Vector.replicate 62 NodeEntry.reset, bayFifo := [], spineFifo := [],
    replyFifo := [⟨mkFrame 0 0 1 0 kStatusReport (startUpPayload 1), false⟩],
    slots := Vector.replicate 62 none, lastDrive := 0, lastPanel := 0, bayOut := none, spineOut := none,
    ringTimer := Config.ringCheckMs, ringRequest := true, ringOutstanding := false, missTimer := none, missRun := 0,
    windowTimer := Config.bayWindowMs, windowCount := 0, spineSilence := none,
    bayCounters := .zero, spineCounters := .zero, softPending := false, softWaiting := false }

/-- The Press Arbiter after either reset (R61 to R63, R72, R76, R79, R83). -/
def PressArbiter.reset : PressArbiter :=
  { recorded := Vector.replicate 62 0, buttons := Vector.replicate 128 none, waits := Vector.replicate 12 [],
    tallies := ⟨0, 0, 0, 0, 0⟩, lamps := Vector.replicate 62 (Vector.replicate 16 .off),
    dirty := Vector.replicate 62 false, refresh := Vector.replicate 62 none }

/-- The Motion Sequencer after a hard reset (R1, R2, R25, R27, R30, R49, R52). -/
def MotionSequencer.reset : MotionSequencer :=
  { models := Vector.replicate 12 Model.reset, cues := Vector.replicate 32 none, profiles := Vector.replicate 64 none,
    schedule := [], clock := 0, sampleTimer := 10, freeNotices := [] }

/-- The fault table after either reset (R125). -/
def FaultTable.reset : FaultTable :=
  { modelMarks := Vector.replicate 5 (Vector.replicate 12 .clear), nodeMarks := Vector.replicate 62 .clear,
    keyMarks := Vector.replicate 62 (Vector.replicate 16 .clear), bayMarks := Vector.replicate 4 .clear }

/-- The Supervisor after either reset with the STOP key released and the ACK key let go (R88, R89, R92, R94, R102,
R103, R106, R108). -/
def Supervisor.reset : Supervisor :=
  { zones := Vector.replicate 8 ⟨.clear, none⟩, reported := Vector.replicate 62 0,
    watch := Vector.replicate 12 Watch.reset, stopAsserted := false, ack := .armed, ackTimer := none,
    faults := .reset }

/-- The Alert Unit after either reset (R127, R129, R144, R145). DESIGN CHOICE, unsafe (log 24): the overflow-since
stamp is 0, for which the spec gives no reset value. -/
def AlertUnit.reset : AlertUnit :=
  { routes := defaultRoutes, queue := [], lastNumber := 0, overflow := false, lost := 0, reportPending := false,
    overflowSince := 0, patterns := defaultPatterns, showing := .dark, phaseOn := false, phaseTimer := none,
    phaseCut := false, beacon := false, chime := none }

/-- Mode Control after either reset (R148). -/
def ModeControl.reset : ModeControl := ⟨.closed, none, none⟩

/-- DESIGN CHOICE, unsafe (log 1): the straps are 0, the STOP contact is closed and the ACK contact open. A
HARD_RESET command brings any other levels. -/
def Pins.reset : Pins := ⟨0, 0, false, false, true, true, false⟩

/-- The part right after a hard reset, before the transmitters take anything up (R125, R172, R185; log 7). -/
def State.reset : State :=
  { relay := .reset, press := .reset, motion := .reset, sup := .reset, alert := .reset, modeCtl := .reset,
    settings := .reset, pins := .reset, pending := [] }

end Sys2Proof.Machine
end

