-- ==== Sys2Proof/Machine/Ops.lean ====
section
/-!
DEFINITION. The named reads and updates of the state: one entry of a table, one block, one model, one node, one entry of
the fault table. Everything else in Machine/ reads and writes the state through these.
-/

namespace Sys2Proof.Machine

/-! ### Tables -/

/-- One entry of a table. -/
def tget {α : Type} {n : Nat} (v : Vector α n) (i : Fin n) : α := v[i.val]

/-- A table with one entry replaced as a whole. -/
def tput {α : Type} {n : Nat} (v : Vector α n) (i : Fin n) (x : α) : Vector α n := v.set i.val x

/-- A table with one entry updated. -/
def tmod {α : Type} {n : Nat} (v : Vector α n) (i : Fin n) (f : α → α) : Vector α n := tput v i (f (tget v i))

/-- A saturating count goes up by one and stops at its largest value (spec/00_scope.md, Conventions). -/
def bump (largest n : Nat) : Nat := if n < largest then n + 1 else n

/-- Models in ascending number. -/
def allModels : List ModelId := List.finRange 12

/-- Nodes in ascending address. -/
def allNodes : List NodeId := List.finRange 62

/-- Zones in ascending number. -/
def allZones : List ZoneId := List.finRange 8

/-- Buttons of a panel in ascending number. -/
def allButtons : List ButtonIx := List.finRange 16

/-- Entries of the button map in ascending index. -/
def allEntries : List EntryIx := List.finRange 128

/-- The part goes on from an operation on each of a list, in the list's order. -/
def forEach {α σ : Type} (xs : List α) (f : α → σ → σ) (s : σ) : σ := xs.foldl (fun t x => f x t) s

/-! ### Blocks -/

/-- An update of the Line Relay. -/
def State.onRelay (s : State) (f : LineRelay → LineRelay) : State := { s with relay := f s.relay }

/-- An update of the Press Arbiter. -/
def State.onPress (s : State) (f : PressArbiter → PressArbiter) : State := { s with press := f s.press }

/-- An update of the Motion Sequencer. -/
def State.onMotion (s : State) (f : MotionSequencer → MotionSequencer) : State := { s with motion := f s.motion }

/-- An update of the Supervisor. -/
def State.onSup (s : State) (f : Supervisor → Supervisor) : State := { s with sup := f s.sup }

/-- An update of the Alert Unit. -/
def State.onAlert (s : State) (f : AlertUnit → AlertUnit) : State := { s with alert := f s.alert }

/-- An update of Mode Control. -/
def State.onMode (s : State) (f : ModeControl → ModeControl) : State := { s with modeCtl := f s.modeCtl }

/-- An update of the pins. -/
def State.onPins (s : State) (f : Pins → Pins) : State := { s with pins := f s.pins }

/-- The part with another queue. -/
def State.withPending (s : State) (q : List Instr) : State := { s with pending := q }

/-! ### Models, nodes, cues, profiles -/

/-- The record of a model. -/
def State.model (s : State) (m : ModelId) : Model := tget s.motion.models m

/-- The part with one model record updated. -/
def State.modModel (s : State) (m : ModelId) (f : Model → Model) : State :=
  s.onMotion fun q => { q with models := tmod q.models m f }

/-- What the Supervisor keeps for a model. -/
def State.watch (s : State) (m : ModelId) : Watch := tget s.sup.watch m

/-- The part with one model's Supervisor record updated. -/
def State.modWatch (s : State) (m : ModelId) (f : Watch → Watch) : State :=
  s.onSup fun q => { q with watch := tmod q.watch m f }

/-- The entry of the node table. -/
def State.node (s : State) (n : NodeId) : NodeEntry := tget s.relay.nodes n

/-- The part with one node entry updated. -/
def State.modNode (s : State) (n : NodeId) (f : NodeEntry → NodeEntry) : State :=
  s.onRelay fun q => { q with nodes := tmod q.nodes n f }

/-- The entry of the cue table; none is EMPTY. -/
def State.cue (s : State) (c : CueId) : Option Cue := tget s.motion.cues c

/-- The entry of the profile table; none is EMPTY. -/
def State.profile (s : State) (p : ProfileId) : Option Profile := tget s.motion.profiles p

/-- The show clock (R49). -/
def State.clock (s : State) : Clock := s.motion.clock

/-- The gallery mode (R148). -/
def State.gallery (s : State) : GalleryMode := s.modeCtl.mode

/-! ### The button map and wait lists -/

/-- The entry of the button map; none is EMPTY. -/
def State.entry (s : State) (i : EntryIx) : Option Button := tget s.press.buttons i

/-- The part with one defined entry of the button map updated; an EMPTY entry stays EMPTY. -/
def State.modEntry (s : State) (i : EntryIx) (f : Button → Button) : State :=
  s.onPress fun q => { q with buttons := tmod q.buttons i (Option.map f) }

/-- The defined entry that holds a key; a button without one is unmapped (R62). -/
def State.entryOf (s : State) (k : Key) : Option EntryIx :=
  allEntries.find? fun i => (s.entry i).any fun b => b.key == k

/-- The wait list of a model (R72). -/
def State.waits (s : State) (m : ModelId) : List Request := tget s.press.waits m

/-- The part with one wait list replaced. -/
def State.setWaits (s : State) (m : ModelId) (l : List Request) : State :=
  s.onPress fun q => { q with waits := tput q.waits m l }

/-- An update of the press tallies. -/
def State.onTallies (s : State) (f : Tallies → Tallies) : State :=
  s.onPress fun q => { q with tallies := f q.tallies }

/-- Whether a button is in its panel's recorded down-set (R61). -/
def State.isDown (s : State) (k : Key) : Bool := (tget s.press.recorded k.node).getLsbD k.button.val

/-- The model a button is mapped to. For a TAP, TOGGLE or HOLD entry the stored byte is at most 11 (R177). -/
def Button.modelId (b : Button) : ModelId := Fin.ofNat 12 b.model.toNat

/-- The cue a button is mapped to. For a TAP, TOGGLE or HOLD entry the stored byte is at most 31 (R177). -/
def Button.cueId (b : Button) : CueId := Fin.ofNat 32 b.cue.toNat

/-! ### The fault table -/

/-- Where a model kind stands in Table 7-1. -/
def ModelKind.index : ModelKind → Fin 5
  | .follow => 0 | .loadAlarm => 1 | .loadTrip => 2 | .driveReport => 3 | .driveSilent => 4

/-- Where a bay kind stands among the bay kinds of Table 7-1. -/
def BayKind.index : BayKind → Fin 4
  | .stopKey => 0 | .spineSilent => 1 | .ringOpen => 2 | .bayCheck => 3

/-- The marks of an entry (R111). -/
def FaultTable.get (t : FaultTable) : FaultId → Marks
  | .model k m => tget (tget t.modelMarks k.index) m
  | .nodeSilent n => tget t.nodeMarks n
  | .buttonStuck k => tget (tget t.keyMarks k.node) k.button
  | .bay k => tget t.bayMarks k.index

/-- The table with one entry's marks updated. -/
def FaultTable.modify (t : FaultTable) (id : FaultId) (f : Marks → Marks) : FaultTable :=
  match id with
  | .model k m => { t with modelMarks := tmod t.modelMarks k.index fun v => tmod v m f }
  | .nodeSilent n => { t with nodeMarks := tmod t.nodeMarks n f }
  | .buttonStuck k => { t with keyMarks := tmod t.keyMarks k.node fun v => tmod v k.button f }
  | .bay k => { t with bayMarks := tmod t.bayMarks k.index f }

/-- The marks of an entry of the part's fault table. -/
def State.marks (s : State) (id : FaultId) : Marks := s.sup.faults.get id

/-- The part with one fault table entry updated. -/
def State.modMarks (s : State) (id : FaultId) (f : Marks → Marks) : State :=
  s.onSup fun q => { q with faults := q.faults.modify id f }

/-- A kind of TRIP class (Table 7-1). LOAD_ALARM is the one model kind that is not. -/
def ModelKind.trips : ModelKind → Bool
  | .loadAlarm => false
  | .follow | .loadTrip | .driveReport | .driveSilent => true

/-- The model a trip-class entry is about; none for every other entry (R115). -/
def FaultId.tripModel : FaultId → Option ModelId
  | .model k m => if k.trips then some m else none
  | .nodeSilent _ | .buttonStuck _ | .bay _ => none

/-- The model kinds in the order of Table 7-1. -/
def modelKinds : List ModelKind := [.follow, .loadAlarm, .loadTrip, .driveReport, .driveSilent]

/-- Every entry of the fault table, in the order of Table 7-1 by kind and then ascending subject (R111, R123). -/
def allFaults : List FaultId :=
  (modelKinds.flatMap fun k => allModels.map (FaultId.model k)) ++ allNodes.map .nodeSilent ++
  (allNodes.flatMap fun n => allButtons.map fun b => .buttonStuck ⟨n, b⟩) ++
  [.bay .stopKey, .bay .spineSilent, .bay .ringOpen, .bay .bayCheck]

/-! ### Kinds and routes -/

/-- The kind code of a fault table entry (Table 8-1). -/
def FaultId.kindCode : FaultId → Fin 15
  | .model .follow _ => 0 | .model .loadAlarm _ => 1 | .model .loadTrip _ => 2 | .model .driveReport _ => 3
  | .model .driveSilent _ => 4 | .nodeSilent _ => 5 | .buttonStuck _ => 6
  | .bay .stopKey => 7 | .bay .spineSilent => 8 | .bay .ringOpen => 9 | .bay .bayCheck => 10

/-- The kind code of what an alert record is about (Table 8-1). -/
def About.kindCode : About → Fin 15
  | .fault id => id.kindCode
  | .holdLimit _ => 11 | .startMissed _ => 12 | .commitFailed _ => 13 | .visitorCall _ => 14

/-- A kind of class EVENT (Table 7-1). -/
def About.isEvent : About → Bool
  | .fault _ => false
  | .holdLimit _ | .startMissed _ | .commitFailed _ | .visitorCall _ => true

/-- The two bytes of a model, a node, a key and the bay as a subject (section 10.9). -/
def About.subjectBytes : About → List Byte
  | .fault (.model _ m) | .holdLimit m | .startMissed m | .commitFailed m => [byteOf m.val, 0]
  | .fault (.nodeSilent n) => [addressOf n, 0]
  | .fault (.buttonStuck k) | .visitorCall k => [addressOf k.node, byteOf k.button.val]
  | .fault (.bay _) => [0, 0]

/-- The route entry of a kind code (R127). -/
def State.route (s : State) (c : Fin 15) : Route := tget s.alert.routes c

/-- The detect enable of an entry's kind (R112). -/
def State.detects (s : State) (id : FaultId) : Bool := (s.route id.kindCode).detect

/-! ### Port counters and frames -/

/-- An update of BAY's counters. -/
def State.onBayCounters (s : State) (f : BayCounters → BayCounters) : State :=
  s.onRelay fun q => { q with bayCounters := f q.bayCounters }

/-- An update of SPINE's counters. -/
def State.onSpineCounters (s : State) (f : SpineCounters → SpineCounters) : State :=
  s.onRelay fun q => { q with spineCounters := f q.spineCounters }

/-- R173: a counter goes up by one and saturates at 65,535. -/
def count (n : Nat) : Nat := bump Config.counterMax n

/-- R167: a frame joins the tail of the bay forward FIFO, or is dropped and counted. -/
def forwardDown (f : Frame) (s : State) : State :=
  if s.relay.bayFifo.length < Config.forwardDepth then s.onRelay fun q => { q with bayFifo := q.bayFifo ++ [f] }
  else s.onBayCounters fun c => { c with dropped := count c.dropped }

/-- R167: a frame joins the tail of the spine forward FIFO, or is dropped and counted. -/
def forwardUp (f : Frame) (s : State) : State :=
  if s.relay.spineFifo.length < Config.forwardDepth then s.onRelay fun q => { q with spineFifo := q.spineFifo ++ [f] }
  else s.onSpineCounters fun c => { c with dropped := count c.dropped }

/-- A frame the part builds: source bay own, source node 0 (R169, R170). -/
def State.ownFrame (s : State) (dstBay dstNode kind : Byte) (payload : List Byte) : Frame :=
  mkFrame dstBay dstNode s.relay.ownBay 0 kind payload

end Sys2Proof.Machine
end

