-- ==== Sys2Proof/Machine/Flags.lean ====
section
/-!
DEFINITION. What the part derives from its state and never stores twice: zone occupancy, the startable test, cue
validity and the verdict on a start request, the quiet condition, the held condition of a zone, the showing state and
the lamp states. Each is a plain function of the state as it stands.
-/

namespace Sys2Proof.Machine

/-! ### Zones (R88, R90, R92) -/

/-- R88: a zone is occupied while its state is OCCUPIED or SETTLING. -/
def ZoneState.isOccupied : ZoneState → Bool
  | .clear => false
  | .occupied | .settling => true

/-- Whether a zone is occupied. -/
def State.zoneOccupied (s : State) (z : ZoneId) : Bool := (tget s.sup.zones z).state.isOccupied

/-- R92: at least one zone of a mask is occupied. -/
def State.maskOccupied (s : State) (mask : BitVec 8) : Bool :=
  allZones.any fun z => mask.getLsbD z.val && s.zoneOccupied z

/-- R88: a node owns a zone when it is a SENSOR whose zone ownership names it. -/
def State.ownsZone (s : State) (n : NodeId) (z : ZoneId) : Bool :=
  (s.node n).role == .sensor && (s.node n).zones.getLsbD z.val

/-- Whether a zone has an owner. -/
def State.zoneOwned (s : State) (z : ZoneId) : Bool := allNodes.any fun n => s.ownsZone n z

/-- R90: a zone is held by a report, by the NODE_SILENT condition of an owner, or by RING_OPEN. -/
def State.zoneHeld (s : State) (z : ZoneId) : Bool :=
  allNodes.any fun n => s.ownsZone n z &&
    ((tget s.sup.reported n).getLsbD z.val || (s.marks (.nodeSilent n)).active || (s.marks (.bay .ringOpen)).active)

/-! ### Starting a cue (R5, R6, R28) -/

/-- R5: the mode allows CONTROL in OPEN and SERVICE, and a visitor in OPEN. -/
def modeAllows (g : GalleryMode) (requester : Owner) : Bool :=
  match g, requester with
  | .opened, _ => true
  | .service, .control => true
  | .service, .button _ => false
  | .closed, _ | .doze, _ | .waking, _ => false

/-- R5: the startable test. -/
def State.startable (s : State) (m : ModelId) (requester : Owner) : Bool :=
  (s.model m).state == .idle && !s.maskOccupied (s.model m).config.zoneMask && !s.sup.stopAsserted &&
    modeAllows s.gallery requester

/-- R28: a cue is valid at start when it is defined and every profile its PLAY steps name is defined. -/
def State.cueValid (s : State) (c : CueId) : Bool :=
  (s.cue c).any fun q => q.steps.all fun
    | .play p => (s.profile p).isSome
    | .dwell _ => true

/-- What the Motion Sequencer answers a start request (R6). -/
inductive Verdict where
  | ok | notReady | busy | mode | cueInvalid | blocked | faultLatched
  deriving DecidableEq, Repr

/-- R6: the first point that applies is the verdict. -/
def State.verdict (s : State) (m : ModelId) (c : CueId) (requester : Owner) : Verdict :=
  match (s.model m).state with
  | .disabled | .enabling | .stopped | .faulted => .notReady
  | .running | .holding | .returning => .busy
  | .idle =>
    if !modeAllows s.gallery requester then .mode
    else if !s.cueValid c then .cueInvalid
    else if s.maskOccupied (s.model m).config.zoneMask || s.sup.stopAsserted then .blocked
    else if (s.model m).flagSeen then .faultLatched
    else .ok

/-- The result code of a verdict (Table 3-2). -/
def Verdict.result : Verdict → Result
  | .ok => .ok | .notReady => .notReady | .busy => .busy | .mode => .mode | .cueInvalid => .cueInvalid
  | .blocked => .blocked | .faultLatched => .faultLatched

/-- R29: a model is playing a cue: RUNNING, or HOLDING with resume target CUE. -/
def Model.inPlay (m : Model) : Bool :=
  m.state == .running || (m.state == .holding && m.target == some .cue)

/-- Whether the button with this key owns the cue of this model (R4). -/
def State.ownsCue (s : State) (k : Key) (m : ModelId) : Bool := (s.model m).owner == some (.button k)

/-- Whether the button has a request in the model's wait list. -/
def State.isWaiting (s : State) (k : Key) (m : ModelId) : Bool := (s.waits m).any fun r => r.key == k

/-- R69: a button is in lockout while its lockout runs. -/
def Button.inLockout (b : Button) : Bool := b.lockoutTimer.isSome

/-- R70: the stuck timer of a HOLD button is suspended while the button owns a cue. -/
def State.stuckSuspended (s : State) (b : Button) : Bool := b.mode == .hold && s.ownsCue b.key b.modelId

/-! ### Schedule list and quiet condition (R54, R56, R154) -/

/-- The due entry that names a model (R56). -/
def State.dueEntry (s : State) (m : ModelId) : Option ScheduleEntry :=
  s.motion.schedule.find? fun e => e.model == m && e.due.isSome

/-- R49: the reach test. -/
def reached (clock t : Clock) : Bool := (clock - t).toNat < 2 ^ 31

/-- R154: the bay is quiet. -/
def State.quiet (s : State) : Bool :=
  s.gallery == .opened &&
  (allModels.all fun m => (s.model m).state == .disabled || (s.model m).state == .idle) &&
  (allModels.all fun m => (s.waits m).isEmpty) &&
  (s.motion.schedule.all fun e => e.due.isNone) &&
  s.settings.dozeTime != 0

/-- R157: every model that is not DISABLED has its energised record set. -/
def State.allEnergised (s : State) : Bool :=
  allModels.all fun m => (s.model m).state == .disabled || (s.watch m).energised

/-! ### The alert queue's views (R128 to R145) -/

/-- A record is unacknowledged while its state is UNSENT or AWAITING. -/
def AlertRecord.unacked (r : AlertRecord) : Bool := r.state != .acked

/-- R145: the highest tier among the unacknowledged beacon-routed records; 0 when there is none. -/
def flashTier (queue : List AlertRecord) : Nat :=
  queue.foldl (fun t r => if r.unacked && r.beacon then max t r.tier else t) 0

/-- R145: whether some unacknowledged record is beacon-routed. -/
def flashing (queue : List AlertRecord) : Bool := queue.any fun r => r.unacked && r.beacon

/-- R145: the showing state that the queue and the overflow flag give. -/
def showingOf (queue : List AlertRecord) (overflow : Bool) : Showing :=
  if overflow then .flash 3
  else if flashing queue then .flash (flashTier queue)
  else if queue.any fun r => r.beacon then .steady
  else .dark

/-- R134: the Alert Unit has an alert to offer. -/
def State.hasOffer (s : State) : Bool :=
  !(s.marks (.bay .spineSilent)).active &&
  (s.alert.reportPending || s.alert.queue.any fun r => r.state == .unsent && !r.inFlight)

/-- R81 test 5: a VISITOR_CALL record for the key is UNSENT or AWAITING. -/
def State.callOutstanding (s : State) (k : Key) : Bool :=
  s.alert.queue.any fun r => r.about == .visitorCall k && r.unacked

/-! ### Lamps (R80, R81) -/

/-- R80: the lamp of a TAP, TOGGLE or HOLD button. -/
def State.visitorLamp (s : State) (b : Button) : Lamp :=
  let m := b.modelId
  let st := (s.model m).state
  match s.gallery with
  | .closed => .off
  | .service => .out
  | .doze => .wake
  | .opened | .waking =>
    if b.suspect then .out
    else if st == .disabled || st == .enabling || st == .stopped || st == .faulted then .out
    else if s.ownsCue b.key m && st == .holding && (s.model m).holdPause then .paused
    else if s.ownsCue b.key m then .running
    else if s.isWaiting b.key m then .wait
    else if b.inLockout then .locked
    else if s.startable m (.button b.key) then .ready
    else .busy

/-- R81: the lamp of a CALL button. -/
def State.callLamp (s : State) (b : Button) : Lamp :=
  match s.gallery with
  | .closed => .off
  | .service => .out
  | .doze => .wake
  | .opened | .waking =>
    if b.suspect then .out
    else if s.callOutstanding b.key then .running
    else if b.inLockout then .locked
    else .ready

/-- R79: the lamp of a mapped button. -/
def State.lampOf (s : State) (b : Button) : Lamp := if b.mode == .call then s.callLamp b else s.visitorLamp b

/-- The lamp state held for a button (R79). -/
def State.lamp (s : State) (k : Key) : Lamp := tget (tget s.press.lamps k.node) k.button

/-! ### Codes -/

/-- Lamp codes (Table 5-1). -/
def Lamp.code : Lamp → Nat
  | .off => 0 | .ready => 1 | .busy => 2 | .wait => 3 | .running => 4 | .paused => 5 | .locked => 6 | .out => 7
  | .wake => 8

/-- Gallery mode codes (Table 9-1). -/
def GalleryMode.code : GalleryMode → Nat
  | .closed => 0 | .opened => 1 | .doze => 2 | .waking => 3 | .service => 4

/-- Model state codes (Table 10-7). -/
def ModelState.code : ModelState → Nat
  | .disabled => 0 | .enabling => 1 | .idle => 2 | .running => 3 | .holding => 4 | .returning => 5 | .stopped => 6
  | .faulted => 7

end Sys2Proof.Machine
end

