-- ==== Sys2Proof/Machine/AlertOps.lean ====
section
/-!
DEFINITION. The Alert Unit (spec/08): raising, numbering, a full queue, sending, escalation, acknowledgement, removal,
and BEACON and CHIME.
-/

namespace Sys2Proof.Machine

/-! ### BEACON and CHIME (R145, R146) -/

/-- The pattern table's index of a tier: 0-2 for tiers 1-3 (R144). -/
def tierIndex (t : Nat) : Fin 3 := if t ≤ 1 then 0 else if t = 2 then 1 else 2

/-- R146, R144: a phase of FLASH `t` begins; the fields of the tier are read now. -/
def startPhase (on : Bool) (t : Nat) (a : AlertUnit) : AlertUnit :=
  let p := tget a.patterns (tierIndex t)
  { a with phaseOn := on, phaseTimer := some ((if on then p.onTime else p.offTime) * 10), beacon := on,
           chime := if on && p.chime then some p.tone else none }

/-- R146: a derivation that changes the showing state sets the outputs; FLASH starts at once with an on-phase. A
derivation that gives the same state leaves the phase and its timer. A phase that was running is cut short (log 35). -/
def showAs (new : Showing) (a : AlertUnit) : AlertUnit :=
  if new = a.showing then a
  else
    let a := { a with showing := new, phaseCut := a.phaseCut || a.phaseTimer.isSome }
    match new with
    | .dark => { a with phaseOn := false, phaseTimer := none, beacon := false, chime := none }
    | .steady => { a with phaseOn := false, phaseTimer := none, beacon := true, chime := none }
    | .flash t => startPhase true t a

/-- R145: the showing state is derived again. -/
def deriveShowing (s : State) : State := s.onAlert fun a => showAs (showingOf a.queue a.overflow) a

/-- R146: the end of a phase; the other phase begins. Outside FLASH no phase timer runs. The end of a phase that a change
of the showing state has cut short in the same millisecond is void: in both orders the pattern stands at the on-phase
that the change began. DESIGN CHOICE, unsafe (log 35). -/
def phaseEnd (a : AlertUnit) : AlertUnit :=
  if a.phaseCut then { a with phaseCut := false }
  else match a.showing with
    | .flash t => if a.phaseTimer.isSome then startPhase (!a.phaseOn) t a else a
    | .dark | .steady => a

/-! ### Raising (R130 to R133) -/

/-- R137: the deadline that a kind's route entry gives at a start; stopped for an escalation time of 0. -/
def State.newDeadline (s : State) (a : About) : Timer :=
  let e := (s.route a.kindCode).escalation
  if e = 0 then none else some (e * 10000)

/-- R130 point 2: a raise merges into a record. -/
def mergeRecord (deadline : Timer) (r : AlertRecord) : AlertRecord :=
  let r := { r with occurrences := bump 255 r.occurrences }
  match r.state with
  | .unsent | .awaiting => r
  | .acked =>
    { r with state := if r.spine then .unsent else .awaiting, resend := r.resend || (r.inFlight && r.spine), deadline }

/-- R131: the numbers in the order they are tried: one above the last-assigned number up to 255, then from 1. -/
def numberOrder (last : Nat) : List Nat := (List.range 255).map fun i => (last + i) % 255 + 1

/-- R131: the first number that no record holds. -/
def freeNumber (last : Nat) (queue : List AlertRecord) : Nat :=
  ((numberOrder last).find? fun n => !queue.any fun r => r.number == n).getD 0

/-- R131: the new record, read from the kind's route entry. -/
def State.newRecord (s : State) (a : About) (number : Nat) : AlertRecord :=
  let r := s.route a.kindCode
  { number, about := a, tier := r.tier, occurrences := 1, raisedAt := s.clock, spine := r.spine, beacon := r.beacon,
    state := if r.spine then .unsent else .awaiting, escalated := false, deadline := s.newDeadline a,
    inFlight := false, resend := false }

/-- R131: a record for `a` is numbered and added at the tail of the queue. -/
def addRecord (a : About) (s : State) : State :=
  let n := freeNumber s.alert.lastNumber s.alert.queue
  let r := s.newRecord a n
  s.onAlert fun u => { u with queue := u.queue ++ [r], lastNumber := n }

/-- R132: the oldest acknowledged record is discarded. -/
def discardAcked (s : State) : State :=
  s.onAlert fun u => { u with queue := u.queue.eraseP fun r => r.state == .acked }

/-- R132: the raise is lost. -/
def loseRaise (s : State) : State :=
  let now := s.clock
  s.onAlert fun u => { u with
    overflow := true, lost := bump 255 u.lost, reportPending := true,
    overflowSince := if u.overflow then u.overflowSince else now }

/-- R131, R132: a record is to be made; room is made first when the queue is full. -/
def makeRecord (a : About) (s : State) : State :=
  let r := s.route a.kindCode
  if !(r.spine || r.beacon) then s
  else if s.alert.queue.length < Config.alertDepth then addRecord a s
  else if s.alert.queue.any fun r => r.state == .acked then addRecord a (discardAcked s)
  else loseRaise s

/-- R130: a raise is taken. -/
def raise (a : About) (s : State) : State :=
  if a.isEvent && !(s.route a.kindCode).detect then s
  else if s.alert.queue.any fun r => r.about == a then
    let d := s.newDeadline a
    deriveShowing (s.onAlert fun u => { u with
      queue := u.queue.map fun r => if r.about == a then mergeRecord d r else r })
  else deriveShowing (makeRecord a s)

/-! ### Sending (R133 to R135) -/

/-- The payload of an ALERT frame (Table 10-4). -/
def alertPayload (number kind : Byte) (subject : List Byte) (tier occurrences : Byte) (raisedAt : Clock)
    (escalated : Bool) : List Byte :=
  [number, kind] ++ subject ++ [tier, occurrences] ++ le32 raisedAt ++ [flagBit 0 escalated]

/-- R134: among the UNSENT records not in flight, the one of highest tier, and the nearest the head of that tier. -/
def pickAlert (queue : List AlertRecord) : Option AlertRecord :=
  queue.foldl (fun best r =>
    if r.state == .unsent && !r.inFlight && (match best with | none => true | some b => b.tier < r.tier) then some r
    else best) none

/-- R134: an offer is taken; one ALERT frame is built, addressed to bay 0, node 0. -/
def takeOffer (s : State) : State × Option Frame :=
  if s.alert.reportPending then
    let f := s.ownFrame 0 0 kAlert
      (alertPayload 0 0 [0, 0] 3 (byteOf s.alert.lost) s.alert.overflowSince false)
    (s.onAlert fun u => { u with reportPending := false }, some f)
  else match pickAlert s.alert.queue with
    | none => (s, none)
    | some r =>
      let f := s.ownFrame 0 0 kAlert
        (alertPayload (byteOf r.number) (byteOf r.about.kindCode.val) r.about.subjectBytes (byteOf r.tier)
          (byteOf r.occurrences) r.raisedAt r.escalated)
      (s.onAlert fun u => { u with
        queue := u.queue.map fun q => if q.number == r.number then { q with inFlight := true, resend := false } else q },
       some f)

/-- R135: the record whose frame has left SPINE_OUT moves on. -/
def recordLeft (r : AlertRecord) : AlertRecord :=
  if r.inFlight then
    match r.state with
    | .unsent => if r.resend then { r with inFlight := false, resend := false }
                 else { r with inFlight := false, state := .awaiting }
    | .awaiting | .acked => { r with inFlight := false }
  else r

/-- R135: an ALERT frame has left SPINE_OUT. One frame is in progress at a time, so at most one record is in flight. -/
def alertLeft (s : State) : State := s.onAlert fun u => { u with queue := u.queue.map recordLeft }

/-! ### Escalation, acknowledgement and removal (R137 to R143) -/

/-- R138: the deadline of a record expires. -/
def escalateRecord (deadline : Timer) (r : AlertRecord) : AlertRecord :=
  { r with tier := if r.tier < 3 then r.tier + 1 else r.tier, escalated := true,
           state := if r.spine then .unsent else r.state, resend := r.resend || (r.inFlight && r.spine), deadline }

/-- R138: the deadline of the record with this number expires, if it runs. -/
def escalate (number : Nat) (s : State) : State :=
  deriveShowing (s.onAlert fun u => { u with
    queue := u.queue.map fun r =>
      if r.number == number && r.deadline.isSome then escalateRecord (s.newDeadline r.about) r else r })

/-- A record becomes ACKED and its deadline stops (R139, R141). -/
def ackRecord (r : AlertRecord) : AlertRecord := { r with state := .acked, deadline := none }

/-- R142: an ACKED record of an EVENT kind, or whose fault is not latched, is removable. -/
def State.removable (s : State) (r : AlertRecord) : Bool :=
  r.state == .acked && (match r.about with
    | .fault id => !(s.marks id).latched
    | .holdLimit _ | .startMissed _ | .commitFailed _ | .visitorCall _ => true)

/-- The queue with the records that `p` picks acknowledged, and each of those removed if it is removable (R139, R141,
R142). -/
def State.ackedQueue (s : State) (p : AlertRecord → Bool) : List AlertRecord :=
  s.alert.queue.filterMap fun r =>
    if p r && r.unacked then (if s.removable (ackRecord r) then none else some (ackRecord r)) else some r

/-- R139: an ALERT_ACK with a number 1-255. -/
def ackNumber (number : Nat) (s : State) : State × Verdict16 :=
  if s.alert.queue.any fun r => r.number == number then
    let q := s.ackedQueue fun r => r.number == number
    (deriveShowing (s.onAlert fun u => { u with queue := q }), (.ok, BitVec.ofNat 16 q.length))
  else (s, (.unknownAlert, 0))

/-- R140: an ALERT_ACK with number 0. DEDUCED, unsafe (log 33): a lost count kept by a short press (R141) is cleared with
the flag already clear, and the detail is then 0. -/
def ackOverflow (s : State) : State × Verdict16 :=
  (deriveShowing (s.onAlert fun u => { u with overflow := false, lost := 0, reportPending := false }),
   (.ok, if s.alert.overflow then BitVec.ofNat 16 s.alert.lost else 0))

/-- R141: a short press of the ACK key. The lost count is kept. -/
def ackFromFloor (s : State) : State :=
  let q := s.ackedQueue fun r => r.beacon
  deriveShowing (s.onAlert fun u => { u with queue := q, overflow := false, reportPending := false })

/-- R142: a clear notice names the kind and subject of a cleared latch. -/
def clearNotice (id : FaultId) (s : State) : State :=
  deriveShowing (s.onAlert fun u => { u with
    queue := u.queue.filter fun r => !(r.about == .fault id && s.removable r) })

end Sys2Proof.Machine
end

