-- ==== Sys2Proof/Machine/ModelOps.lean ====
section
/-!
DEFINITION. Changes of a model's state and what every change reports (R3): the hold-limit timer, the following check,
the flush of the wait list and the doze timer. Then the transitions that need no start: cut, pause, resume edge, stop,
trip and reseat (spec/01, sections 1.5 to 1.7).
-/

namespace Sys2Proof.Machine

/-! ### The doze timer (R154) -/

/-- R154: Mode Control tests the quiet condition. A bay that becomes quiet starts the timer at the doze time, a bay that
stops being quiet stops it; `restart` is a notice that restarts the timer if the bay is quiet. -/
def quietTest (restart : Bool) (s : State) : State :=
  if s.quiet then
    if restart || s.modeCtl.dozeTimer.isNone then
      let t := s.settings.dozeTime * 60000
      s.onMode fun q => { q with dozeTimer := some t }
    else s
  else s.onMode fun q => { q with dozeTimer := none }

/-! ### Tallies and flushes (R75, R76) -/

/-- A tally goes up by `k` and saturates (R76). -/
def addTally (k n : Nat) : Nat := min Config.tallyMax (n + k)

/-- R75: every request of a model's list is removed and counted flushed. -/
def flushList (m : ModelId) (s : State) : State :=
  let k := (s.waits m).length
  quietTest false ((s.setWaits m []).onTallies fun t => { t with flushed := addTally k t.flushed })

/-- R75: every request of every list is removed and counted flushed. -/
def flushAll (s : State) : State := forEach allModels flushList s

/-- R75: the requests of a list beyond a depth are removed from the tail, each counted flushed. -/
def trimList (m : ModelId) (depth : Nat) (s : State) : State :=
  let k := (s.waits m).length - depth
  quietTest false ((s.setWaits m ((s.waits m).take depth)).onTallies fun t =>
    { t with flushed := addTally k t.flushed })

/-- R71, R75: the button's request in a model's list is removed and counted flushed. -/
def flushKey (k : Key) (m : ModelId) (s : State) : State :=
  if s.isWaiting k m then
    quietTest false ((s.setWaits m ((s.waits m).filter fun r => r.key != k)).onTallies fun t =>
      { t with flushed := addTally 1 t.flushed })
  else s

/-! ### A change of a model and its notices (R3) -/

/-- A condition without readers becomes inactive with its underlying state (R97, R105). -/
def quench (id : FaultId) (s : State) : State :=
  s.modMarks id fun k => { k with underlying := false, active := false }

/-- R94: whether the hold-limit timer of a model runs: HOLDING with ZONE in its hold-cause set. -/
def Model.zoneHeld (m : Model) : Bool := m.state == .holding && m.holdZone

/-- The states whose entry is out of service (R3) and ends the following check (R97). -/
def ModelState.outOfService : ModelState → Bool
  | .stopped | .faulted | .disabled => true
  | .enabling | .idle | .running | .holding | .returning => false

/-- R94: the hold-limit timer starts when ZONE enters the hold-cause set and stops when it leaves. -/
def syncHoldLimit (m : ModelId) (old new : Model) (s : State) : State :=
  if new.zoneHeld && !old.zoneHeld then s.modWatch m fun w => { w with holdTimer := some (new.config.holdLimit * 1000) }
  else if old.zoneHeld && !new.zoneHeld then s.modWatch m fun w => { w with holdTimer := none }
  else s

/-- R3, R97: entry into STOPPED, FAULTED or DISABLED ends the following check and flushes the wait list. -/
def syncOutOfService (m : ModelId) (old new : Model) (s : State) : State :=
  if new.state.outOfService && new.state != old.state then
    flushList m (quench (.model .follow m) (s.modModel m fun x => { x with run := 0 }))
  else s

/-- R3, R154: entries into and exits from IDLE and DISABLED are tested for quiet; an exit from IDLE restarts. -/
def syncQuiet (old new : Model) (s : State) : State :=
  if new.state = old.state then s
  else if old.state == .idle then quietTest true s
  else if new.state == .idle || new.state == .disabled || old.state == .disabled then quietTest false s
  else s

/-- R103: the length of a model's drive silence timer, read from its drive node when the timer starts. -/
def State.driveTimeout (s : State) (c : ModelConfig) : Timer := c.driveNode.map fun n => (s.node n).timeout * 100

/-- R103: the drive silence timer starts when the model enters ENABLING. -/
def syncDriveWatch (m : ModelId) (old new : Model) (s : State) : State :=
  if new.state == .enabling && old.state != .enabling then
    let t := s.driveTimeout new.config
    s.modWatch m fun w => { w with driveSilence := t }
  else s

/-- R3: a model's run state changes, and the change is reported to the other blocks. -/
def changeModel (m : ModelId) (f : Model → Model) (s : State) : State :=
  let old := s.model m
  let new := f old
  syncQuiet old new (syncOutOfService m old new (syncDriveWatch m old new
    (syncHoldLimit m old new (s.modModel m fun _ => new))))

/-! ### Cut, pause and resume edge (R10, R13) -/

/-- The cue position is discarded and the owner cleared (R4). -/
def Model.dropCue (m : Model) : Model := { m with position := none, owner := none }

/-- The hold-cause set is emptied, the resume target becomes absent and the pause window timer stops. -/
def Model.dropHold (m : Model) : Model :=
  { m with holdZone := false, holdPause := false, target := none, pauseTimer := none }

/-- R10: what a cut does to a model. -/
def Model.cut (m : Model) : Model :=
  match m.state with
  | .running => { m.dropCue with state := .returning }
  | .holding =>
    let m := { m.dropCue with holdPause := false, pauseTimer := none }
    if m.holdZone then { m with target := some .home } else { m with target := none, state := .returning }
  | .disabled | .enabling | .idle | .returning | .stopped | .faulted => m

/-- R10: a cut arrives. -/
def cutModel (m : ModelId) (s : State) : State := changeModel m Model.cut s

/-- R13: what a pause does to a model. -/
def Model.pause (m : Model) : Model :=
  match m.state with
  | .running =>
    { m with state := .holding, holdPause := true, target := some .cue, pauseTimer := some (m.config.pauseWindow * 1000) }
  | .holding =>
    if m.target = some .cue then
      { m with holdPause := true,
               pauseTimer := if m.pauseTimer.isSome then m.pauseTimer else some (m.config.pauseWindow * 1000) }
    else m
  | .disabled | .enabling | .idle | .returning | .stopped | .faulted => m

/-- R13: what a resume edge does to a model. -/
def Model.resumeEdge (m : Model) : Model :=
  if m.state = .holding ∧ m.holdPause = true then
    let m := { m with holdPause := false, pauseTimer := none }
    if m.holdZone then m else { m with state := .running, target := none }
  else m

/-- R13: a pause arrives. -/
def pauseModel (m : ModelId) (s : State) : State := changeModel m Model.pause s

/-- R13: a resume edge arrives. -/
def resumeModel (m : ModelId) (s : State) : State := changeModel m Model.resumeEdge s

/-- R13: the pause window timer expires: PAUSE is removed and the model is cut. -/
def pauseWindowEnds (m : ModelId) (s : State) : State :=
  if (s.model m).pauseTimer.isSome then
    changeModel m (fun x => ({ x with holdPause := false, pauseTimer := none } : Model).cut) s
  else s

/-! ### Zone hold (R11) -/

/-- R11: what a zone hold does to a model. -/
def Model.zoneHold (m : Model) : Model :=
  match m.state with
  | .running => { m with state := .holding, holdZone := true, target := some .cue }
  | .returning => { m with state := .holding, holdZone := true, target := some .home }
  | .holding => { m with holdZone := true }
  | .disabled | .enabling | .idle | .stopped | .faulted => m

/-- R11: a zone hold arrives. -/
def holdModel (m : ModelId) (s : State) : State := changeModel m Model.zoneHold s

/-! ### Stop, trip and reseat (R14, R15, R17) -/

/-- R15: what a stop does to a model. -/
def Model.stop (m : Model) : Model :=
  match m.state with
  | .idle | .running | .holding | .returning => { m.dropCue.dropHold with state := .stopped }
  | .disabled | .enabling | .stopped | .faulted => m

/-- R15: a stop arrives. -/
def stopModel (m : ModelId) (s : State) : State := changeModel m Model.stop s

/-- R17: what a trip does to a model. -/
def Model.trip (m : Model) : Model :=
  match m.state with
  | .disabled | .faulted => m
  | .enabling | .idle | .running | .holding | .returning | .stopped => { m.dropCue.dropHold with state := .faulted }

/-- R17: a trip arrives. -/
def tripModel (m : ModelId) (s : State) : State := changeModel m Model.trip s

/-- R41: a target is brought into the model's travel. -/
def clampTravel (c : ModelConfig) (raw : Int) : Int :=
  if raw < c.travelMin then c.travelMin else if c.travelMax < raw then c.travelMax else raw

/-- R14: a model is seated at a fed-back position. -/
def Model.seat (m : Model) (p : Int) : Model :=
  let x := clampTravel m.config p
  { m with lastSetpoint := x, history := List.replicate 8 x, run := 0 }

/-- R14: the reseat choice: HOLDING with ZONE and target RETURN where a zone in the mask is occupied, else RETURNING. -/
def Model.goHome (m : Model) (occupied : Bool) : Model :=
  if occupied then { m.dropHold with state := .holding, holdZone := true, target := some .home }
  else { m.dropHold with state := .returning }

/-- R14: a model is reseated and takes the reseat choice; without a fed-back position it enters ENABLING. -/
def reseat (m : ModelId) (s : State) : State :=
  match (s.model m).fedBack with
  | none => changeModel m (fun x => { x with state := .enabling }) s
  | some p =>
    let occ := s.maskOccupied (s.model m).config.zoneMask
    quench (.model .follow m) (changeModel m (fun x => (x.seat p).goHome occ) s)

/-- R20: the first feedback of an ENABLING model. -/
def firstFeedback (m : ModelId) (p : Int) (s : State) : State :=
  let occ := s.maskOccupied (s.model m).config.zoneMask
  let stop := s.sup.stopAsserted
  quench (.model .follow m) (changeModel m (fun x =>
    let x := { x with fedBack := some p }.seat p
    if stop then { x with state := .stopped } else x.goHome occ) s)

/-- R16: a resume with the STOP key released reseats every STOPPED model in ascending number. -/
def resumeAll (s : State) : State :=
  forEach allModels (fun m t => if (t.model m).state = .stopped then reseat m t else t) s

/-- R18: a trip release arrives. -/
def releaseTrip (m : ModelId) (s : State) : State :=
  if (s.model m).state = .faulted then
    if s.sup.stopAsserted then changeModel m (fun x => { x with state := .stopped }) s else reseat m s
  else s

end Sys2Proof.Machine
end

