-- ==== Sys2Proof/Machine/FaultOps.lean ====
section
/-!
DEFINITION. The fault table's operations (spec/07): a change of an underlying state, a condition becoming active, a drive
report, a change of a detect enable, and clearing latches.
-/

namespace Sys2Proof.Machine

/-- R114 steps 2 to 4: the entry is latched; a newly latched entry of TRIP class trips its model; the kind and subject
are raised. -/
def latchAndRaise (id : FaultId) (s : State) : State :=
  let newly := !(s.marks id).latched
  let s := s.modMarks id fun k => { k with latched := true }
  let s := match id.tripModel with
    | some m => if newly then tripModel m s else s
    | none => s
  raise (.fault id) s

/-- Whether an entry is latched by a drive report and not by its condition (R114). -/
def FaultId.byReport : FaultId → Bool
  | .model .driveReport _ => true
  | .model .follow _ | .model .loadAlarm _ | .model .loadTrip _ | .model .driveSilent _ | .nodeSilent _
  | .buttonStuck _ | .bay _ => false

/-- R114: a condition becomes active. DEDUCED, unsafe (log 16): for DRIVE_REPORT only the active mark is set. -/
def activate (id : FaultId) (s : State) : State :=
  let s := s.modMarks id fun k => { k with active := true }
  if id.byReport then s else latchAndRaise id s

/-- R112: a source reports its underlying state; the condition is active while that is true and detection is on. -/
def report (id : FaultId) (value : Bool) (s : State) : State :=
  let was := (s.marks id).active
  let s := s.modMarks id fun k => { k with underlying := value }
  if value && s.detects id then (if was then s else activate id s)
  else s.modMarks id fun k => { k with active := false }

/-- R6, R100, R101, R114: a drive report for a model goes through steps 2 to 4 of R114, whatever its condition and the
detect enable of DRIVE_REPORT say: those decide the active mark alone (R112). -/
def driveReport (m : ModelId) (s : State) : State := latchAndRaise (.model .driveReport m) s

/-- R113: a detect enable of a latching kind has changed: every entry of the kind follows its underlying state, in
ascending order of subject. -/
def redetect (code : Fin 15) (s : State) : State :=
  forEach (allFaults.filter fun id => id.kindCode == code) (fun id t => report id (t.marks id).underlying t) s

/-- R122: the named latches whose condition is inactive, in the order of Table 7-1. -/
def State.clearable (s : State) (named : FaultId → Bool) : List FaultId :=
  allFaults.filter fun id => named id && (s.marks id).latched && !(s.marks id).active

/-- R122: the named latches whose condition is active. -/
def State.stillActive (s : State) (named : FaultId → Bool) : List FaultId :=
  allFaults.filter fun id => named id && (s.marks id).latched && (s.marks id).active

/-- R115: no trip-class latch of the model is left. -/
def State.noTripLatch (s : State) (m : ModelId) : Bool :=
  modelKinds.all fun k => !(k.trips && (s.marks (.model k m)).latched)

/-- R122, R123: the latches of `ids` are cleared, then the trip releases go in ascending model number, then the clear
notices. -/
def clearLatches (ids : List FaultId) (s : State) : State :=
  let s := forEach ids (fun id t => t.modMarks id fun k => { k with latched := false }) s
  let s := forEach (allModels.filter fun m => ids.any fun id => id.tripModel == some m) (fun m t =>
    if t.noTripLatch m then releaseTrip m t else t) s
  forEach ids clearNotice s

/-- R105: on entry into DISABLED no condition of the model's kinds stays active. -/
def quenchModel (m : ModelId) (s : State) : State := forEach modelKinds (fun k t => quench (.model k m) t) s

end Sys2Proof.Machine
end

