-- ==== Sys2Proof/Machine/PlayOps.lean ====
section
/-!
DEFINITION. Playback (spec/02, sections 2.4 to 2.8): segments and their working values, the advance of a cue, the
interpolation, the two clamps and the recorded setpoint.
-/

namespace Sys2Proof.Machine

/-- R36: the model's offset for a stretch class, in units of 10 ms. -/
def ModelConfig.offset (c : ModelConfig) : Stretch → Int
  | .none => 0
  | .lead => c.leadOffset
  | .dwell => c.dwellOffset
  | .tail => c.tailOffset

/-- R36: the stretched duration of a segment: the sum when it is positive, 0 otherwise. -/
def stretched (duration : Nat) (offset : Int) : Nat := ((duration : Int) + 10 * offset).toNat

/-- R37: saturated into the 16-bit range. -/
def saturate16 (x : Int) : Int := max (-32768) (min 32767 x)

/-- R37: the segment end of a PLAY segment. -/
def segmentEnd (mode : ProfileMode) (stepStart target : Int) : Int :=
  match mode with
  | .abs => target
  | .rel => saturate16 (stepStart + target)

/-- R34: how many segments a step plays: those of its profile, or one for a DWELL step. -/
def State.segmentCount (s : State) : CueStep → Nat
  | .dwell _ => 1
  | .play p => ((s.profile p).map fun q => q.segments.length).getD 0

/-- R35: the working values of the segment that `pos` stands at. Its start is the step start position for the first
segment of a step and the end of the segment before it otherwise. -/
def State.beginSegment (s : State) (c : ModelConfig) (step : CueStep) (pos : CuePosition) : CuePosition :=
  let a := if pos.segment = 0 then pos.stepStart else pos.segEnd
  match step with
  | .dwell n => { pos with duration := 100 * n, segStart := pos.stepStart, segEnd := pos.stepStart }
  | .play p =>
    match (s.profile p).bind fun q => (q.segments[pos.segment]?).map fun g => (q.mode, g) with
    | some (mode, g) =>
      { pos with duration := stretched g.duration (c.offset g.stretch), segStart := a,
                 segEnd := segmentEnd mode pos.stepStart g.target }
    | none => { pos with duration := 0, segStart := a, segEnd := a }

/-- R34: step `k` of the cue begins at the model's last setpoint. -/
def State.beginStep (s : State) (c : ModelConfig) (steps : List CueStep) (last : Int) (k : Nat) (pos : CuePosition) :
    CuePosition :=
  let pos := { pos with step := k, segment := 0, stepStart := last }
  match steps[k]? with
  | some st => s.beginSegment c st pos
  | none => { pos with duration := 0, segStart := last, segEnd := last }

/-- R6, R33: the cue position of a cue that starts on a model whose last setpoint is `last`. -/
def State.startPosition (s : State) (c : ModelConfig) (cue : CueId) (last : Int) : CuePosition :=
  let q := s.cue cue
  s.beginStep c ((q.map Cue.steps).getD []) last 0
    { cue, repeats := (q.map Cue.repeats).getD 1, step := 0, segment := 0, elapsed := 0, stepStart := last,
      duration := 0, segStart := last, segEnd := last }

/-- R38 points 2 to 4: what begins when the segment in play ends; none when the cue ends. -/
def State.nextPlace (s : State) (c : ModelConfig) (last : Int) (pos : CuePosition) : Option CuePosition :=
  match s.cue pos.cue with
  | none => none
  | some q =>
    match q.steps[pos.step]? with
    | none => none
    | some st =>
      if pos.segment + 1 < s.segmentCount st then
        some (s.beginSegment c st { pos with segment := pos.segment + 1 })
      else if pos.step + 1 < q.steps.length then some (s.beginStep c q.steps last (pos.step + 1) pos)
      else if 1 < pos.repeats then some (s.beginStep c q.steps last 0 { pos with repeats := pos.repeats - 1 })
      else none

/-- R38: segments end as long as the elapsed time reaches the stretched duration. The answer says whether the cue has
ended; then the position's `segEnd` is the ideal end (R39). The fuel is more than a cue can cross in one sample. -/
def State.advance (s : State) (c : ModelConfig) (last : Int) : Nat → CuePosition → Bool × CuePosition
  | 0, pos => (false, pos)
  | fuel + 1, pos =>
    if pos.elapsed < pos.duration then (false, pos)
    else
      let pos := { pos with elapsed := pos.elapsed - pos.duration }
      match s.nextPlace c last pos with
      | none => (true, pos)
      | some next => s.advance c last fuel next

/-- R40: the raw target within a segment; the quotient is truncated toward zero. -/
def interpolate (pos : CuePosition) : Int :=
  pos.segStart + ((pos.segEnd - pos.segStart) * (pos.elapsed : Int)).tdiv (pos.duration : Int)

/-- R42: a target is brought within the rate allowed per sample. -/
def clampRate (rate : Nat) (prev target : Int) : Int :=
  prev + max (-(rate : Int)) (min (rate : Int) (target - prev))

/-- R32, R43: a position is recorded: it becomes the last setpoint and is pushed into the history ring. -/
def Model.record (m : Model) (x : Int) : Model :=
  { m with lastSetpoint := x, history := (x :: m.history).take 8 }

/-- R38 to R42: what a RUNNING sample computes from a cue position: whether the cue has ended, the position after the
advance, and the setpoint. -/
def State.playSample (s : State) (m : Model) (pos : CuePosition) : Bool × CuePosition × Int :=
  let c := m.config
  let (ended, pos) := s.advance c m.lastSetpoint (Config.maxCrossings + 1)
    { pos with elapsed := pos.elapsed + s.settings.samplePeriod }
  let raw := if ended then pos.segEnd else interpolate pos
  (ended, pos, clampRate c.rateLimit m.lastSetpoint (clampTravel c raw))

/-- R44: the setpoint of a RETURNING sample. -/
def Model.returnSample (m : Model) : Int := clampRate m.config.returnRate m.lastSetpoint m.config.home

end Sys2Proof.Machine
end

