-- ==== Sys2Proof/Machine/StartOps.lean ====
section
/-!
DEFINITION. Starting a cue, becoming free, zone releases and zone changes, the commit of a staged record, and entry into
IDLE (spec/01 sections 1.3 to 1.9, spec/03 sections 3.3 and 3.4, spec/06 sections 6.1 and 6.2).
-/

namespace Sys2Proof.Machine

/-! ### Starts (R6, R33) -/

/-- R6, R33: a cue starts on a model, RUNNING or, with the start-paused mark, HOLDING with PAUSE. -/
def startCue (m : ModelId) (c : CueId) (requester : Owner) (paused : Bool) (s : State) : State :=
  let pos := s.startPosition (s.model m).config c (s.model m).lastSetpoint
  changeModel m (fun x =>
    let x := { x with owner := some requester, position := some pos }
    if paused then
      { x with state := .holding, holdPause := true, target := some .cue,
               pauseTimer := some (x.config.pauseWindow * 1000) }
    else { x with state := .running }) s

/-- R6: a start request is decided against the state it finds. FAULT_LATCHED sends a drive report. -/
def startRequest (m : ModelId) (c : CueId) (requester : Owner) (paused : Bool) (s : State) : State × Verdict :=
  match s.verdict m c requester with
  | .ok => (startCue m c requester paused s, .ok)
  | .faultLatched => (driveReport m s, .faultLatched)
  | .notReady => (s, .notReady)
  | .busy => (s, .busy)
  | .mode => (s, .mode)
  | .cueInvalid => (s, .cueInvalid)
  | .blocked => (s, .blocked)

/-! ### Becoming free (R9, R56) -/

/-- R52: the entry for a model leaves the schedule list. -/
def removeEntry (m : ModelId) (s : State) : State :=
  quietTest false (s.onMotion fun q => { q with schedule := q.schedule.filter fun e => e.model != m })

/-- R55 step 2, R56: the start of an entry is decided with requester CONTROL. The answer says whether the cue started. -/
def serveEntry (m : ModelId) (c : CueId) (s : State) : State × Bool :=
  match startRequest m c .control false s with
  | (s, .ok) => (removeEntry m s, true)
  | (s, .cueInvalid) => (raise (.startMissed m) (removeEntry m s), false)
  | (s, .notReady) | (s, .busy) | (s, .mode) | (s, .blocked) | (s, .faultLatched) => (s, false)

/-- R9: a model-free notice is sent to the Press Arbiter. -/
def sendFreeNotice (m : ModelId) (s : State) : State :=
  s.onMotion fun q => { q with freeNotices := q.freeNotices ++ [m] }

/-- R9, R56: a model becomes free. A due entry goes first; the notice is sent unless that entry starts. -/
def becomeFree (m : ModelId) (s : State) : State :=
  match s.dueEntry m with
  | none => sendFreeNotice m s
  | some e =>
    match serveEntry m e.cue s with
    | (s, true) => s
    | (s, false) => sendFreeNotice m s

/-- R9: a model that is startable for CONTROL now becomes free. -/
def freeIfStartable (m : ModelId) (s : State) : State := if s.startable m .control then becomeFree m s else s

/-- R9: every model that is startable for CONTROL becomes free, in ascending number. -/
def freeAll (s : State) : State := forEach allModels freeIfStartable s

/-! ### Zone release (R12) -/

/-- R12: what a zone release does to a HOLDING model in a gallery mode. -/
def Model.zoneRelease (g : GalleryMode) (m : Model) : Model :=
  if m.state = .holding then
    let m := { m with holdZone := false }
    if m.holdPause then m
    else match m.target with
      | some .cue => if m.owner.any (modeAllows g) then { m with state := .running, target := none } else m.cut
      | some .home | none => { m with state := .returning, target := none }
  else m

/-- R12: a zone release arrives. An IDLE model that is now startable becomes free. -/
def releaseModel (m : ModelId) (s : State) : State :=
  if (s.model m).state = .idle then freeIfStartable m s else changeModel m (Model.zoneRelease s.gallery) s

/-! ### Zones and marks (R91 to R93) -/

/-- R92: a model's mask-occupied mark is worked out again; a change sends a zone hold or a zone release. -/
def updateMark (m : ModelId) (s : State) : State :=
  if (s.model m).state = .disabled then s
  else
    let new := s.maskOccupied (s.model m).config.zoneMask
    if new = (s.watch m).maskOccupied then s
    else
      let s := s.modWatch m fun w => { w with maskOccupied := new }
      if new then holdModel m s else releaseModel m s

/-- R92: a zone takes a state. A change between clear and occupied reaches the models whose mask covers it. -/
def setZone (z : ZoneId) (new : Zone) (s : State) : State :=
  let was := s.zoneOccupied z
  let s := s.onSup fun q => { q with zones := tput q.zones z new }
  if new.state.isOccupied = was then s
  else forEach allModels (fun m t =>
    if (t.model m).config.zoneMask.getLsbD z.val then updateMark m t else t) s

/-- R91: a zone follows its held condition. A zone without an owner is CLEAR; a clear-settle time of 0 takes the zone
through SETTLING to CLEAR at once. -/
def reviewZone (z : ZoneId) (s : State) : State :=
  let state := (tget s.sup.zones z).state
  if !s.zoneOwned z then (if state = .clear then s else setZone z ⟨.clear, none⟩ s)
  else match state, s.zoneHeld z with
    | .clear, true => setZone z ⟨.occupied, none⟩ s
    | .settling, true => setZone z ⟨.occupied, none⟩ s
    | .occupied, false =>
      if s.settings.clearSettle = 0 then setZone z ⟨.clear, none⟩ s
      else setZone z ⟨.settling, some (s.settings.clearSettle * 100)⟩ s
    | .clear, false | .occupied, true | .settling, false => s

/-- R91: the Supervisor looks at the held condition of every zone again, in ascending number. -/
def reviewZones (s : State) : State := forEach allZones reviewZone s

/-- R91: a settle timer expires. -/
def settleEnds (z : ZoneId) (s : State) : State :=
  if (tget s.sup.zones z).state = .settling ∧ (tget s.sup.zones z).settle.isSome = true then
    setZone z ⟨.clear, none⟩ s
  else s

/-! ### Commit and entry into IDLE (R8, R23, R24) -/

/-- R23: a staged record fits the position the model holds. -/
def commitFits (staged : ModelConfig) (last : Int) : Bool :=
  decide (staged.travelMin ≤ last ∧ last ≤ staged.travelMax ∧ staged.travelMin ≤ staged.home ∧
    staged.home ≤ staged.travelMax)

/-- R23: the staged fields become the configured fields. -/
def applyFields (m : ModelId) (c : ModelConfig) (s : State) : State :=
  trimList m c.waitDepth
    (quench (.model .follow m) (s.modModel m fun x => { x with config := c, staged := none, run := 0 }))

/-- R23, R93: a COMMIT applies at IDLE; a mark that the new mask changes sends a zone hold or a zone release. -/
def applyCommit (m : ModelId) (c : ModelConfig) (s : State) : State := updateMark m (applyFields m c s)

/-- R24: the deferred commit at IDLE entry. The mark is worked out from the new mask (R93); the test of R5 that follows
in R8 is the one that makes the model free. -/
def deferredCommit (m : ModelId) (s : State) : State :=
  if (s.model m).commitPending then
    let s := s.modModel m fun x => { x with commitPending := false }
    match (s.model m).staged with
    | none => s
    | some c =>
      if commitFits c (s.model m).lastSetpoint then
        let s := applyFields m c s
        let occupied := s.maskOccupied c.zoneMask
        s.modWatch m fun w => { w with maskOccupied := occupied }
      else raise (.commitFailed m) s
  else s

/-- R8: entry into IDLE: the deferred commit first, then the test of R5. -/
def enterIdle (m : ModelId) (s : State) : State :=
  freeIfStartable m (deferredCommit m (changeModel m (fun x => { x.dropCue with state := .idle }) s))

/-- R7: a cue ends. -/
def cueEnds (m : ModelId) (c : CueId) (s : State) : State :=
  match (s.cue c).map Cue.endAction with
  | some .stay => enterIdle m s
  | some .goHome | none => changeModel m (fun x => { x.dropCue with state := .returning }) s

/-! ### The sample timer (R31, R46) -/

/-- The drive commands of Table 10-3. -/
inductive DriveCommand where
  | none | run | halt | relax
  deriving DecidableEq, Repr

/-- Drive command codes (Table 10-3). -/
def DriveCommand.code : DriveCommand → Byte
  | .none => 0 | .run => 1 | .halt => 2 | .relax => 3

/-- The IDLE drive command of a gallery mode (Table 1-3). -/
def idleCommand : GalleryMode → DriveCommand
  | .opened | .waking | .service => .run
  | .doze | .closed => .relax

/-- One axis entry built for a model in a sample (R3, R46). -/
structure AxisOut where
  model : ModelId
  command : DriveCommand
  position : Int
  deriving DecidableEq, Repr

/-- R31: a model at rest pushes its last setpoint, unchanged, into the history. -/
def repeatSetpoint (m : ModelId) (s : State) : State := s.modModel m fun x => x.record x.lastSetpoint

/-- R31: what the expiry of the sample timer does for one model, and the axis entry it gives. -/
def sampleModel (m : ModelId) (s : State) : State × List AxisOut :=
  let x := s.model m
  match x.state with
  | .disabled => (s, [])
  | .enabling => (s, [⟨m, .none, 0⟩])
  | .idle => (repeatSetpoint m s, [⟨m, idleCommand s.gallery, x.lastSetpoint⟩])
  | .holding => (repeatSetpoint m s, [⟨m, .run, x.lastSetpoint⟩])
  | .stopped | .faulted => (repeatSetpoint m s, [⟨m, .halt, x.lastSetpoint⟩])
  | .returning =>
    let p := x.returnSample
    let s := s.modModel m fun y => y.record p
    (if p = x.config.home then enterIdle m s else s, [⟨m, .run, p⟩])
  | .running =>
    match x.position with
    | none => (repeatSetpoint m s, [⟨m, .run, x.lastSetpoint⟩])
    | some pos =>
      let (ended, pos, p) := s.playSample x pos
      let s := s.modModel m fun y => { y.record p with position := some pos }
      (if ended then cueEnds m pos.cue s else s, [⟨m, .run, p⟩])

/-- R31: every model in ascending number, and the axis entries they give. -/
def sampleModels (s : State) : State × List AxisOut :=
  allModels.foldl (fun (acc : State × List AxisOut) m =>
    let (t, out) := sampleModel m acc.1
    (t, acc.2 ++ out)) (s, [])

/-- R46: the entry of one axis of a drive node among those built; NONE with position 0 where there is none. -/
def State.axisBytes (s : State) (outs : List AxisOut) (n : NodeId) (a : Axis) : List Byte :=
  match outs.find? fun o => (s.model o.model).config.driveNode == some n && (s.model o.model).config.axis == a with
  | some o => le16 (ofPosition o.position) ++ [o.command.code]
  | none => [0, 0, DriveCommand.none.code]

/-- R46: the slot of a drive node is filled where some model that is not DISABLED is bound to it, in place of what stands
there, and is left empty where none is. -/
def fillSlot (outs : List AxisOut) (n : NodeId) (s : State) : State :=
  if outs.any fun o => (s.model o.model).config.driveNode == some n then
    let f := s.ownFrame 32 (addressOf n) kSetpoint (s.axisBytes outs n 0 ++ s.axisBytes outs n 1)
    s.onRelay fun q => { q with slots := tput q.slots n (some f) }
  else s.onRelay fun q => { q with slots := tput q.slots n none }

/-- R31, R46: an expiry of the sample timer, which starts again with the sample period (R30). -/
def sampleExpiry (s : State) : State :=
  let period := s.settings.samplePeriod
  let (t, outs) := sampleModels (s.onMotion fun q => { q with sampleTimer := period })
  forEach allNodes (fillSlot outs) t

end Sys2Proof.Machine
end

