-- ==== Sys2Proof/Machine/ModeOps.lean ====
section
/-!
DEFINITION. Mode Control (spec/09): the entries into the gallery modes, the doze timer, waking and MODE; and the
schedule list's due entries, which may wake the bay (spec/03).
-/

namespace Sys2Proof.Machine

/-- The gallery mode is set. -/
def setMode (g : GalleryMode) (s : State) : State := s.onMode fun q => { q with mode := g }

/-- The wake-limit timer stops. -/
def stopWakeTimer (s : State) : State := s.onMode fun q => { q with wakeTimer := none }

/-- R150, R153: every model in play is cut, in ascending number. -/
def cutAllInPlay (s : State) : State :=
  forEach allModels (fun m t => if (t.model m).inPlay then cutModel m t else t) s

/-- R151: every model whose owner is a button key is cut, in ascending number. -/
def cutVisitors (s : State) : State :=
  forEach allModels (fun m t =>
    match (t.model m).owner with
    | some (.button _) => cutModel m t
    | some .control | none => t) s

/-- R97: the run count of every IDLE model becomes 0 and its FOLLOW condition inactive. -/
def relaxFollowing (s : State) : State :=
  forEach allModels (fun m t =>
    if (t.model m).state = .idle then quench (.model .follow m) (t.modModel m fun x => { x with run := 0 }) else t) s

/-- R150: entry into CLOSED. -/
def enterClosed (s : State) : State :=
  quietTest false (stopWakeTimer (relaxFollowing (flushAll (cutAllInPlay (setMode .closed s)))))

/-- R151: entry into SERVICE. -/
def enterService (s : State) : State :=
  quietTest false (stopWakeTimer (freeAll (flushAll (cutVisitors (setMode .service s)))))

/-- R152: entry into OPEN. -/
def enterOpen (s : State) : State := quietTest false (freeAll (stopWakeTimer (setMode .opened s)))

/-- R153: entry into DOZE. -/
def enterDoze (s : State) : State := quietTest false (relaxFollowing (cutAllInPlay (setMode .doze s)))

/-- R157: the end-of-wake test. -/
def endWakeTest (s : State) : State := if s.gallery = .waking ∧ s.allEnergised = true then enterOpen s else s

/-- R156: a wake begins: the mode is WAKING and the wake-limit timer runs. -/
def beginWake (s : State) : State :=
  let limit := s.settings.wakeLimit * 100
  quietTest false (s.onMode fun q => { q with mode := .waking, wakeTimer := some limit })

/-- R156: a wake request is sent. In DOZE the wake begins; in any other mode it changes nothing. -/
def sendWake (s : State) : State := if s.gallery = .doze then beginWake s else s

/-- R157: the test made once at entry into WAKING. DEDUCED, unsafe (log 15): where `taking` wakes a dozing bay, the test
comes once the whole of it is over, so that the rest of a taking that wakes the bay finds the mode WAKING (R55, R65). -/
def withEntryTest (taking : State → State) (s : State) : State :=
  if s.gallery = .doze then endWakeTest (taking s) else taking s

/-- R156: a wake request after which nothing more is to be done. -/
def requestWake (s : State) : State := withEntryTest sendWake s

/-- R155: the doze timer expires. -/
def dozeEnds (s : State) : State := if s.modeCtl.dozeTimer.isSome then enterDoze s else s

/-- R158: the wake limit expires. -/
def wakeLimitEnds (s : State) : State :=
  if s.gallery = .waking ∧ s.modeCtl.wakeTimer.isSome = true then
    enterOpen (forEach (allModels.filter fun m => (s.model m).state != .disabled && !(s.watch m).energised) driveReport
      (stopWakeTimer s))
  else s

/-- R149: the mode a code asks for; a code of 3 or above 4 asks for none. -/
def askedMode (code : Nat) : Option GalleryMode :=
  match code with
  | 0 => some .closed
  | 1 => some .opened
  | 2 => some .doze
  | 4 => some .service
  | _ => none

/-- R149: MODE is decided against the mode as it stands. The detail is the code of the mode after the command. -/
def modeCommand (asked : GalleryMode) (s : State) : State × Verdict16 :=
  let answer (t : State) (r : Result) : State × Verdict16 := (t, (r, BitVec.ofNat 16 t.gallery.code))
  match asked with
  | .closed => answer (enterClosed s) .ok
  | .service => answer (enterService s) .ok
  | .doze => if s.gallery = .opened then answer (enterDoze s) .ok else answer s .mode
  | .opened =>
    match s.gallery with
    | .opened => answer (quietTest true (enterOpen s)) .ok
    | .closed | .service => answer (enterOpen s) .ok
    | .doze => answer (requestWake s) .pending
    | .waking => answer s .pending
  | .waking => answer s .badField

/-! ### Due entries (R50 to R57) -/

/-- The wait of a start time: (start time - clock) modulo 2^32 (R52). -/
def waitOf (clock start : Clock) : Nat := (start - clock).toNat

/-- R52, R53: a not-yet-due entry is placed by its wait, after any entry with the same start time. -/
def insertEntry (clock : Clock) (e : ScheduleEntry) (l : List ScheduleEntry) : List ScheduleEntry :=
  let before := fun (x : ScheduleEntry) => x.due.isSome || waitOf clock x.start ≤ waitOf clock e.start
  l.takeWhile before ++ e :: l.dropWhile before

/-- R55 step 1: the model's entry becomes due; it moves to the tail of the due entries. -/
def markDue (e : ScheduleEntry) (l : List ScheduleEntry) : List ScheduleEntry :=
  let rest := l.filter fun x => x.model != e.model
  (rest.filter fun x => x.due.isSome) ++ { e with due := some (e.lateLimit * 1000) } ::
    rest.filter fun x => x.due.isNone

/-- R57: the late countdown of a due entry expires: the entry is removed and START_MISSED is raised. -/
def lateExpires (m : ModelId) (s : State) : State :=
  match s.dueEntry m with
  | some _ => raise (.startMissed m) (removeEntry m s)
  | none => s

/-- The not-yet-due entry that names a model. -/
def State.waitingEntry (s : State) (m : ModelId) : Option ScheduleEntry :=
  s.motion.schedule.find? fun e => e.model == m && e.due.isNone

/-- R55, R57: an entry with a late limit of 0 that is still there after step 2 is missed at once. -/
def missAtOnce (e : ScheduleEntry) (s : State) : State := if e.lateLimit = 0 then lateExpires e.model s else s

/-- R55: the entry of a model becomes due. In DOZE the wake request of step 3 has been sent when an entry with a late
limit of 0 is missed, and the miss comes before the wake can end: such an entry starts if step 2 starts it, and not by a
wake that ends at once (log 15). -/
def becomeDue (m : ModelId) (s : State) : State :=
  match s.waitingEntry m with
  | none => s
  | some e =>
    let s := quietTest false (s.onMotion fun q => { q with schedule := markDue e q.schedule })
    if s.startable m .control then missAtOnce e (serveEntry m e.cue s).1
    else withEntryTest (fun t => missAtOnce e (sendWake t)) s

/-- R54: the show clock counts to a start time: the first listed entry that is not yet due and whose start time the clock
has reached becomes due. DESIGN CHOICE, safe (log 10): one command takes one entry. -/
def nextDue (s : State) : State :=
  match s.motion.schedule.find? fun e => e.due.isNone && reached s.clock e.start with
  | some e => becomeDue e.model s
  | none => s

/-- R50: the show clock is set, and each entry it now reaches becomes due, in the order of the list. -/
def syncClock (v : Clock) (s : State) : State :=
  let s := s.onMotion fun q => { q with clock := v }
  forEach ((s.motion.schedule.filter fun e => e.due.isNone && reached v e.start).map ScheduleEntry.model) becomeDue s

/-- R53: a CUE_START with a start time, after the checks of R51. DESIGN CHOICE, unsafe (log 34): NOT_READY and LIST_FULL
carry detail 0, for which R53 states none. -/
def scheduleStart (m : ModelId) (c : CueId) (start : Clock) (late : Nat) (s : State) : State × Verdict16 :=
  if (s.model m).state = .disabled then (s, (.notReady, 0))
  else
    let had := s.motion.schedule.any fun e => e.model == m
    if !had && Config.scheduleDepth ≤ s.motion.schedule.length then (s, (.listFull, 0))
    else
      let clock := s.clock
      let s := if had then removeEntry m s else s
      let s := s.onMotion fun q => { q with
        schedule := insertEntry clock ⟨m, c, start, late, none⟩ q.schedule }
      let listed := BitVec.ofNat 16 s.motion.schedule.length
      let s := if reached clock start then becomeDue m s else s
      (s, (if had then .replaced else .ok, listed))

end Sys2Proof.Machine
end

