-- ==== Sys2Proof/Machine/PressOps.lean ====
section
/-!
DEFINITION. The Press Arbiter (spec/04, spec/05): edges, presses, owner edges, calls, lockout, stuck buttons, wait lists,
and the lamps and dirty flags.
-/

namespace Sys2Proof.Machine

/-! ### Lamps and dirty panels (R79 to R85) -/

/-- R83: a panel is marked dirty; nothing happens to a node of another role. -/
def markDirty (n : NodeId) (s : State) : State :=
  if (s.node n).role = .panel then s.onPress fun q => { q with dirty := tput q.dirty n true } else s

/-- R82: a lamp takes a state; the panel is marked dirty if the state changed. -/
def setLamp (k : Key) (l : Lamp) (s : State) : State :=
  if s.lamp k = l then s
  else markDirty k.node (s.onPress fun q => { q with lamps := tmod q.lamps k.node fun v => tput v k.button l })

/-- R82: the lamp of one entry of the button map is derived again. -/
def deriveLamp (i : EntryIx) (s : State) : State :=
  match s.entry i with
  | some b => setLamp b.key (s.lampOf b) s
  | none => s

/-- R82: every mapped button's lamp is derived again, from the state that the taking left. -/
def deriveLamps (s : State) : State := forEach allEntries deriveLamp s

/-! ### Lockout and stuck timers (R69 to R71) -/

/-- R69: the lockout of an entry's button begins. A lockout value of 0 ends at the moment it begins. -/
def beginLockout (i : EntryIx) (s : State) : State :=
  let now := s.clock
  s.modEntry i fun b => { b with
    lockoutTimer := if b.lockout = 0 then none else some (b.lockout * 100)
    lockoutUntil := some (now + BitVec.ofNat 32 (b.lockout * 100)) }

/-- R69: the lockout of the button with this key begins, where the key is mapped. -/
def beginLockoutOf (k : Key) (s : State) : State :=
  match s.entryOf k with
  | some i => beginLockout i s
  | none => s

/-- R69: a lockout ends; lockout-until is kept. -/
def lockoutEnds (k : Key) (s : State) : State :=
  match s.entryOf k with
  | some i => s.modEntry i fun b => { b with lockoutTimer := none }
  | none => s

/-- R70: the stuck bookkeeping of an edge. -/
def stuckBookkeeping (i : EntryIx) (e : Edge) (s : State) : State :=
  let now := s.clock
  match e with
  | .down => s.modEntry i fun b => { b with downSince := some now, stuckTimer := some (b.stuckLimit * 1000) }
  | .up => s.modEntry i fun b => { b with downSince := none, stuckTimer := none }

/-- R71: SUSPECT is cleared, and the BUTTON_STUCK condition is reported inactive. -/
def clearSuspect (i : EntryIx) (k : Key) (s : State) : State :=
  report (.buttonStuck k) false (s.modEntry i fun b => { b with suspect := false })

/-- R71: a stuck timer expires: the button becomes SUSPECT, the condition is reported, its request is flushed. A stopped
or suspended timer does not expire. -/
def stuckExpires (k : Key) (s : State) : State :=
  match s.entryOf k with
  | none => s
  | some i =>
    match s.entry i with
    | none => s
    | some b =>
      if b.stuckTimer.isSome && !s.stuckSuspended b then
        flushKey k b.modelId
          (report (.buttonStuck k) true (s.modEntry i fun b => { b with stuckTimer := none, suspect := true }))
      else s

/-! ### Wait lists (R72 to R74) -/

/-- R72: a press that reaches the join point. -/
def joinList (b : Button) (s : State) : State :=
  let m := b.modelId
  if !s.cueValid b.cueId then s
  else if (s.waits m).length < (s.model m).config.waitDepth then
    let r : Request := ⟨b.key, b.cueId, s.clock, (s.model m).config.maxWaitAge * 1000⟩
    quietTest true ((s.setWaits m (s.waits m ++ [r])).onTallies fun t => { t with taken := addTally 1 t.taken })
  else s.onTallies fun t => { t with refused := addTally 1 t.refused }

/-- R73: whether a request starts paused: its entry is a HOLD entry and its button is up. -/
def State.startsPaused (s : State) (k : Key) : Bool :=
  (s.entryOf k).any fun i => (s.entry i).any fun b => b.mode == .hold && !s.isDown k

/-- R73: the head of a model's wait list is served. A head whose cue is no longer valid is flushed and the new head is
served in the same way; the fuel is the length of the list. -/
def serveList (m : ModelId) : Nat → State → State
  | 0, s => s
  | fuel + 1, s =>
    match s.waits m with
    | [] => s
    | r :: rest =>
      match startRequest m r.cue (.button r.key) (s.startsPaused r.key) s with
      | (s, .ok) =>
        beginLockoutOf r.key (quietTest false ((s.setWaits m rest).onTallies fun t =>
          { t with started := addTally 1 t.started }))
      | (s, .cueInvalid) =>
        serveList m fuel (quietTest false ((s.setWaits m rest).onTallies fun t =>
          { t with flushed := addTally 1 t.flushed }))
      | (s, .notReady) | (s, .busy) | (s, .mode) | (s, .blocked) | (s, .faultLatched) => s

/-- R73: a model-free notice is taken, where one for the model is outstanding (log 9). -/
def takeFreeNotice (m : ModelId) (s : State) : State :=
  if s.motion.freeNotices.contains m then
    serveList m ((s.waits m).length + 1) (s.onMotion fun q => { q with freeNotices := q.freeNotices.erase m })
  else s

/-- R74: a waiting request's countdown runs out. -/
def requestExpires (m : ModelId) (k : Key) (s : State) : State :=
  if s.isWaiting k m then
    quietTest false ((s.setWaits m ((s.waits m).filter fun r => r.key != k)).onTallies fun t =>
      { t with expired := addTally 1 t.expired })
  else s

/-! ### Presses (R64 to R68) -/

/-- R66 point 5: the start request of a press, and what its verdict brings. -/
def pressStart (i : EntryIx) (b : Button) (s : State) : State :=
  match startRequest b.modelId b.cueId (.button b.key) false s with
  | (s, .ok) =>
    quietTest true (beginLockout i (s.onTallies fun t =>
      { t with taken := addTally 1 t.taken, started := addTally 1 t.started }))
  | (s, .cueInvalid) => s
  | (s, .notReady) | (s, .faultLatched) => s.onTallies fun t => { t with refused := addTally 1 t.refused }
  | (s, .busy) | (s, .blocked) | (s, .mode) => joinList b s

/-- R66, R67: a press of a TAP, TOGGLE or HOLD button; the first point that applies decides. -/
def press (i : EntryIx) (b : Button) (s : State) : State :=
  let m := b.modelId
  if b.inLockout then s
  else match s.gallery with
    | .closed | .service | .doze => s
    | .opened | .waking =>
      if s.ownsCue b.key m && b.mode == .toggle then beginLockout i (cutModel m s)
      else if s.ownsCue b.key m && b.mode == .hold then (if (s.model m).holdPause then resumeModel m s else s)
      else if s.isWaiting b.key m then s
      else pressStart i b s

/-- R68: the acting edge of a CALL button, once a dozing bay is awake. -/
def callPress (i : EntryIx) (b : Button) (s : State) : State :=
  if b.inLockout then s
  else match s.gallery with
    | .closed | .service => s
    | .opened | .waking | .doze => beginLockout i (raise (.visitorCall b.key) s)

/-- R68: the acting edge of a CALL button. In DOZE it first wakes the bay. -/
def callEdge (i : EntryIx) (b : Button) (s : State) : State := callPress i b (sendWake s)

/-- R64 cases 3 to 6, after the bookkeeping and the wake. -/
def edgeCases (i : EntryIx) (b : Button) (e : Edge) (s : State) : State :=
  match b.mode, e with
  | .hold, .up => if s.ownsCue b.key b.modelId then pauseModel b.modelId s else s
  | .hold, .down => press i b s
  | .call, _ => if e = b.acting then callEdge i b s else s
  | .tap, _ | .toggle, _ => if e = b.acting then press i b s else s

/-- R64: an edge of a mapped button is taken, whole. In case 2 a DOWN in DOZE wakes the bay and is taken again as in
WAKING (R65); the wake can end only after the frame (`takePanel`). -/
def takeEdge (i : EntryIx) (e : Edge) (s : State) : State :=
  let s := stuckBookkeeping i e s
  match s.entry i with
  | none => s
  | some b =>
    if b.suspect then
      match e with
      | .up => clearSuspect i b.key s
      | .down => s
    else match e with
      | .down => edgeCases i b .down (sendWake s)
      | .up => edgeCases i b .up s

/-- R60: the recorded membership of a button changes to match the frame. -/
def recordButton (k : Key) (down : Bool) (s : State) : State :=
  s.onPress fun q => { q with
    recorded := tmod q.recorded k.node fun v =>
      if down then v ||| BitVec.twoPow 16 k.button.val else v &&& ~~~ (BitVec.twoPow 16 k.button.val) }

/-- R60: one button of a PANEL frame: an edge where the frame and the recorded set differ. Lamps are derived after each
edge, since each is taken whole (R82). -/
def panelButton (n : NodeId) (downSet : BitVec 16) (b : ButtonIx) (s : State) : State :=
  let k : Key := ⟨n, b⟩
  let down := downSet.getLsbD b.val
  if s.isDown k = down then s
  else
    let s := recordButton k down s
    match s.entryOf k with
    | some i => deriveLamps (takeEdge i (if down then .down else .up) s)
    | none => s

/-- R60, R84: a PANEL frame handed to the Press Arbiter; it comes from a node of role PANEL (R165). R65: an edge that
wakes the bay and the later edges of its frame find the mode WAKING. Where every drive is energised already, their presses
join their lists or are refused, and the bay opens after the frame (log 15). -/
def takePanel (n : NodeId) (downSet : BitVec 16) (hello : Bool) (s : State) : State :=
  if (s.node n).role = .panel then
    let s := withEntryTest (forEach allButtons (panelButton n downSet)) s
    if hello then markDirty n s else s
  else s

/-! ### Removal from a recorded set (R61) -/

/-- R61 points 1 to 3: a button removed from a recorded set without an edge. -/
def dropButton (k : Key) (s : State) : State :=
  match s.entryOf k with
  | none => s
  | some i =>
    let s := s.modEntry i fun b => { b with stuckTimer := none, downSince := none }
    match s.entry i with
    | none => s
    | some b =>
      let s := if b.suspect then clearSuspect i k s else s
      if b.mode == .hold && s.ownsCue k b.modelId then pauseModel b.modelId s else s

/-- R61: a recorded set is emptied without deriving any edge; its buttons go in ascending number. -/
def emptyRecorded (n : NodeId) (s : State) : State :=
  let was := tget s.press.recorded n
  let s := s.onPress fun q => { q with recorded := tput q.recorded n 0 }
  forEach (allButtons.filter fun b => was.getLsbD b.val) (fun b t => dropButton ⟨n, b⟩ t) s

/-! ### Writing a map entry (R62, R63) -/

/-- R63: the run state of a written entry, set up afresh. -/
def freshButton (b : Button) (s : State) : Button :=
  if s.isDown b.key then
    { b with downSince := some s.clock, stuckTimer := some (b.stuckLimit * 1000), lockoutTimer := none,
             lockoutUntil := none, suspect := false }
  else
    { b with downSince := none, stuckTimer := none, lockoutTimer := none, lockoutUntil := none, suspect := false }

/-- R63, R82: an entry is written, or made EMPTY. The former key's BUTTON_STUCK condition becomes inactive, and its lamp
is derived as an unmapped button's. -/
def storeButton (i : EntryIx) (new : Option Button) (s : State) : State :=
  let old := s.entry i
  let fresh := new.map fun b => freshButton b s
  let s := s.onPress fun q => { q with buttons := tput q.buttons i fresh }
  match old with
  | none => s
  | some b =>
    let s := report (.buttonStuck b.key) false s
    if (s.entryOf b.key).isNone then setLamp b.key .off s else s

end Sys2Proof.Machine
end

