-- ==== Sys2Proof/Machine/RelayOps.lean ====
section
/-!
DEFINITION. The Line Relay and the Supervisor's frames (spec/10, spec/06, spec/07 section 7.3): what a frame heard does,
the block-level effect of PRESENCE and FEEDBACK, the ring check, the transmitters, replies and the resets.
-/

namespace Sys2Proof.Machine

/-! ### Silence and hearing (R103, R117, R118, R163) -/

/-- R117: a node is watched for silence: role PANEL, SENSOR or GUEST and a timeout other than 0. -/
def NodeEntry.watched (e : NodeEntry) : Bool :=
  (e.role == .panel || e.role == .sensor || e.role == .guest) && e.timeout != 0

/-- R117: what a node's silence timer is started at. -/
def NodeEntry.silenceStart (e : NodeEntry) : Timer := if e.watched then some (e.timeout * 100) else none

/-- Whether a model that is not DISABLED is bound to the node. -/
def State.boundTo (s : State) (n : NodeId) (m : ModelId) : Bool :=
  (s.model m).state != .disabled && (s.model m).config.driveNode == some n

/-- R103: the drive silence timers of the models bound to a DRIVE node restart, and their conditions become inactive. -/
def driveHeard (n : NodeId) (s : State) : State :=
  let t := (s.node n).timeout * 100
  forEach (allModels.filter (s.boundTo n)) (fun m u =>
    report (.model .driveSilent m) false (u.modWatch m fun w => { w with driveSilence := some t })) s

/-- R163: a frame is heard from a node. -/
def nodeHeard (n : NodeId) (s : State) : State :=
  let now := s.clock
  let was := (s.marks (.nodeSilent n)).active
  let s := s.modNode n fun e => { e with lastHeard := some now, silence := e.silenceStart }
  let s := report (.nodeSilent n) false s
  let s := if was then reviewZones s else s
  if (s.node n).role = .drive then driveHeard n s else s

/-- R61, R89, R117: a watched node's silence timer expires. -/
def nodeSilenceEnds (n : NodeId) (s : State) : State :=
  if (s.node n).silence.isSome then
    let was := (s.marks (.nodeSilent n)).active
    let s := report (.nodeSilent n) true (s.modNode n fun e => { e with silence := none })
    let s := if (s.node n).role = .panel then emptyRecorded n s else s
    if (s.marks (.nodeSilent n)).active && !was then
      let own := (s.node n).zones
      reviewZones (if (s.node n).role = .sensor then
        s.onSup fun q => { q with reported := tput q.reported n own } else s)
    else s
  else s

/-- R103: a model's drive silence timer expires. -/
def driveSilenceEnds (m : ModelId) (s : State) : State :=
  if (s.watch m).driveSilence.isSome then
    report (.model .driveSilent m) true (s.modWatch m fun w => { w with driveSilence := none })
  else s

/-- R118: what the spine-silence timer is started at; 0 does not watch the spine. -/
def spineStart (seconds : Nat) : Timer := if seconds = 0 then none else some (seconds * 1000)

/-- R118: a frame with a good check arrives at SPINE_IN. -/
def spineHeard (s : State) : State :=
  let t := spineStart s.settings.spineSilence
  report (.bay .spineSilent) false (s.onRelay fun q => { q with spineSilence := t })

/-- R118: the spine-silence timer expires. -/
def spineSilenceEnds (s : State) : State :=
  if s.relay.spineSilence.isSome then
    report (.bay .spineSilent) true (s.onRelay fun q => { q with spineSilence := none })
  else s

/-! ### Bay-check windows (R120) -/

/-- R120: a check error or framing error at BAY_IN is taken. -/
def bayError (s : State) : State :=
  let s := s.onRelay fun q => { q with windowCount := bump 255 q.windowCount }
  if s.settings.bayThreshold ≤ s.relay.windowCount then report (.bay .bayCheck) true s else s

/-- R120: a window ends and the next begins. DESIGN CHOICE, unsafe (log 36): of a window that ends at or above the threshold
R120 says only that the state "stays true". Where the state is false then (a threshold lowered within the window, with no
error after it), it stays false. -/
def windowEnds (s : State) : State :=
  let quiet := s.relay.windowCount < s.settings.bayThreshold
  let s := s.onRelay fun q => { q with windowCount := 0, windowTimer := Config.bayWindowMs }
  if quiet then report (.bay .bayCheck) false s else s

/-! ### The ring check (R119, R168) -/

/-- R119: the RING_OPEN state follows the miss run, and owned zones follow the condition (R90). -/
def reportRing (open' : Bool) (s : State) : State :=
  let was := (s.marks (.bay .ringOpen)).active
  let s := report (.bay .ringOpen) open' s
  if (s.marks (.bay .ringOpen)).active = was then s else reviewZones s

/-- R168: a ring check returns. -/
def ringReturn (s : State) : State :=
  reportRing false (s.onRelay fun q => { q with missRun := 0, ringOutstanding := false, missTimer := none })

/-- R119, R168: the outstanding ring check's miss timer expires. -/
def ringMiss (s : State) : State :=
  if s.relay.ringOutstanding then
    let s := s.onRelay fun q => { q with
      missRun := bump Config.missRunMax q.missRun, ringOutstanding := false, missTimer := none, ringRequest := true }
    if s.relay.missRun = Config.missRunMax then reportRing true s else s
  else s

/-- R168: the ring-check timer expires. -/
def ringTimerEnds (s : State) : State :=
  s.onRelay fun q => { q with
    ringTimer := Config.ringCheckMs
    ringRequest := q.ringRequest || !q.ringOutstanding }

/-! ### PRESENCE and FEEDBACK (R89, R95 to R102) -/

/-- R89: a PRESENCE frame handed to the Supervisor; it comes from a node of role SENSOR. -/
def takePresence (n : NodeId) (occupied : BitVec 8) (s : State) : State :=
  if (s.node n).role = .sensor then
    let own := (s.node n).zones
    reviewZones (s.onSup fun q => { q with reported := tput q.reported n (occupied &&& own) })
  else s

/-- R100: a drive flag: DRIVE_FAULT, END_LOW or END_HIGH. -/
def hasDriveFlag (flags : Byte) : Bool := flags.getLsbD 0 || flags.getLsbD 1 || flags.getLsbD 2

/-- Table 10-3: the ENERGISED flag. -/
def isEnergised (flags : Byte) : Bool := flags.getLsbD 3

/-- R96: the following-error check is made in motion, and in IDLE where the IDLE command is RUN. -/
def followChecked (st : ModelState) (g : GalleryMode) : Bool :=
  match st with
  | .running | .holding | .returning => true
  | .idle => idleCommand g == .run
  | .disabled | .enabling | .stopped | .faulted => false

/-- R96: the run count after a check. -/
def nextRun (m : Model) (position : Int) : Nat :=
  if (m.config.followLimit : Int) < |position - m.history.getD m.config.feedbackLag m.lastSetpoint| then
    bump Config.runMax m.run
  else 0

/-- R98: the average over the newest loads. -/
def loadAverage (depth : Nat) (loads : List Nat) : Nat :=
  let l := loads.take depth
  l.sum / l.length

/-- R99: the LOAD_TRIP state after an average; it keeps its state between the release and the trip. -/
def loadTripState (c : ModelConfig) (avg : Nat) (was : Bool) : Bool :=
  if c.loadTrip ≤ avg then true else if avg ≤ c.loadRelease then false else was

/-- R95 steps 3 and 4, R96 to R100: the checks of an axis entry of a model that is not ENABLING, against the state found
when the entry was taken, and their reports in the order of Table 7-1. -/
def checkEntry (m : ModelId) (position : Int) (load : Nat) (flagged : Bool) (s : State) : State :=
  let x := s.model m
  let checked := followChecked x.state s.gallery
  let run := if checked then nextRun x position else x.run
  let loads := (load :: x.loads).take 8
  let avg := loadAverage x.config.loadDepth loads
  let trip := loadTripState x.config avg (s.marks (.model .loadTrip m)).underlying
  let moving := x.state == .running || x.state == .holding || x.state == .returning
  let s := s.modModel m fun y => { y with
    run, loads, flagSeen := if !flagged then false else if y.state = .idle then true else y.flagSeen }
  let s := if checked then report (.model .follow m) (x.config.followCount ≤ run) s else s
  let s := report (.model .loadAlarm m) (x.config.loadAlarm ≤ avg) s
  let s := report (.model .loadTrip m) trip s
  let s := report (.model .driveReport m) flagged s
  if moving && flagged then driveReport m s else s

/-- R95: the model that is not DISABLED and is bound to this axis of this node. -/
def State.boundModel (s : State) (n : NodeId) (a : Axis) : Option ModelId :=
  allModels.find? fun m => s.boundTo n m && (s.model m).config.axis == a

/-- R95: one axis entry is taken as one whole. A change of the energised record is then reported to Mode Control
(R102, R157; log 20). -/
def takeAxisEntry (n : NodeId) (e : AxisEntry) (s : State) : State :=
  match s.boundModel n e.axis with
  | none => s
  | some m =>
    let position := e.position.toInt
    let load := min 1023 e.load.toNat
    let flagged := hasDriveFlag e.flags
    let energised := isEnergised e.flags
    let was := (s.watch m).energised
    let enabling := (s.model m).state == .enabling
    let s := s.modWatch m fun w => { w with energised }
    let s := s.modModel m fun x => { x with fedBack := some position }
    let s :=
      if enabling then
        report (.model .driveReport m) flagged
          (firstFeedback m position (s.modModel m fun x => { x with flagSeen := flagged }))
      else checkEntry m position load flagged s
    if energised = was then s else endWakeTest s

/-- R95: a FEEDBACK frame handed to the Supervisor; it comes from a node of role DRIVE. -/
def takeFeedback (n : NodeId) (entries : List AxisEntry) (s : State) : State :=
  if (s.node n).role = .drive then forEach entries (takeAxisEntry n) s else s

/-! ### The transmitters (R86, R134, R168 to R170) -/

/-- R169: the addresses in ascending order after the one last served, going round from 62 to 1. -/
def roundRobin (last : Nat) : List NodeId :=
  (allNodes.filter fun n => last < n.val + 1) ++ allNodes.filter fun n => n.val + 1 ≤ last

/-- R87: the payload of a panel's LAMP frame. -/
def State.lampPayload (s : State) (n : NodeId) : List Byte :=
  (List.finRange 8).map fun k =>
    let code := fun (i : Nat) => (s.lamp ⟨n, Fin.ofNat 16 i⟩).code
    byteOf (code (2 * k.val) + 16 * code (2 * k.val + 1))

/-- R169: the drive node whose full slot is taken next. -/
def State.nextSlot (s : State) : Option (NodeId × Frame) :=
  (roundRobin s.relay.lastDrive).findSome? fun n => (tget s.relay.slots n).map fun f => (n, f)

/-- R83, R169: the dirty panel taken next. -/
def State.nextPanel (s : State) : Option NodeId :=
  (roundRobin s.relay.lastPanel).find? fun n => (s.node n).role == .panel && tget s.press.dirty n

/-- R169: BAY_OUT takes the first class that has something waiting, when it is idle. -/
def takeBay (s : State) : State :=
  if s.relay.bayOut.isSome then s
  else match s.nextSlot with
    | some (n, f) =>
      s.onRelay fun q => { q with
        slots := tput q.slots n none, lastDrive := n.val + 1, bayOut := some ⟨f, false⟩ }
    | none =>
      if s.relay.ringRequest then
        let f := s.ownFrame 32 0 kRingCheck (le32 s.clock)
        s.onRelay fun q => { q with ringRequest := false, bayOut := some ⟨f, true⟩ }
      else match s.nextPanel with
        | some n =>
          let f := s.ownFrame 32 (addressOf n) kLamp (s.lampPayload n)
          (s.onRelay fun q => { q with lastPanel := n.val + 1, bayOut := some ⟨f, false⟩ }).onPress fun q => { q with
            dirty := tput q.dirty n false, refresh := tput q.refresh n (some Config.refreshMs) }
        | none =>
          match s.relay.bayFifo with
          | f :: rest => s.onRelay fun q => { q with bayFifo := rest, bayOut := some ⟨f, false⟩ }
          | [] => s

/-- R170: SPINE_OUT takes the first class that has something waiting, when it is idle. -/
def takeSpine (s : State) : State :=
  if s.relay.spineOut.isSome then s
  else match s.relay.replyFifo with
    | r :: rest =>
      s.onRelay fun q => { q with
        replyFifo := rest, spineOut := some ⟨r.frame, if r.restart then .restart else .plain⟩ }
    | [] =>
      match (if s.hasOffer then takeOffer s else (s, none)) with
      | (t, some f) => t.onRelay fun q => { q with spineOut := some ⟨f, .alert⟩ }
      | (_, none) =>
        match s.relay.spineFifo with
        | f :: rest => s.onRelay fun q => { q with spineFifo := rest, spineOut := some ⟨f, .plain⟩ }
        | [] => s

/-- R185: the part is out of reset and CLK runs. -/
def State.running (s : State) : Bool := s.pins.resetNHigh && !s.pins.resetEdge && s.pins.clkRunning

/-- R169, R170: each idle transmitter takes what waits. While CLK is stopped or the part is in reset no byte is sent
(R185). -/
def takeUp (s : State) : State := if s.running then takeSpine (takeBay s) else s

/-! ### Replies and reports (R171, R183) -/

/-- Table 10-7: a model's byte. -/
def Model.statusByte (m : Model) : Byte :=
  byteOf (m.state.code + (if m.holdZone then 16 else 0) + (if m.holdPause then 32 else 0) +
    (if m.state == .holding && m.target == some .home then 64 else 0))

/-- A tally, 4 bytes (Table 10-7). -/
def tallyBytes (n : Nat) : List Byte := le32 (BitVec.ofNat 32 n)

/-- A counter, 2 bytes (Table 10-7). -/
def counterBytes (n : Nat) : List Byte := le16 (BitVec.ofNat 16 n)

/-- R183: the STATUS_REPORT payload of Table 10-7. -/
def State.statusPayload (s : State) (origin : Byte) : List Byte :=
  let t := s.press.tallies
  let b := s.relay.bayCounters
  let p := s.relay.spineCounters
  [origin, byteOf s.gallery.code, flagBit 0 s.sup.stopAsserted ||| flagBit 1 s.alert.overflow,
    byteOf s.alert.queue.length, byteOf s.alert.lost] ++
  allModels.map (fun m => (s.model m).statusByte) ++
  [t.taken, t.started, t.expired, t.flushed, t.refused].flatMap tallyBytes ++
  [b.good, b.checkErrors, b.framingErrors, b.misrouted, b.dropped, b.undelivered, b.stranger].flatMap counterBytes ++
  [p.good, p.checkErrors, p.framingErrors, p.misrouted, p.dropped, p.overrun].flatMap counterBytes

/-- A frame's kind and payload, as one answer. -/
abbrev Answer := Byte × List Byte

/-- The REPLY of Table 10-4 to a command of a kind, with its sub-command or table id, result and detail. -/
def replyAnswer (kind sub : Byte) (v : Verdict16) : Answer := (kReply, [kind, sub, v.1.code] ++ le16 v.2)

/-- R171: a reply joins the tail of the reply FIFO. -/
def pushReply (c : Sender) (a : Answer) (restart : Bool) (s : State) : State :=
  let f := s.ownFrame c.srcBay c.srcNode a.1 a.2
  s.onRelay fun q => { q with replyFifo := q.replyFifo ++ [⟨f, restart⟩] }

/-- R171: a command finds the reply FIFO full. -/
def State.replyFull (s : State) : Bool := Config.replyDepth ≤ s.relay.replyFifo.length

/-- R171: a command overrun is counted. -/
def overrun (s : State) : State := s.onSpineCounters fun c => { c with overrun := count c.overrun }

/-- R171, R182: a command is carried out and answered. To bay 31 it is carried out with no test and no reply; to the own
bay it is first tested for room in the reply FIFO. -/
def answered (c : Sender) (body : State → State × Answer) (s : State) : State :=
  if c.all then (body s).1
  else if s.replyFull then overrun s
  else pushReply c (body s).2 false (body s).1

/-- R77, R173: what the clear option of STATUS_QUERY does. -/
def clearCounts (s : State) : State :=
  let waiting := (allModels.map fun m => (s.waits m).length).sum
  (s.onRelay fun q => { q with bayCounters := .zero, spineCounters := .zero }).onTallies fun _ =>
    ⟨min Config.tallyMax waiting, 0, 0, 0, 0⟩

/-! ### Keys and resets (R106 to R108, R160, R172, R184, R185) -/

/-- R107: the STOP contact is seen open. Only a key that was released becomes asserted. -/
def stopAsserts (s : State) : State :=
  let s := s.onPins fun p => { p with stopOpen := true }
  if s.sup.stopAsserted then s
  else forEach allModels stopModel (report (.bay .stopKey) true (s.onSup fun q => { q with stopAsserted := true }))

/-- R106, R107: the STOP contact has been closed for 20 ms. -/
def stopReleases (s : State) : State :=
  let s := s.onPins fun p => { p with stopOpen := false }
  if s.sup.stopAsserted then
    freeAll (report (.bay .stopKey) false (s.onSup fun q => { q with stopAsserted := false }))
  else s

/-- R106, R108: at the end of a reset the STOP and ACK contacts are sampled once. -/
def sampleKeys (s : State) : State :=
  let stop := s.pins.stopOpen
  let ack := if s.pins.ackClosed then AckState.blocked else .armed
  let s := s.onSup fun q => { q with stopAsserted := stop, ack }
  if stop then report (.bay .stopKey) true s else s

/-- R172: the start-up report is placed, addressed to bay 0, node 0. -/
def placeStartUp (origin : Byte) (s : State) : State :=
  let f := s.ownFrame 0 0 kStatusReport (s.statusPayload origin)
  s.onRelay fun q => { q with replyFifo := [⟨f, false⟩] }

/-- R160: the own bay that the BAY straps give. -/
def ownBayOf (straps : BitVec 5) : Byte := if straps = 0 ∨ straps = 31 then 1 else straps.zeroExtend 8

/-- R160: the rate that the RATE straps give. -/
def rateOf (straps : BitVec 2) : Rate :=
  match straps.toNat with
  | 0 => .kbps125
  | 1 => .kbps250
  | 2 => .kbps500
  | _ => .kbps1000

/-- R185: a hard reset ends: every block at its reset values, the straps and keys sampled, the start-up report placed.
The queue of commands is not the part's. -/
def hardResetEnds (s : State) : State :=
  let base := { State.reset with
    pins := s.pins, pending := s.pending
    relay := { LineRelay.reset with ownBay := ownBayOf s.pins.bayStraps, rate := rateOf s.pins.rateStraps } }
  placeStartUp 1 (sampleKeys base)

/-- R185: the part is held in hard reset while RESET_N is low. -/
def hardResetHolds (s : State) : State :=
  { State.reset with
    pins := s.pins, pending := s.pending
    relay := { LineRelay.reset with
      ownBay := s.relay.ownBay, rate := s.relay.rate, replyFifo := [], ringRequest := false } }

/-- R172, R184: the soft reset. The show clock, the counters, the own bay and the rate are kept, and a frame in progress
on either transmitter is finished. DESIGN CHOICE, unsafe (log 14): a ring check in progress is not of the new round. -/
def softReset (s : State) : State :=
  let base := { State.reset with
    pins := s.pins, pending := s.pending
    motion := { MotionSequencer.reset with clock := s.clock }
    relay := { LineRelay.reset with
      ownBay := s.relay.ownBay, rate := s.relay.rate, bayCounters := s.relay.bayCounters,
      spineCounters := s.relay.spineCounters,
      bayOut := s.relay.bayOut.map fun b => { b with ringCheck := false },
      spineOut := s.relay.spineOut.map fun b => { b with builder := .plain } } }
  placeStartUp 2 (sampleKeys base)

/-! ### A frame has left (R135, R168, R170, R172) -/

/-- R168, R169: a frame has left BAY_OUT. -/
def bayLeft (s : State) : State :=
  match s.relay.bayOut with
  | none => s
  | some b =>
    let s := s.onRelay fun q => { q with bayOut := none }
    if b.ringCheck then
      s.onRelay fun q => { q with ringOutstanding := true, missTimer := some Config.ringCheckMs }
    else s

/-- R135, R170, R172: a frame has left SPINE_OUT, and its builder is told. -/
def spineLeft (s : State) : State :=
  match s.relay.spineOut with
  | none => s
  | some b =>
    let s := s.onRelay fun q => { q with spineOut := none }
    let s := match b.builder with
      | .alert => alertLeft s
      | .restart => if s.relay.softPending then softReset s else s
      | .plain => s
    if s.relay.softWaiting then softReset s else s

end Sys2Proof.Machine
end

