-- ==== Sys2Proof/Machine/Operands.lean ====
section
/-!
DEFINITION. The operands of command frames: table records through the form, clamping and structure stages of R175 to
R177, the arguments of the sub-commands, and the subjects of CLEAR_FAULT (R121).

A refused record is answered BAD_FIELD with the offset of the first field at fault. DESIGN CHOICE, unsafe (log 19): the
fields present are tested in the order they stand and the length last; a fault between two fields is named at the field
that R177's phrase names first.
-/

namespace Sys2Proof.Machine

/-! ### Stages (R175 to R177) -/

/-- The detail that stands for the record's length (R175). -/
def lengthFault : Half := 0xFFFF

/-- The offset of the first check that fails. -/
def firstFault (checks : List (Nat × Bool)) : Option Half :=
  (checks.find? fun c => !c.2).map fun c => BitVec.ofNat 16 c.1

/-- R175 stage 1: the enumeration and count fields that the record has, in order, and then its length. -/
def formFault (record : List Byte) (checks : List (Nat × Bool)) (length : Nat) : Option Half :=
  match firstFault (checks.filter fun c => c.1 < record.length) with
  | some o => some o
  | none => if record.length = length then none else some lengthFault

/-- R176: a number is brought to the nearest value in range. -/
def clampTo (lo hi n : Nat) : Nat := max lo (min hi n)

/-- R176: a load average depth that is not 1, 2, 4 or 8 becomes the next lower of those; 0 becomes 1. -/
def clampDepth (n : Nat) : Nat := if n < 2 then 1 else if n < 4 then 2 else if n < 8 then 4 else 8

/-- What the first three stages make of a record: the fault's detail, or the value and whether a field was clamped. -/
abbrev Staged (α : Type) := Except Half (α × Bool)

/-- The three stages in order: form, then the clamped value, then structure. -/
def stages {α : Type} (form : Option Half) (value : α) (clamped : Bool) (structure' : Option Half) : Staged α :=
  match form with
  | some o => .error o
  | none => match structure' with
    | some o => .error o
    | none => .ok (value, clamped)

/-! ### Records (Table 10-8) -/

/-- The role of a code. -/
def roleOf (n : Nat) : Role :=
  match n with
  | 1 => .panel
  | 2 => .drive
  | 3 => .sensor
  | 4 => .guest
  | _ => .empty

/-- The relay policy of a code. -/
def policyOf (n : Nat) : Policy :=
  match n with
  | 1 => .mirror
  | 2 => .pass
  | _ => .consume

/-- The written fields of a NODE record (R163). -/
structure NodeFields where
  role : Role
  timeout : Nat
  policy : Policy
  zones : BitVec 8
  deriving DecidableEq, Repr

/-- A NODE record: the silence timeout of a DRIVE node is at least 1, and only a SENSOR owns zones. -/
def readNode (r : List Byte) : Staged NodeFields :=
  let role := roleOf (natAt r 0)
  let timeout := if role = .drive then max 1 (natAt r 1) else natAt r 1
  let zones := byteAt r 3
  stages (formFault r [(0, natAt r 0 ≤ 4), (2, natAt r 2 ≤ 2)] 4)
    ⟨role, timeout, policyOf (natAt r 2), zones⟩ (timeout != natAt r 1)
    (firstFault [(3, zones == 0 || role == .sensor)])

/-- The button mode of a code. -/
def buttonModeOf (n : Nat) : ButtonMode :=
  match n with
  | 0 => .tap
  | 1 => .toggle
  | 2 => .hold
  | _ => .call

/-- A BUTTON record: EMPTY, or a defined entry with no run state yet (R62, R177). -/
def readButton (r : List Byte) : Staged (Option Button) :=
  if natAt r 0 = 0 then stages (formFault r [] 1) none false none
  else
    let mode := buttonModeOf (natAt r 3)
    let stuck := max 1 (natAt r 8)
    let node := nodeOfAddress (natAt r 1)
    let button := indexBelow 16 (natAt r 2)
    let value : Option Button := node.bind fun n => button.map fun b =>
      { key := ⟨n, b⟩, mode, acting := if natAt r 4 = 0 then .down else .up, model := byteAt r 5, cue := byteAt r 6,
        lockout := natAt r 7, stuckLimit := stuck, downSince := none, stuckTimer := none, lockoutTimer := none,
        lockoutUntil := none, suspect := false }
    stages (formFault r [(0, natAt r 0 ≤ 1), (3, natAt r 3 ≤ 3), (4, natAt r 4 ≤ 1)] 9) value
      (stuck != natAt r 8)
      (firstFault [(1, node.isSome), (2, button.isSome), (5, mode == .call || natAt r 5 ≤ 11),
        (6, mode == .call || natAt r 6 ≤ 31)])

/-- Step k of a CUE record. -/
def readStep (r : List Byte) (k : Nat) : CueStep :=
  if natAt r (4 + 2 * k) = 0 then .play (Fin.ofNat 64 (natAt r (5 + 2 * k)))
  else .dwell (max 1 (natAt r (5 + 2 * k)))

/-- A CUE record: EMPTY, or a defined cue (R27, R176, R177). -/
def readCue (r : List Byte) : Staged (Option Cue) :=
  if natAt r 0 = 0 then stages (formFault r [] 1) none false none
  else
    let n := natAt r 1
    let ks := List.range n
    let repeats := clampTo 1 15 (natAt r 2)
    let value : Cue := ⟨ks.map (readStep r), repeats, if natAt r 3 = 0 then .goHome else .stay⟩
    stages
      (formFault r ([(0, decide (natAt r 0 ≤ 1)), (1, decide (1 ≤ n ∧ n ≤ 8)), (3, decide (natAt r 3 ≤ 1))] ++
        ks.map fun k => (4 + 2 * k, decide (natAt r (4 + 2 * k) ≤ 1))) (4 + 2 * n))
      (some value)
      (repeats != natAt r 2 || ks.any fun k => natAt r (4 + 2 * k) == 1 && natAt r (5 + 2 * k) == 0)
      (firstFault (ks.map fun k =>
        (5 + 2 * k, decide (natAt r (4 + 2 * k) = 1 ∨ natAt r (5 + 2 * k) ≤ 63))))

/-- The stretch class of a code. -/
def stretchOf (n : Nat) : Stretch :=
  match n with
  | 1 => .lead
  | 2 => .dwell
  | 3 => .tail
  | _ => .none

/-- Segment k of a PROFILE record. -/
def readSegment (r : List Byte) (k : Nat) : Segment :=
  ⟨min 10000 (halfAt r (3 + 5 * k)).toNat, (halfAt r (5 + 5 * k)).toInt, stretchOf (natAt r (7 + 5 * k))⟩

/-- A PROFILE record: EMPTY, or a defined profile (R25, R176). -/
def readProfile (r : List Byte) : Staged (Option Profile) :=
  if natAt r 0 = 0 then stages (formFault r [] 1) none false none
  else
    let n := natAt r 2
    let ks := List.range n
    let value : Profile := ⟨if natAt r 1 = 0 then .abs else .rel, ks.map (readSegment r)⟩
    stages
      (formFault r ([(0, decide (natAt r 0 ≤ 1)), (1, decide (natAt r 1 ≤ 1)), (2, decide (1 ≤ n ∧ n ≤ 11))] ++
        ks.map fun k => (7 + 5 * k, decide (natAt r (7 + 5 * k) ≤ 3))) (3 + 5 * n))
      (some value) (ks.any fun k => 10000 < (halfAt r (3 + 5 * k)).toNat) none

/-- The configured fields that a MODEL record carries, clamped (R1, R176). -/
def modelFields (r : List Byte) : ModelConfig :=
  { driveNode := nodeOfAddress (natAt r 0), axis := Fin.ofNat 2 (natAt r 1),
    travelMin := (halfAt r 2).toInt, travelMax := (halfAt r 4).toInt, home := (halfAt r 6).toInt,
    rateLimit := clampTo 1 4095 (halfAt r 8).toNat, returnRate := clampTo 1 4095 (halfAt r 10).toNat,
    leadOffset := (byteAt r 12).toInt, dwellOffset := (byteAt r 13).toInt, tailOffset := (byteAt r 14).toInt,
    followLimit := clampTo 1 32767 (halfAt r 15).toNat, followCount := clampTo 1 15 (natAt r 17),
    feedbackLag := min 7 (natAt r 18), loadDepth := clampDepth (natAt r 19),
    loadAlarm := min 1023 (halfAt r 20).toNat, loadTrip := min 1023 (halfAt r 22).toNat,
    loadRelease := min 1023 (halfAt r 24).toNat, zoneMask := byteAt r 26,
    holdLimit := max 1 (natAt r 27), pauseWindow := clampTo 1 60 (natAt r 28), waitDepth := min 4 (natAt r 29),
    maxWaitAge := max 5 (natAt r 30) }

/-- R176: whether a field of a MODEL record was outside its range. -/
def modelClamped (r : List Byte) (c : ModelConfig) : Bool :=
  c.rateLimit != (halfAt r 8).toNat || c.returnRate != (halfAt r 10).toNat ||
  c.followLimit != (halfAt r 15).toNat || c.followCount != natAt r 17 || c.feedbackLag != natAt r 18 ||
  c.loadDepth != natAt r 19 || c.loadAlarm != (halfAt r 20).toNat || c.loadTrip != (halfAt r 22).toNat ||
  c.loadRelease != (halfAt r 24).toNat || c.holdLimit != natAt r 27 || c.pauseWindow != natAt r 28 ||
  c.waitDepth != natAt r 29 || c.maxWaitAge != natAt r 30

/-- A MODEL record. `isDrive` says which nodes are of role DRIVE at that moment (R177). -/
def readModel (isDrive : NodeId → Bool) (r : List Byte) : Staged ModelConfig :=
  let c := modelFields r
  stages (formFault r [] 31) c (modelClamped r c)
    (firstFault [(0, c.driveNode.any isDrive), (1, decide (natAt r 1 ≤ 1)), (2, decide (c.travelMin < c.travelMax)),
      (6, decide (c.travelMin ≤ c.home ∧ c.home ≤ c.travelMax)), (20, decide (c.loadAlarm ≤ c.loadTrip)),
      (24, decide (c.loadRelease < c.loadTrip))])

/-- R112, R176: the kinds whose detect enable is always on: DRIVE_SILENT and STOP_KEY. -/
def alwaysDetected (code : Fin 15) : Bool := code == 4 || code == 7

/-- A ROUTE record for a kind code (R127). Flag bits that Table 10-8 does not name are not read (log 26). -/
def readRoute (code : Fin 15) (r : List Byte) : Staged Route :=
  let detect := (byteAt r 0).getLsbD 0
  let tier := clampTo 1 3 (natAt r 1)
  stages (formFault r [] 3)
    ⟨detect || alwaysDetected code, (byteAt r 0).getLsbD 1, (byteAt r 0).getLsbD 2, tier, natAt r 2⟩
    (tier != natAt r 1 || (alwaysDetected code && !detect)) none

/-- The tone of a code. -/
def toneOf (n : Nat) : Tone :=
  match n with
  | 0 => .khz1
  | 1 => .khz2
  | 2 => .khz29
  | _ => .khz4

/-- A PATTERN record (R144). -/
def readPattern (r : List Byte) : Staged Pattern :=
  let on := max 1 (natAt r 0)
  let off := max 1 (natAt r 1)
  stages (formFault r [(2, natAt r 2 ≤ 1), (3, natAt r 3 ≤ 3)] 4)
    ⟨on, off, natAt r 2 == 1, toneOf (natAt r 3)⟩ (on != natAt r 0 || off != natAt r 1) none

/-- The SETTINGS record (R180). -/
def readSettings (r : List Byte) : Staged Settings :=
  let period := natAt r 0
  let v : Settings := ⟨period, min 60 (natAt r 1), clampTo 5 100 (natAt r 2), min 100 (natAt r 3), natAt r 4,
    max 1 (natAt r 5)⟩
  stages (formFault r [] 6) v
    (v.dozeTime != natAt r 1 || v.wakeLimit != natAt r 2 || v.clearSettle != natAt r 3 ||
      v.bayThreshold != natAt r 5)
    (firstFault [(0, period == 5 || period == 10 || period == 20)])

/-! ### CLEAR_FAULT (R121, section 10.9) -/

/-- An entry is of a model's kinds with that model. -/
def FaultId.ofModel (m : ModelId) : FaultId → Bool
  | .model _ m' => m' == m
  | .nodeSilent _ | .buttonStuck _ | .bay _ => false

/-- The entries named with kind ALL and a subject; none where the subject is refused. -/
def namedAll (a b : Byte) : Option (FaultId → Bool) :=
  if a = 0xFF ∧ b = 0xFF then some fun _ => true
  else if b = 0xFE then (indexBelow 12 a.toNat).map FaultId.ofModel
  else if b = 0xFD then (nodeOfAddress a.toNat).map fun n id => id == .nodeSilent n
  else (nodeOfAddress a.toNat).bind fun n => (indexBelow 16 b.toNat).map fun k id => id == .buttonStuck ⟨n, k⟩

/-- The entries named with one latching kind and a subject; none where the kind or the subject is refused. The bay kinds
do not read the subject. -/
def namedKind (code : Nat) (a b : Byte) : Option (FaultId → Bool) :=
  let ofKind : FaultId → Bool := fun id => id.kindCode.val == code
  if 11 ≤ code then none
  else if 7 ≤ code then some ofKind
  else if a = 0xFF ∧ b = 0xFF then some ofKind
  else if code ≤ 4 then
    if b = 0 then (indexBelow 12 a.toNat).map fun m id => ofKind id && id.ofModel m else none
  else if code = 5 then
    if b = 0 then (nodeOfAddress a.toNat).map fun n id => id == .nodeSilent n else none
  else (nodeOfAddress a.toNat).bind fun n => (indexBelow 16 b.toNat).map fun k id => id == .buttonStuck ⟨n, k⟩

/-- R121: the entries that a CLEAR_FAULT's kind and subject name; none is refused BAD_FIELD. -/
def namedFaults (kind a b : Byte) : Option (FaultId → Bool) :=
  if kind = 0xFF then namedAll a b else namedKind kind.toNat a b

/-! ### FEEDBACK payloads (R165, Table 10-3) -/

/-- The axis entry at an offset of a FEEDBACK payload; none where it names neither axis 0 nor axis 1. -/
def axisEntryAt (p : List Byte) (o : Nat) : Option AxisEntry :=
  (indexBelow 2 (natAt p o)).map fun a => ⟨a, halfAt p (o + 1), halfAt p (o + 3), byteAt p (o + 5)⟩

/-- R165: the axis entries of a FEEDBACK payload of the form its kind requires. -/
def feedbackEntries (p : List Byte) : Option (List AxisEntry) :=
  if p.length = 7 then (axisEntryAt p 1).map fun e => [e]
  else if p.length = 13 then
    match axisEntryAt p 1, axisEntryAt p 7 with
    | some e, some f => if e.axis = 0 ∧ f.axis = 1 then some [e, f] else none
    | _, _ => none
  else none

end Sys2Proof.Machine
end

