-- ==== Sys2Proof/Machine/TableOps.lean ====
section
/-!
DEFINITION. Table commands (spec/11): the writes of the eight tables with their refusals and effects, and the bytes that
a TABLE_READ returns.
-/

namespace Sys2Proof.Machine

/-! ### The reply of a write (R175) -/

/-- R175 stage 6: OK_CLAMPED if any field was clamped and OK otherwise, with detail 0. -/
def storedReply (clamped : Bool) : Verdict16 := (if clamped then .okClamped else .ok, 0)

/-- R175 stage 5, R178: the refusal of a write to an entry in use. DESIGN CHOICE, unsafe (log 37): it carries detail 0, for
which R175 and R178 state none. -/
def inUseReply : Verdict16 := (.inUse, 0)

/-- R174, R175: a TABLE_WRITE to the own bay or to bay 31; `body` is what follows the tests of R174. -/
def tableWrite (id : Byte) (c : Sender) (index : Byte) (record : List Byte)
    (body : State → State × Verdict16) (s : State) : State :=
  answered c (fun s =>
    match tableAddressFault false (id :: index :: record) with
    | some v => (s, replyAnswer kTableWrite id v)
    | none =>
      let (t, v) := body s
      (t, replyAnswer kTableWrite id v)) s

/-! ### Use (R29, R178) -/

/-- R29: some model in play has this cue as its current cue. -/
def State.cueInUse (s : State) (c : CueId) : Bool :=
  allModels.any fun m => (s.model m).inPlay && (s.model m).position.any fun p => p.cue == c

/-- A cue has a PLAY step that names the profile. -/
def Cue.names (q : Cue) (p : ProfileId) : Bool := q.steps.contains (.play p)

/-- R29: some model in play has a current cue that names this profile. -/
def State.profileInUse (s : State) (p : ProfileId) : Bool :=
  allModels.any fun m => (s.model m).inPlay &&
    (s.model m).position.any fun x => (s.cue x.cue).any fun q => q.names p

/-- R62, R178: a button owns a cue or has a request in a wait list. -/
def State.keyInUse (s : State) (k : Key) : Bool := allModels.any fun m => s.ownsCue k m || s.isWaiting k m

/-- R178: a model that is not DISABLED is bound to the node. -/
def State.nodeInUse (s : State) (n : NodeId) : Bool := allModels.any fun m => s.boundTo n m

/-- R178, R30: some model is not DISABLED. -/
def State.inService (s : State) : Bool := allModels.any fun m => (s.model m).state != .disabled

/-! ### Stores -/

/-- R61, R83, R89, R117, R163: a NODE entry is written. -/
def storeNode (n : NodeId) (f : NodeFields) (s : State) : State :=
  let old := s.node n
  let s := s.modNode n fun e =>
    let new := { e with role := f.role, timeout := f.timeout, policy := f.policy, zones := f.zones, helloSeen := false }
    { new with silence := new.silenceStart }
  let s := report (.nodeSilent n) false s
  let s :=
    if f.role = .panel then (if old.role = .panel then s else markDirty n s)
    else emptyRecorded n (s.onPress fun q => { q with
      dirty := tput q.dirty n false, refresh := tput q.refresh n none })
  let reported := if f.role = .sensor then
      (if old.role = .sensor ∧ old.zones = f.zones then tget s.sup.reported n else f.zones)
    else 0
  reviewZones (s.onSup fun q => { q with reported := tput q.reported n reported })

/-- A NODE write after R174. -/
def writeNode (n : NodeId) (record : List Byte) (s : State) : State × Verdict16 :=
  match readNode record with
  | .error o => (s, (.badField, o))
  | .ok (f, clamped) =>
    if (s.node n).role = .drive ∧ f.role ≠ .drive ∧ s.nodeInUse n = true then (s, inUseReply)
    else (storeNode n f s, storedReply clamped)

/-- R175 stage 4: another defined entry that holds the key. -/
def State.duplicateOf (s : State) (i : EntryIx) (k : Key) : Option EntryIx :=
  allEntries.find? fun j => j != i && (s.entry j).any fun b => b.key == k

/-- A BUTTON write after R174. -/
def writeButton (i : EntryIx) (record : List Byte) (s : State) : State × Verdict16 :=
  match readButton record with
  | .error o => (s, (.badField, o))
  | .ok (b, clamped) =>
    match b.bind fun b => s.duplicateOf i b.key with
    | some j => (s, (.duplicate, BitVec.ofNat 16 j.val))
    | none =>
      if (s.entry i).any fun old => s.keyInUse old.key then (s, inUseReply)
      else (storeButton i b s, storedReply clamped)

/-- A CUE write after R174. -/
def writeCue (c : CueId) (record : List Byte) (s : State) : State × Verdict16 :=
  match readCue record with
  | .error o => (s, (.badField, o))
  | .ok (q, clamped) =>
    if s.cueInUse c then (s, inUseReply)
    else (s.onMotion fun x => { x with cues := tput x.cues c q }, storedReply clamped)

/-- A PROFILE write after R174. -/
def writeProfile (p : ProfileId) (record : List Byte) (s : State) : State × Verdict16 :=
  match readProfile record with
  | .error o => (s, (.badField, o))
  | .ok (q, clamped) =>
    if s.profileInUse p then (s, inUseReply)
    else (s.onMotion fun x => { x with profiles := tput x.profiles p q }, storedReply clamped)

/-- A MODEL write after R174: straight into the configured fields of a DISABLED model (R1), staged otherwise (R22). -/
def writeModel (m : ModelId) (record : List Byte) (s : State) : State × Verdict16 :=
  match readModel (fun n => (s.node n).role == .drive) record with
  | .error o => (s, (.badField, o))
  | .ok (c, clamped) =>
    if (s.model m).state = .disabled then
      (s.modModel m fun x => { x with config := c, staged := none, commitPending := false }, storedReply clamped)
    else if c.driveNode ≠ (s.model m).config.driveNode ∨ c.axis ≠ (s.model m).config.axis then (s, inUseReply)
    else (s.modModel m fun x => { x with staged := some c }, (.staged, if clamped then 1 else 0))

/-- R89, R113: NODE_SILENT conditions turned on at a route write fill the reported sets of their sensors. -/
def fillSilent (s : State) : State :=
  forEach allNodes (fun n t =>
    if (t.marks (.nodeSilent n)).active && (t.node n).role == .sensor then
      let own := (t.node n).zones
      t.onSup fun q => { q with reported := tput q.reported n own }
    else t) s

/-- R113, R127: a ROUTE entry is stored; a changed detect enable changes the kind's conditions at once. NODE_SILENT (5)
and RING_OPEN (9) conditions reach the zones (R90). -/
def storeRoute (code : Fin 15) (r : Route) (s : State) : State :=
  let old := (s.route code).detect
  let s := s.onAlert fun u => { u with routes := tput u.routes code r }
  if r.detect = old then s
  else
    let s := redetect code s
    if code = 5 then reviewZones (if r.detect then fillSilent s else s)
    else if code = 9 then reviewZones s
    else s

/-- A ROUTE write after R174. -/
def writeRoute (code : Fin 15) (record : List Byte) (s : State) : State × Verdict16 :=
  match readRoute code record with
  | .error o => (s, (.badField, o))
  | .ok (r, clamped) => (storeRoute code r s, storedReply clamped)

/-- A PATTERN write after R174. A running phase is not restarted (R144). -/
def writePattern (i : Fin 3) (record : List Byte) (s : State) : State × Verdict16 :=
  match readPattern record with
  | .error o => (s, (.badField, o))
  | .ok (p, clamped) => (s.onAlert fun u => { u with patterns := tput u.patterns i p }, storedReply clamped)

/-- R30, R118, R154, R180: the SETTINGS record is stored and each field takes effect. -/
def storeSettings (v : Settings) (s : State) : State :=
  let was := s.settings.samplePeriod
  let s := { s with settings := v }
  let s := if v.samplePeriod = was then s else s.onMotion fun q => { q with sampleTimer := v.samplePeriod }
  let t := spineStart v.spineSilence
  let s := s.onRelay fun q => { q with spineSilence := t }
  let s := if v.spineSilence = 0 then report (.bay .spineSilent) false s else s
  quietTest true s

/-- A SETTINGS write after R174. -/
def writeSettings (record : List Byte) (s : State) : State × Verdict16 :=
  match readSettings record with
  | .error o => (s, (.badField, o))
  | .ok (v, clamped) =>
    if v.samplePeriod ≠ s.settings.samplePeriod ∧ s.inService = true then (s, inUseReply)
    else (storeSettings v s, storedReply clamped)

/-! ### Reading (R179) -/

/-- Role codes. -/
def Role.code : Role → Nat
  | .empty => 0 | .panel => 1 | .drive => 2 | .sensor => 3 | .guest => 4

/-- Relay policy codes. -/
def Policy.code : Policy → Nat
  | .consume => 0 | .mirror => 1 | .pass => 2

/-- Button mode codes. -/
def ButtonMode.code : ButtonMode → Nat
  | .tap => 0 | .toggle => 1 | .hold => 2 | .call => 3

/-- Stretch class codes. -/
def Stretch.code : Stretch → Nat
  | .none => 0 | .lead => 1 | .dwell => 2 | .tail => 3

/-- Tone codes. -/
def Tone.code : Tone → Nat
  | .khz1 => 0 | .khz2 => 1 | .khz29 => 2 | .khz4 => 3

/-- A stamp that is absent is returned as 0. -/
def stampBytes (t : Option Clock) : List Byte := le32 (t.getD 0)

/-- A NODE entry with its read-back bytes. -/
def NodeEntry.bytes (e : NodeEntry) : List Byte :=
  [byteOf e.role.code, byteOf e.timeout, byteOf e.policy.code, e.zones,
    flagBit 0 e.lastHeard.isSome ||| flagBit 1 e.helloSeen] ++ stampBytes e.lastHeard

/-- The waiting request of a button: its model, its place 1-4 in the wait list and its arrival stamp (R63). -/
def State.waitingRequest (s : State) (k : Key) : Option (ModelId × Nat × Clock) :=
  allModels.findSome? fun m =>
    ((s.waits m).zipIdx.find? fun r => r.1.key == k).map fun r => (m, r.2 + 1, r.1.arrival)

/-- A BUTTON entry: 00h for EMPTY, or the fields and the run state. -/
def State.buttonBytes (s : State) (i : EntryIx) : List Byte :=
  match s.entry i with
  | none => [0]
  | some b =>
    let w := s.waitingRequest b.key
    [1, addressOf b.key.node, byteOf b.key.button.val, byteOf b.mode.code, if b.acting = .down then 0 else 1, b.model,
      b.cue, byteOf b.lockout, byteOf b.stuckLimit,
      flagBit 0 b.downSince.isSome ||| flagBit 1 b.inLockout ||| flagBit 2 b.lockoutUntil.isSome |||
        flagBit 3 b.suspect ||| flagBit 4 w.isSome] ++
    stampBytes b.downSince ++ stampBytes b.lockoutUntil ++
    (match w with
      | some (m, place, arrival) => [byteOf m.val, byteOf place] ++ le32 arrival
      | none => [0, 0] ++ le32 0)

/-- A step of a CUE record. -/
def CueStep.bytes : CueStep → List Byte
  | .play p => [0, byteOf p.val]
  | .dwell n => [1, byteOf n]

/-- A CUE entry. -/
def cueBytes : Option Cue → List Byte
  | none => [0]
  | some q =>
    [1, byteOf q.steps.length, byteOf q.repeats, if q.endAction = .goHome then 0 else 1] ++
      q.steps.flatMap CueStep.bytes

/-- A segment of a PROFILE record. -/
def Segment.bytes (g : Segment) : List Byte :=
  le16 (BitVec.ofNat 16 g.duration) ++ le16 (ofPosition g.target) ++ [byteOf g.stretch.code]

/-- A PROFILE entry. -/
def profileBytes : Option Profile → List Byte
  | none => [0]
  | some q =>
    [1, if q.mode = .abs then 0 else 1, byteOf q.segments.length] ++ q.segments.flatMap Segment.bytes

/-- A MODEL entry: the configured fields in force and the staged and commit-pending flags. -/
def Model.bytes (m : Model) : List Byte :=
  let c := m.config
  let n16 := fun (n : Nat) => le16 (BitVec.ofNat 16 n)
  [match c.driveNode with | some n => addressOf n | none => 0, byteOf c.axis.val] ++
  le16 (ofPosition c.travelMin) ++ le16 (ofPosition c.travelMax) ++ le16 (ofPosition c.home) ++
  n16 c.rateLimit ++ n16 c.returnRate ++
  [BitVec.ofInt 8 c.leadOffset, BitVec.ofInt 8 c.dwellOffset, BitVec.ofInt 8 c.tailOffset] ++
  n16 c.followLimit ++ [byteOf c.followCount, byteOf c.feedbackLag, byteOf c.loadDepth] ++
  n16 c.loadAlarm ++ n16 c.loadTrip ++ n16 c.loadRelease ++
  [c.zoneMask, byteOf c.holdLimit, byteOf c.pauseWindow, byteOf c.waitDepth, byteOf c.maxWaitAge,
    flagBit 0 m.staged.isSome ||| flagBit 1 m.commitPending]

/-- A ROUTE entry. -/
def Route.bytes (r : Route) : List Byte :=
  [flagBit 0 r.detect ||| flagBit 1 r.spine ||| flagBit 2 r.beacon, byteOf r.tier, byteOf r.escalation]

/-- A PATTERN entry. -/
def Pattern.bytes (p : Pattern) : List Byte :=
  [byteOf p.onTime, byteOf p.offTime, if p.chime then 1 else 0, byteOf p.tone.code]

/-- The SETTINGS entry. -/
def Settings.bytes (v : Settings) : List Byte :=
  [byteOf v.samplePeriod, byteOf v.dozeTime, byteOf v.wakeLimit, byteOf v.clearSettle, byteOf v.spineSilence,
    byteOf v.bayThreshold]

/-- R179: the entry of a table as stored, with its read-back bytes. The index has passed R174. -/
def State.entryBytes (s : State) (id index : Nat) : List Byte :=
  match id with
  | 1 => ((nodeOfAddress index).map fun n => (s.node n).bytes).getD []
  | 2 => s.buttonBytes (Fin.ofNat 128 index)
  | 3 => cueBytes (s.cue (Fin.ofNat 32 index))
  | 4 => profileBytes (s.profile (Fin.ofNat 64 index))
  | 5 => (s.model (Fin.ofNat 12 index)).bytes
  | 6 => (s.route (Fin.ofNat 15 index)).bytes
  | 7 => (tget s.alert.patterns (Fin.ofNat 3 index)).bytes
  | _ => s.settings.bytes

/-- R174, R179: the answer to a TABLE_READ. Reading changes no state. -/
def State.readAnswer (s : State) (payload : List Byte) : Answer :=
  match tableAddressFault true payload with
  | some v => replyAnswer kTableRead (byteAt payload 0) v
  | none => (kTableData, payload ++ s.entryBytes (natAt payload 0) (natAt payload 1))

end Sys2Proof.Machine
end

