-- ==== Sys2Proof/Machine/ControlOps.lean ====
section
/-!
DEFINITION. What the CONTROL sub-commands and ALERT_ACK do (spec/11 section 11.5): the dispatch of their arguments, and
enabling, disabling, committing, clearing faults and restarting.
-/

namespace Sys2Proof.Machine

/-! ### Arguments and replies (R181) -/

/-- R181: BAD_FIELD with detail 0, for an argument count or an argument out of range. -/
def badArgs : Verdict16 := (.badField, 0)

/-- R171, R181: a CONTROL sub-command is carried out and answered with its REPLY. -/
def control (code : Byte) (c : Sender) (body : State → State × Verdict16) (s : State) : State :=
  answered c (fun s =>
    let (t, v) := body s
    (t, replyAnswer kControl code v)) s

/-- R181: a sub-command whose one argument is a model. -/
def modelCommand (code : Byte) (c : Sender) (args : List Byte) (body : ModelId → State → State × Verdict16)
    (s : State) : State :=
  control code c (fun s =>
    match args with
    | [a] =>
      match indexBelow 12 a.toNat with
      | some m => body m s
      | none => (s, badArgs)
    | _ => (s, badArgs)) s

/-! ### ENABLE, DISABLE and COMMIT (R19, R21, R23) -/

/-- R19 test 2: the model's drive node is of role DRIVE in the node table. -/
def State.driveBound (s : State) (m : ModelId) : Bool :=
  (s.model m).config.driveNode.any fun n => (s.node n).role == .drive

/-- R19 test 3: another model that is not DISABLED is bound to the same drive node and axis. -/
def State.axisTaken (s : State) (m : ModelId) : Bool :=
  allModels.any fun k => k != m && (s.model k).state != .disabled &&
    (s.model k).config.driveNode == (s.model m).config.driveNode && (s.model k).config.axis == (s.model m).config.axis

/-- R19: the run state on entry into ENABLING. -/
def Model.enable (x : Model) : Model :=
  { x.dropCue.dropHold with
    state := .enabling, lastSetpoint := x.config.home, history := List.replicate 8 x.config.home, fedBack := none,
    loads := [], run := 0, flagSeen := false }

/-- R19, R92, R97, R102, R103: a DISABLED model enters ENABLING; its mask-occupied mark is worked out. -/
def enterEnabling (m : ModelId) (s : State) : State :=
  let s := changeModel m Model.enable s
  let occupied := s.maskOccupied (s.model m).config.zoneMask
  let s := s.modWatch m fun w => { w with maskOccupied := occupied, energised := false }
  endWakeTest (quench (.model .follow m) s)

/-- R19: ENABLE is decided; the first test that applies gives the reply. -/
def enableModel (m : ModelId) (s : State) : State × Verdict16 :=
  if (s.model m).state ≠ .disabled then (s, (.ok, 0))
  else if !s.driveBound m then (s, (.notConfigured, 0))
  else if s.axisTaken m then (s, (.inUse, 0))
  else if !s.noTripLatch m then (s, (.faultLatched, 0))
  else (enterEnabling m s, (.ok, 0))

/-- R21: the run state on entry into DISABLED. -/
def Model.disable (x : Model) : Model :=
  { x.dropCue.dropHold with state := .disabled, staged := none, commitPending := false }

/-- R21, R105, R157: DISABLE is accepted in every state. -/
def disableModel (m : ModelId) (s : State) : State × Verdict16 :=
  if (s.model m).state = .disabled then (s, (.ok, 0))
  else
    let s := quenchModel m (changeModel m Model.disable s)
    let s := s.modWatch m fun w => { w with maskOccupied := false, driveSilence := none }
    (endWakeTest (removeEntry m s), (.ok, 0))

/-- R23: COMMIT is decided at arrival. -/
def commitModel (m : ModelId) (s : State) : State × Verdict16 :=
  match (s.model m).staged with
  | none => (s, (.nothingStaged, 0))
  | some c =>
    match (s.model m).state with
    | .disabled => (s, (.nothingStaged, 0))
    | .idle => if commitFits c (s.model m).lastSetpoint then (applyCommit m c s, (.ok, 0)) else (s, (.outOfRange, 0))
    | .enabling | .running | .holding | .returning | .stopped | .faulted =>
      (s.modModel m fun x => { x with commitPending := true }, (.pending, 0))

/-! ### Starts and stops (R51, R53, R58) -/

/-- R51: the model and the cue that the arguments of CUE_START name; none is refused BAD_FIELD. -/
def cueArgs (args : List Byte) : Option (ModelId × CueId) :=
  (indexBelow 12 (natAt args 0)).bind fun m => (indexBelow 32 (natAt args 1)).map fun c => (m, c)

/-- R51: a CUE_START without a start time is a start request with requester CONTROL. -/
def startNow (args : List Byte) (s : State) : State × Verdict16 :=
  if args.length ≠ 3 then (s, badArgs)
  else match cueArgs args with
    | none => (s, badArgs)
    | some (m, c) =>
      let (t, v) := startRequest m c .control false s
      (t, (v.result, 0))

/-- R51, R53, R181: a CUE_START with a start time. DESIGN CHOICE, unsafe (log 34): a cue above 31 is refused BAD_FIELD with
detail 0, for which R51 states none in this form. For a model above 11, R181 test 3 states the 0. -/
def startLater (args : List Byte) (s : State) : State × Verdict16 :=
  if args.length ≠ 7 then (s, badArgs)
  else match cueArgs args with
    | none => (s, badArgs)
    | some (m, c) => scheduleStart m c (clockAt args 3) (natAt args 2) s

/-- R58: CUE_STOP cuts a cue in play, whoever owns it. -/
def stopCue (m : ModelId) (s : State) : State × Verdict16 :=
  if (s.model m).inPlay then (cutModel m s, (.ok, 0)) else (s, (.notRunning, 0))

/-! ### MODE, SHOW_SYNC, CLEAR_FAULT and RESUME (R149, R50, R122, R16) -/

/-- R149, R181: MODE with its one argument. A wrong argument count is refused with detail 0 (R181 test 2). The range of
the code is R149's, and so is the detail: that of every reply is the mode after the command. -/
def modeArgs (args : List Byte) (s : State) : State × Verdict16 :=
  match args with
  | [a] =>
    match askedMode a.toNat with
    | some g => modeCommand g s
    | none => (s, (.badField, BitVec.ofNat 16 s.gallery.code))
  | _ => (s, badArgs)

/-- R50, R181: SHOW_SYNC with its clock value. -/
def syncArgs (args : List Byte) (s : State) : State × Verdict16 :=
  if args.length = 4 then (syncClock (clockAt args 0) s, (.ok, 0)) else (s, badArgs)

/-- R122: the clearable named latches are cleared, and the reply counts those cleared or those left. -/
def clearNamed (named : FaultId → Bool) (s : State) : State × Verdict16 :=
  let cleared := s.clearable named
  let left := s.stillActive named
  (clearLatches cleared s,
   if left.isEmpty then (.ok, BitVec.ofNat 16 cleared.length) else (.stillActive, BitVec.ofNat 16 left.length))

/-- R121, R181: CLEAR_FAULT with its kind and subject. -/
def clearArgs (args : List Byte) (s : State) : State × Verdict16 :=
  if args.length ≠ 3 then (s, badArgs)
  else match namedFaults (byteAt args 0) (byteAt args 1) (byteAt args 2) with
    | none => (s, badArgs)
    | some named => clearNamed named s

/-- R16: the models in STOPPED. -/
def State.stoppedCount (s : State) : Nat := (allModels.filter fun m => (s.model m).state == .stopped).length

/-- R16, R181: RESUME. -/
def resumeArgs (args : List Byte) (s : State) : State × Verdict16 :=
  if args ≠ [] then (s, badArgs)
  else if s.sup.stopAsserted then (s, (.stillActive, 0))
  else (resumeAll s, (.ok, BitVec.ofNat 16 s.stoppedCount))

/-! ### STATUS_QUERY (R183, R77) -/

/-- R181, R183: the answer to a STATUS_QUERY. -/
def State.statusAnswer (s : State) (args : List Byte) : Answer :=
  if args.length = 1 then (kStatusReport, s.statusPayload 0) else replyAnswer kControl cStatusQuery badArgs

/-! ### RESTART (R172, R184) -/

/-- R172: a RESTART to bay 31: the soft reset comes at once, or after the frame in progress on SPINE_OUT has left. -/
def restartAll (s : State) : State :=
  if s.relay.spineOut.isSome then s.onRelay fun q => { q with softWaiting := true } else softReset s

/-- R171, R172: a RESTART to the own bay places its OK reply, and the soft reset is then pending. -/
def restartOwn (c : Sender) (args : List Byte) (s : State) : State :=
  if s.replyFull then overrun s
  else if args ≠ [] then pushReply c (replyAnswer kControl cRestart badArgs) false s
  else
    pushReply c (replyAnswer kControl cRestart (.ok, 0)) true (s.onRelay fun q => { q with softPending := true })

/-! ### ALERT_ACK (R139, R140) -/

/-- R139, R140, R181: an ALERT_ACK's one byte is its alert number. -/
def ackArgs (payload : List Byte) (s : State) : State × Verdict16 :=
  match payload with
  | [n] => if n = 0 then ackOverflow s else ackNumber n.toNat s
  | _ => (s, badArgs)

end Sys2Proof.Machine
end

