-- ==== Sys2Proof/Machine/Answer.lean ====
section
/-!
DEFINITION. How a command ends: the lamps are derived again (R82), each idle transmitter takes what waits (R169, R170),
and the part goes on. Most commands act only on a part that is out of reset with CLK running (R185).
-/

namespace Sys2Proof.Machine

/-- What a step of the part answers. -/
abbrev Outcome := Host.Outcome State Fault Refusal

/-- R82, R169, R170: what follows whatever a command did (log 7, log 8). -/
def settle (s : State) : State := takeUp (deriveLamps s)

/-- R185: the part is out of reset: RESET_N is high and no rising edge of it waits for CLK. -/
def State.outOfReset (s : State) : Bool := s.pins.resetNHigh && !s.pins.resetEdge

/-- The pin commands of R185 are taken whatever the pins say. -/
def actAlways (op : State → State) (s : State) : Outcome := .next (settle (op s))

/-- A command that needs neither a timer nor a line is taken while CLK is stopped; in reset it changes nothing (R185,
log 11, log 12). -/
def actOutOfReset (op : State → State) (s : State) : Outcome :=
  .next (if s.outOfReset then settle (op s) else s)

/-- R185: while the part is in reset or CLK is stopped, no timer advances, no byte moves and no command of this kind
comes; it changes nothing (log 11, log 12). -/
def act (op : State → State) (s : State) : Outcome := .next (if s.running then settle (op s) else s)

end Sys2Proof.Machine
end

