-- ==== Sys2Proof/Machine/BayFrames.lean ====
section
/-!
DEFINITION. The bay frames once a block has them: PANEL, FEEDBACK, PRESENCE and RING_CHECK_RETURN. What the Line Relay
does with a frame before it hands it on is in BAY_FRAME_RECEIVED (Receivers.lean; log 6).
-/

namespace Sys2Proof.Machine

/-- PANEL (R60, R84): a PANEL frame handed to the Press Arbiter. -/
def execPanel (node : NodeId) (downSet : BitVec 16) (hello : Bool) (s : State) : Outcome :=
  act (takePanel node downSet hello) s

/-- FEEDBACK (R95): a FEEDBACK frame handed to the Supervisor. -/
def execFeedback (node : NodeId) (entries : List AxisEntry) (s : State) : Outcome := act (takeFeedback node entries) s

/-- PRESENCE (R89): a PRESENCE frame handed to the Supervisor. -/
def execPresence (node : NodeId) (occupiedSet : BitVec 8) (s : State) : Outcome := act (takePresence node occupiedSet) s

/-- RING_CHECK_RETURN (R168). -/
def execRingCheckReturn (s : State) : Outcome := act ringReturn s

end Sys2Proof.Machine
end

