-- ==== Sys2Proof/Machine/Control.lean ====
section
/-!
DEFINITION. The CONTROL commands and ALERT_ACK (spec/11 sections 11.5 and 11.6, spec/08 section 8.6). The operands are
the argument bytes after the sub-command byte.
-/

namespace Sys2Proof.Machine

/-- A ENABLE sub-command (R19). -/
def enable (c : Sender) (args : List Byte) (s : State) : State := modelCommand cEnable c args enableModel s

/-- ENABLE (R19). -/
def execEnable (c : Sender) (args : List Byte) (s : State) : Outcome := act (enable c args) s

/-- A DISABLE sub-command (R21). -/
def disable (c : Sender) (args : List Byte) (s : State) : State := modelCommand cDisable c args disableModel s

/-- DISABLE (R21). -/
def execDisable (c : Sender) (args : List Byte) (s : State) : Outcome := act (disable c args) s

/-- A COMMIT sub-command (R23). -/
def commit (c : Sender) (args : List Byte) (s : State) : State := modelCommand cCommit c args commitModel s

/-- COMMIT (R23). -/
def execCommit (c : Sender) (args : List Byte) (s : State) : Outcome := act (commit c args) s

/-- A CUE_START sub-command (R51). -/
def cueStart (c : Sender) (args : List Byte) (s : State) : State := control cCueStart c (startNow args) s

/-- CUE_START (R51). -/
def execCueStart (c : Sender) (args : List Byte) (s : State) : Outcome := act (cueStart c args) s

/-- A CUE_START_SCHEDULED sub-command (R53). -/
def cueStartScheduled (c : Sender) (args : List Byte) (s : State) : State := control cCueStart c (startLater args) s

/-- CUE_START_SCHEDULED (R53). -/
def execCueStartScheduled (c : Sender) (args : List Byte) (s : State) : Outcome := act (cueStartScheduled c args) s

/-- A CUE_STOP sub-command (R58). -/
def cueStop (c : Sender) (args : List Byte) (s : State) : State := modelCommand cCueStop c args stopCue s

/-- CUE_STOP (R58). -/
def execCueStop (c : Sender) (args : List Byte) (s : State) : Outcome := act (cueStop c args) s

/-- A MODE sub-command (R149). -/
def modeChange (c : Sender) (args : List Byte) (s : State) : State := control cMode c (modeArgs args) s

/-- MODE (R149). -/
def execMode (c : Sender) (args : List Byte) (s : State) : Outcome := act (modeChange c args) s

/-- A SHOW_SYNC sub-command (R50). -/
def showSync (c : Sender) (args : List Byte) (s : State) : State := control cShowSync c (syncArgs args) s

/-- SHOW_SYNC (R50). -/
def execShowSync (c : Sender) (args : List Byte) (s : State) : Outcome := act (showSync c args) s

/-- A CLEAR_FAULT sub-command (R122). -/
def clearFault (c : Sender) (args : List Byte) (s : State) : State := control cClearFault c (clearArgs args) s

/-- CLEAR_FAULT (R122). -/
def execClearFault (c : Sender) (args : List Byte) (s : State) : Outcome := act (clearFault c args) s

/-- A RESUME sub-command (R16). -/
def resume (c : Sender) (args : List Byte) (s : State) : State := control cResume c (resumeArgs args) s

/-- RESUME (R16). -/
def execResume (c : Sender) (args : List Byte) (s : State) : Outcome := act (resume c args) s

/-- A STATUS_QUERY without the clear option (R183). -/
def statusQuery (c : Sender) (args : List Byte) (s : State) : State :=
  answered c (fun s => (s, s.statusAnswer args)) s

/-- STATUS_QUERY (R183). -/
def execStatusQuery (c : Sender) (args : List Byte) (s : State) : Outcome := act (statusQuery c args) s

/-- A STATUS_QUERY with the clear option: the report is built from the values before the clear (R77, R173, R183). -/
def statusQueryClear (c : Sender) (args : List Byte) (s : State) : State :=
  answered c (fun s => (if args.length = 1 then clearCounts s else s, s.statusAnswer args)) s

/-- STATUS_QUERY_CLEAR (R77). -/
def execStatusQueryClear (c : Sender) (args : List Byte) (s : State) : Outcome := act (statusQueryClear c args) s

/-- A RESTART (R172, R184). With an argument byte it is refused BAD_FIELD (R181). -/
def restart (c : Sender) (args : List Byte) (s : State) : State :=
  if c.all then (if args = [] then restartAll s else s) else restartOwn c args s

/-- RESTART (R184). -/
def execRestart (c : Sender) (args : List Byte) (s : State) : Outcome := act (restart c args) s

/-- An ALERT_ACK (R139, R140). -/
def alertAck (c : Sender) (payload : List Byte) (s : State) : State :=
  answered c (fun s =>
    let (t, v) := ackArgs payload s
    (t, replyAnswer kAlertAck 0 v)) s

/-- ALERT_ACK (R139). -/
def execAlertAck (c : Sender) (payload : List Byte) (s : State) : Outcome := act (alertAck c payload) s

/-- R181 test 1: a CONTROL frame with no sub-command, or an unlisted one. Any other payload is no such command and
changes nothing. -/
def badCommand (c : Sender) (payload : List Byte) (s : State) : State :=
  if payload.head?.any listedSubCommand then s
  else control (byteAt payload 0) c (fun s => (s, (.badCommand, 0))) s

/-- BAD_COMMAND (R181). -/
def execBadCommand (c : Sender) (payload : List Byte) (s : State) : Outcome := act (badCommand c payload) s

end Sys2Proof.Machine
end

