-- ==== Sys2Proof/Machine/Expiries.lean ====
section
/-!
DEFINITION. The part's own timers reaching their end, and the model-free notice. Each command says that the time has
come; it acts while its timer runs and changes nothing while the timer is stopped (log 3).
-/

namespace Sys2Proof.Machine

/-! ### Motion -/

/-- SAMPLE_TIMER_EXPIRY (R31, R46). -/
def execSampleTimerExpiry (s : State) : Outcome := act sampleExpiry s

/-- MODEL_FREE_NOTICE (R73): a notice the Press Arbiter has not yet taken. -/
def execModelFreeNotice (m : ModelId) (s : State) : Outcome := actOutOfReset (takeFreeNotice m) s

/-- SCHEDULE_ENTRY_DUE (R54, R55). -/
def execScheduleEntryDue (s : State) : Outcome := act nextDue s

/-- LATE_COUNTDOWN_EXPIRY (R57). -/
def execLateCountdownExpiry (m : ModelId) (s : State) : Outcome := act (lateExpires m) s

/-- PAUSE_WINDOW_EXPIRY (R13). -/
def execPauseWindowExpiry (m : ModelId) (s : State) : Outcome := act (pauseWindowEnds m) s

/-- R94: the hold-limit timer expires: HOLD_LIMIT is raised and a cut is sent. -/
def holdLimitEnds (m : ModelId) (s : State) : State :=
  if (s.watch m).holdTimer.isSome then
    cutModel m (raise (.holdLimit m) (s.modWatch m fun w => { w with holdTimer := none }))
  else s

/-- HOLD_LIMIT_EXPIRY (R94). -/
def execHoldLimitExpiry (m : ModelId) (s : State) : Outcome := act (holdLimitEnds m) s

/-! ### Presses and lamps -/

/-- STUCK_TIMER_EXPIRY (R71). -/
def execStuckTimerExpiry (k : Key) (s : State) : Outcome := act (stuckExpires k) s

/-- LOCKOUT_END (R69). -/
def execLockoutEnd (k : Key) (s : State) : Outcome := act (lockoutEnds k) s

/-- REQUEST_EXPIRY (R74). -/
def execRequestExpiry (m : ModelId) (k : Key) (s : State) : Outcome := act (requestExpires m k) s

/-- R85: a panel's refresh timer expires; it stays stopped until the next LAMP frame is built. -/
def refreshEnds (n : NodeId) (s : State) : State :=
  if (tget s.press.refresh n).isSome then
    markDirty n (s.onPress fun q => { q with refresh := tput q.refresh n none })
  else s

/-- REFRESH_TIMER_EXPIRY (R85). -/
def execRefreshTimerExpiry (n : NodeId) (s : State) : Outcome := act (refreshEnds n) s

/-! ### Supervision -/

/-- NODE_SILENCE_EXPIRY (R117). -/
def execNodeSilenceExpiry (n : NodeId) (s : State) : Outcome := act (nodeSilenceEnds n) s

/-- DRIVE_SILENCE_EXPIRY (R103). -/
def execDriveSilenceExpiry (m : ModelId) (s : State) : Outcome := act (driveSilenceEnds m) s

/-- ZONE_SETTLE_EXPIRY (R91). -/
def execZoneSettleExpiry (z : ZoneId) (s : State) : Outcome := act (settleEnds z) s

/-- SPINE_SILENCE_EXPIRY (R118). -/
def execSpineSilenceExpiry (s : State) : Outcome := act spineSilenceEnds s

/-- RING_CHECK_TIMER_EXPIRY (R168). -/
def execRingCheckTimerExpiry (s : State) : Outcome := act ringTimerEnds s

/-- RING_CHECK_MISS (R119, R168). -/
def execRingCheckMiss (s : State) : Outcome := act ringMiss s

/-- BAY_CHECK_WINDOW_END (R120). -/
def execBayCheckWindowEnd (s : State) : Outcome := act windowEnds s

/-! ### Alerts -/

/-- ESCALATION_DEADLINE_EXPIRY (R138), of the record with this alert number. -/
def execEscalationDeadlineExpiry (number : Byte) (s : State) : Outcome := act (escalate number.toNat) s

/-- BEACON_PHASE_END (R146). -/
def execBeaconPhaseEnd (s : State) : Outcome := act (fun s => s.onAlert phaseEnd) s

/-! ### Modes -/

/-- DOZE_TIMER_EXPIRY (R155). -/
def execDozeTimerExpiry (s : State) : Outcome := act dozeEnds s

/-- WAKE_LIMIT_EXPIRY (R158). -/
def execWakeLimitExpiry (s : State) : Outcome := act wakeLimitEnds s

end Sys2Proof.Machine
end

