-- ==== Sys2Proof/Machine/Keys.lean ====
section
/-!
DEFINITION. The STOP key and the ACK key (R106 to R109).
-/

namespace Sys2Proof.Machine

/-- STOP_KEY_ASSERTED (R107). -/
def execStopKeyAsserted (s : State) : Outcome := actOutOfReset stopAsserts s

/-- STOP_KEY_RELEASED (R106). -/
def execStopKeyReleased (s : State) : Outcome := act stopReleases s

/-- R108: the ACK contact has been closed for 20 ms. -/
def ackPressed (s : State) : State :=
  let s := s.onPins fun p => { p with ackClosed := true }
  match s.sup.ack with
  | .armed => s.onSup fun q => { q with ack := .timing, ackTimer := some Config.ackPressMs }
  | .timing | .long | .blocked => s

/-- ACK_KEY_PRESSED (R108). -/
def execAckKeyPressed (s : State) : Outcome := act ackPressed s

/-- R108, R109: the ACK contact has been open for 20 ms; from TIMING a short press is taken. -/
def ackLetGo (s : State) : State :=
  let s := s.onPins fun p => { p with ackClosed := false }
  let t := s.onSup fun q => { q with ack := .armed, ackTimer := none }
  match s.sup.ack with
  | .timing => ackFromFloor t
  | .armed | .long | .blocked => t

/-- ACK_KEY_LET_GO (R108). -/
def execAckKeyLetGo (s : State) : Outcome := act ackLetGo s

/-- R108, R109, R16: 3 s are reached in TIMING; a long press resumes the bay, and with the STOP key asserted it is
ignored. -/
def ackHeld (s : State) : State :=
  if s.sup.ack = .timing ∧ s.sup.ackTimer.isSome = true then
    let s := s.onSup fun q => { q with ack := .long, ackTimer := none }
    if s.sup.stopAsserted then s else resumeAll s
  else s

/-- ACK_PRESS_TIMER_EXPIRY (R108). -/
def execAckPressTimerExpiry (s : State) : Outcome := act ackHeld s

end Sys2Proof.Machine
end

