-- ==== Sys2Proof/Machine/Tables.lean ====
section
/-!
DEFINITION. The table commands: the eight writes, the refused write and the read (spec/11 sections 11.1 to 11.4). Each
`…Write` operation is what a TABLE_WRITE frame to the own bay or to bay 31 does; the record is what follows the index.
-/

namespace Sys2Proof.Machine

/-- R174 test 3: an index outside its table. -/
def badIndex : Verdict16 := (.badIndex, 0)

/-- A TABLE_WRITE to the NODE table (R163). -/
def nodeWrite (c : Sender) (index : Byte) (record : List Byte) (s : State) : State :=
  tableWrite 1 c index record (fun s =>
    match nodeOfAddress index.toNat with
    | some i => writeNode i record s
    | none => (s, badIndex)) s

/-- NODE_WRITE (R163). -/
def execNodeWrite (c : Sender) (index : Byte) (record : List Byte) (s : State) : Outcome :=
  act (nodeWrite c index record) s

/-- A TABLE_WRITE to the BUTTON table (R62). -/
def buttonWrite (c : Sender) (index : Byte) (record : List Byte) (s : State) : State :=
  tableWrite 2 c index record (fun s =>
    match indexBelow 128 index.toNat with
    | some i => writeButton i record s
    | none => (s, badIndex)) s

/-- BUTTON_WRITE (R62). -/
def execButtonWrite (c : Sender) (index : Byte) (record : List Byte) (s : State) : Outcome :=
  act (buttonWrite c index record) s

/-- A TABLE_WRITE to the CUE table (R27). -/
def cueWrite (c : Sender) (index : Byte) (record : List Byte) (s : State) : State :=
  tableWrite 3 c index record (fun s =>
    match indexBelow 32 index.toNat with
    | some i => writeCue i record s
    | none => (s, badIndex)) s

/-- CUE_WRITE (R27). -/
def execCueWrite (c : Sender) (index : Byte) (record : List Byte) (s : State) : Outcome :=
  act (cueWrite c index record) s

/-- A TABLE_WRITE to the PROFILE table (R25). -/
def profileWrite (c : Sender) (index : Byte) (record : List Byte) (s : State) : State :=
  tableWrite 4 c index record (fun s =>
    match indexBelow 64 index.toNat with
    | some i => writeProfile i record s
    | none => (s, badIndex)) s

/-- PROFILE_WRITE (R25). -/
def execProfileWrite (c : Sender) (index : Byte) (record : List Byte) (s : State) : Outcome :=
  act (profileWrite c index record) s

/-- A TABLE_WRITE to the MODEL table (R1, R22). -/
def modelWrite (c : Sender) (index : Byte) (record : List Byte) (s : State) : State :=
  tableWrite 5 c index record (fun s =>
    match indexBelow 12 index.toNat with
    | some i => writeModel i record s
    | none => (s, badIndex)) s

/-- MODEL_WRITE (R1, R22). -/
def execModelWrite (c : Sender) (index : Byte) (record : List Byte) (s : State) : Outcome :=
  act (modelWrite c index record) s

/-- A TABLE_WRITE to the ROUTE table (R127). -/
def routeWrite (c : Sender) (index : Byte) (record : List Byte) (s : State) : State :=
  tableWrite 6 c index record (fun s =>
    match indexBelow 15 index.toNat with
    | some i => writeRoute i record s
    | none => (s, badIndex)) s

/-- ROUTE_WRITE (R127). -/
def execRouteWrite (c : Sender) (index : Byte) (record : List Byte) (s : State) : Outcome :=
  act (routeWrite c index record) s

/-- A TABLE_WRITE to the PATTERN table (R144). -/
def patternWrite (c : Sender) (index : Byte) (record : List Byte) (s : State) : State :=
  tableWrite 7 c index record (fun s =>
    match indexBelow 3 index.toNat with
    | some i => writePattern i record s
    | none => (s, badIndex)) s

/-- PATTERN_WRITE (R144). -/
def execPatternWrite (c : Sender) (index : Byte) (record : List Byte) (s : State) : Outcome :=
  act (patternWrite c index record) s

/-- A TABLE_WRITE to the SETTINGS record (R180). -/
def settingsWrite (c : Sender) (index : Byte) (record : List Byte) (s : State) : State :=
  tableWrite 8 c index record (writeSettings record) s

/-- SETTINGS_WRITE (R180). -/
def execSettingsWrite (c : Sender) (index : Byte) (record : List Byte) (s : State) : Outcome :=
  act (settingsWrite c index record) s

/-- A TABLE_WRITE that a test of R174 refuses. A payload that passes them is no such command and changes nothing. -/
def badTable (c : Sender) (payload : List Byte) (s : State) : State :=
  match tableAddressFault false payload with
  | some v => answered c (fun s => (s, replyAnswer kTableWrite (byteAt payload 0) v)) s
  | none => s

/-- BAD_TABLE (R174). -/
def execBadTable (c : Sender) (payload : List Byte) (s : State) : Outcome := act (badTable c payload) s

/-- A TABLE_READ (R174, R179). -/
def tableRead (c : Sender) (payload : List Byte) (s : State) : State :=
  answered c (fun s => (s, s.readAnswer payload)) s

/-- TABLE_READ (R179). -/
def execTableRead (c : Sender) (payload : List Byte) (s : State) : Outcome := act (tableRead c payload) s

end Sys2Proof.Machine
end

