-- ==== Sys2Proof/WellFormed.lean ====
section
/-!
DEFINITION. When a command's operands are of its row.

`exec` gives every command an outcome; this predicate says which operands belong to the row: a frame that can be on a
line (at most 64 payload bytes), a FEEDBACK of the form R165 asks for, a CUE_START with or without a start time, a
TABLE_WRITE that R174 refuses, a CONTROL frame that R181 test 1 refuses.
-/

namespace Sys2Proof

/-- A payload fits a frame (Table 10-1: Length 0-64). -/
def fitsFrame (payload : List Byte) : Bool := payload.length ≤ 64

/-- The axis entries of one FEEDBACK frame (R165): one entry, or axis 0 and then axis 1. -/
def feedbackForm (entries : List AxisEntry) : Bool :=
  match entries with
  | [_] => true
  | [a, b] => a.axis == 0 && b.axis == 1
  | _ => false

/-- The clear option is bit 0 of the options byte (Table 10-5). -/
def clearOption (options : Byte) : Bool := options.getLsbD 0

/-- The operands of a command are of its row. -/
def Instr.wellFormed : Instr → Bool
  | .bayFrameReceived f => fitsFrame f.payload
  | .spineFrameReceived f => fitsFrame f.payload
  | .feedback _ entries => feedbackForm entries
  | .nodeWrite _ _ rec => rec.length ≤ 62
  | .buttonWrite _ _ rec => rec.length ≤ 62
  | .cueWrite _ _ rec => rec.length ≤ 62
  | .profileWrite _ _ rec => rec.length ≤ 62
  | .modelWrite _ _ rec => rec.length ≤ 62
  | .routeWrite _ _ rec => rec.length ≤ 62
  | .patternWrite _ _ rec => rec.length ≤ 62
  | .settingsWrite _ _ rec => rec.length ≤ 62
  | .badTable _ payload => fitsFrame payload && (Machine.tableAddressFault false payload).isSome
  | .tableRead _ payload => fitsFrame payload
  | .enable _ args => args.length ≤ 63
  | .disable _ args => args.length ≤ 63
  | .commit _ args => args.length ≤ 63
  | .cueStart _ args => args.length ≤ 63 && args.length != 7
  | .cueStartScheduled _ args => args.length == 7
  | .cueStop _ args => args.length ≤ 63
  | .mode _ args => args.length ≤ 63
  | .showSync _ args => args.length ≤ 63
  | .clearFault _ args => args.length ≤ 63
  | .resume _ args => args.length ≤ 63
  | .statusQuery _ args => args.length ≤ 63 && !(args.length == 1 && clearOption (args.getD 0 0))
  | .statusQueryClear _ args => args.length == 1 && clearOption (args.getD 0 0)
  | .restart _ args => args.length ≤ 63
  | .alertAck _ payload => fitsFrame payload
  | .badCommand _ payload =>
      fitsFrame payload && (match payload with | [] => true | c :: _ => !Machine.listedSubCommand c)
  | .hardReset _ _ _ _ | .softReset _ _ | .stopKeyAsserted | .stopKeyReleased | .ackKeyPressed | .ackKeyLetGo
  | .ackPressTimerExpiry | .receiverGapTimeout _ | .framingError _ | .receiverIdleTimeout _ | .panel _ _ _
  | .presence _ _ | .ringCheckReturn | .bayOutFrameSent | .spineOutFrameSent | .sampleTimerExpiry
  | .modelFreeNotice _ | .scheduleEntryDue | .lateCountdownExpiry _ | .pauseWindowExpiry _ | .holdLimitExpiry _
  | .stuckTimerExpiry _ | .lockoutEnd _ | .requestExpiry _ _ | .refreshTimerExpiry _ | .nodeSilenceExpiry _
  | .driveSilenceExpiry _ | .zoneSettleExpiry _ | .spineSilenceExpiry | .ringCheckTimerExpiry | .ringCheckMiss
  | .bayCheckWindowEnd | .escalationDeadlineExpiry _ | .beaconPhaseEnd | .dozeTimerExpiry | .wakeLimitExpiry
  | .resetNLow | .clkStop | .clkResume => true

end Sys2Proof
end

