-- ==== Sys2Proof/Machine/Receivers.lean ====
section
/-!
DEFINITION. The two receivers (R161) and the classification of the frames they take at BAY_IN (R164, R165) and at
SPINE_IN (R166). A frame is taken whole: the receiver goes from WAITING through RECEIVING back to WAITING in one command
(log 5).
-/

namespace Sys2Proof.Machine

/-! ### Receiver states (R161) -/

/-- The state of a port's receiver. -/
def State.receiver (s : State) (p : Port) : Receiver :=
  match p with
  | .bay => s.relay.rxBay
  | .spine => s.relay.rxSpine

/-- The part with one receiver in another state. -/
def setReceiver (p : Port) (r : Receiver) (s : State) : State :=
  match p with
  | .bay => s.onRelay fun q => { q with rxBay := r }
  | .spine => s.onRelay fun q => { q with rxSpine := r }

/-- R161, R120: a framing error is counted; at BAY_IN it also counts in the bay-check window. -/
def countFraming (p : Port) (s : State) : State :=
  match p with
  | .bay => bayError (s.onBayCounters fun c => { c with framingErrors := count c.framingErrors })
  | .spine => s.onSpineCounters fun c => { c with framingErrors := count c.framingErrors }

/-- R161, R120: a complete frame with a bad check is counted; at BAY_IN it also counts in the bay-check window. -/
def countCheckError (p : Port) (s : State) : State :=
  match p with
  | .bay => bayError (s.onBayCounters fun c => { c with checkErrors := count c.checkErrors })
  | .spine => s.onSpineCounters fun c => { c with checkErrors := count c.checkErrors }

/-- R161: a good frame is counted on its port. -/
def countGood (p : Port) (s : State) : State :=
  match p with
  | .bay => s.onBayCounters fun c => { c with good := count c.good }
  | .spine => s.onSpineCounters fun c => { c with good := count c.good }

/-- R161: a frame is abandoned by a framing error, and the receiver goes to `next`. A discarding receiver collects no
frame. -/
def abandon (p : Port) (next : Receiver) (s : State) : State :=
  if s.receiver p = .discarding then s else countFraming p (setReceiver p next s)

/-- RECEIVER_GAP_TIMEOUT (R161). -/
def execReceiverGapTimeout (p : Port) (s : State) : Outcome := act (abandon p .waiting) s

/-- FRAMING_ERROR (R161). -/
def execFramingError (p : Port) (s : State) : Outcome := act (abandon p .discarding) s

/-- R161: the line has been idle for 3 byte times. -/
def lineIdle (p : Port) (s : State) : State :=
  if s.receiver p = .discarding then setReceiver p .waiting s else s

/-- RECEIVER_IDLE_TIMEOUT (R161). -/
def execReceiverIdleTimeout (p : Port) (s : State) : Outcome := act (lineIdle p) s

/-- R161: a frame arrives at a port. A frame whose byte 5 is above 64 is abandoned, a bad check is counted, and a frame
with a good check is counted and goes on to `classify`. -/
def receive (p : Port) (classify : Frame → State → State) (f : Frame) (s : State) : State :=
  if s.receiver p = .discarding then s
  else if 64 < f.payload.length then abandon p .discarding s
  else
    let s := setReceiver p .waiting s
    if checkGood f then classify f (countGood p s) else countCheckError p s

/-! ### Frames at BAY_IN (R164, R165) -/

/-- R173: a frame from BAY_IN is discarded as misrouted. -/
def misroutedBay (s : State) : State := s.onBayCounters fun c => { c with misrouted := count c.misrouted }

/-- R164: a frame forwarded up, with source bay set to the own bay. -/
def upward (f : Frame) (s : State) : Frame := withCheck { f with srcBay := s.relay.ownBay }

/-- R164 line 5: the copy of a MIRROR node's frame, addressed to the control room. -/
def mirrorCopy (f : Frame) (s : State) : Frame :=
  withCheck { f with srcBay := s.relay.ownBay, dstBay := 0, dstNode := 0 }

/-- R163: the HELLO-seen mark is set by a frame handed on with the HELLO flag. -/
def markHello (n : NodeId) (flags : Byte) (s : State) : State :=
  if flags.getLsbD 0 then s.modNode n fun e => { e with helloSeen := true } else s

/-- R164 line 5: a copy of a frame handed on goes up where the node's policy is MIRROR. -/
def mirrorUp (n : NodeId) (f : Frame) (s : State) : State :=
  if (s.node n).policy = .mirror then forwardUp (mirrorCopy f s) s else s

/-- R164 line 5, R165: a frame for the controller is handed to its block if its kind is that of the node's role and its
payload has the form of its kind; otherwise it is misrouted. -/
def handOn (n : NodeId) (f : Frame) (s : State) : State :=
  match (s.node n).role with
  | .panel =>
    if f.kind = kPanel ∧ f.payload.length = 3 then
      takePanel n (halfAt f.payload 0) ((byteAt f.payload 2).getLsbD 0)
        (mirrorUp n f (markHello n (byteAt f.payload 2) s))
    else misroutedBay s
  | .drive =>
    if f.kind = kFeedback then
      match feedbackEntries f.payload with
      | some entries => takeFeedback n entries (mirrorUp n f (markHello n (byteAt f.payload 0) s))
      | none => misroutedBay s
    else misroutedBay s
  | .sensor =>
    if f.kind = kPresence ∧ f.payload.length = 2 then
      takePresence n (byteAt f.payload 0) (mirrorUp n f (markHello n (byteAt f.payload 1) s))
    else misroutedBay s
  | .empty | .guest => misroutedBay s

/-- R164 lines 4 and 6 to 8, where line 5 does what `controller` does. -/
def routeBay (controller : State → State) (f : Frame) (s : State) : State :=
  if !listedKind f.kind then misroutedBay s
  else if f.dstBay = 32 ∧ f.dstNode = 0 then controller s
  else if (f.dstBay = s.relay.ownBay ∨ f.dstBay = 32) ∧ 1 ≤ f.dstNode.toNat ∧ f.dstNode.toNat ≤ 63 then forwardDown f s
  else if f.dstBay = 0 then forwardUp (upward f s) s
  else misroutedBay s

/-- R164 lines 2 to 8: a frame from a node 1-62. -/
def classifyNode (n : NodeId) (f : Frame) (s : State) : State :=
  if (s.node n).role = .empty then s.onBayCounters fun c => { c with stranger := count c.stranger }
  else
    let s := nodeHeard n s
    if (s.node n).policy = .pass then forwardUp (upward f s) s else routeBay (handOn n f) f s

/-- R164 line 1: the part's own frame returns. -/
def ownReturn (f : Frame) (s : State) : State :=
  if f.kind = kRingCheck then ringReturn s
  else s.onBayCounters fun c => { c with undelivered := count c.undelivered }

/-- R164: the first line that matches. DEDUCED (log 27): a source node above 63 matches none of lines 1 to 3, and a
frame from it is handed to no block. -/
def classifyBay (f : Frame) (s : State) : State :=
  if f.srcNode = 0 then ownReturn f s
  else if f.srcNode = 63 then s.onBayCounters fun c => { c with stranger := count c.stranger }
  else match nodeOfAddress f.srcNode.toNat with
    | some n => classifyNode n f s
    | none => routeBay misroutedBay f s

/-- BAY_FRAME_RECEIVED (R161, R164). -/
def execBayFrameReceived (f : Frame) (s : State) : Outcome := act (receive .bay classifyBay f) s

/-! ### Frames at SPINE_IN (R166) -/

/-- R173: a frame from SPINE_IN is discarded as misrouted. -/
def misroutedSpine (s : State) : State := s.onSpineCounters fun c => { c with misrouted := count c.misrouted }

/-- R174: a TABLE_WRITE frame goes to the table its id names, or is refused. -/
def dispatchWrite (c : Sender) (payload : List Byte) (s : State) : State :=
  match tableAddressFault false payload, payload with
  | none, id :: index :: record =>
    match id.toNat with
    | 1 => nodeWrite c index record s
    | 2 => buttonWrite c index record s
    | 3 => cueWrite c index record s
    | 4 => profileWrite c index record s
    | 5 => modelWrite c index record s
    | 6 => routeWrite c index record s
    | 7 => patternWrite c index record s
    | _ => settingsWrite c index record s
  | _, _ => badTable c payload s

/-- R181: a CONTROL frame goes to the sub-command its first byte names. The length of CUE_START says whether a start
time is present, and bit 0 of STATUS_QUERY's options asks for the clear. -/
def dispatchControl (c : Sender) (payload : List Byte) (s : State) : State :=
  match payload with
  | [] => badCommand c [] s
  | code :: args =>
    match code.toNat with
    | 1 => enable c args s
    | 2 => disable c args s
    | 3 => commit c args s
    | 4 => if args.length = 7 then cueStartScheduled c args s else cueStart c args s
    | 5 => cueStop c args s
    | 6 => modeChange c args s
    | 7 => showSync c args s
    | 8 => clearFault c args s
    | 9 => resume c args s
    | 10 => if args.length == 1 && clearOption (byteAt args 0) then statusQueryClear c args s else statusQuery c args s
    | 11 => restart c args s
    | _ => badCommand c (code :: args) s

/-- R166 line 2: a frame for the controller is taken as a command by its kind. -/
def dispatchCommand (f : Frame) (s : State) : State :=
  let c : Sender := { all := f.dstBay == 31, srcBay := f.srcBay, srcNode := f.srcNode }
  if f.kind = kTableWrite then dispatchWrite c f.payload s
  else if f.kind = kTableRead then tableRead c f.payload s
  else if f.kind = kControl then dispatchControl c f.payload s
  else if f.kind = kAlertAck then alertAck c f.payload s
  else misroutedSpine s

/-- R166: a frame forwarded down from the spine, with destination bay set to 32. -/
def downward (f : Frame) : Frame := withCheck { f with dstBay := 32 }

/-- R166, R118: the spine-silence timer restarts, and the first line that matches decides. -/
def classifySpine (f : Frame) (s : State) : State :=
  let s := spineHeard s
  if !listedKind f.kind then misroutedSpine s
  else if f.dstBay = s.relay.ownBay ∨ f.dstBay = 31 then
    if f.dstNode = 0 then dispatchCommand f s
    else if f.dstNode.toNat ≤ 63 then forwardDown (downward f) s
    else misroutedSpine s
  else misroutedSpine s

/-- SPINE_FRAME_RECEIVED (R161, R166). -/
def execSpineFrameReceived (f : Frame) (s : State) : Outcome := act (receive .spine classifySpine f) s

end Sys2Proof.Machine
end

