-- ==== Sys2Proof/Machine/Resets.lean ====
section
/-!
DEFINITION. The resets and the pins RESET_N and CLK: HARD_RESET, SOFT_RESET, RESET_N_LOW, CLK_STOP, CLK_RESUME (R160,
R172, R184, R185).
-/

namespace Sys2Proof.Machine

/-- R185: RESET_N goes high, or power-up completes, with these levels on the straps and the keys. While CLK is stopped
the edge waits and the part stays held. -/
def hardReset (bayStraps : BitVec 5) (rateStraps : BitVec 2) (stopOpen ackClosed : Bool) (s : State) : State :=
  let s := s.onPins fun p => { p with bayStraps, rateStraps, stopOpen, ackClosed, resetNHigh := true }
  if s.pins.clkRunning then hardResetEnds (s.onPins fun p => { p with resetEdge := false })
  else hardResetHolds (s.onPins fun p => { p with resetEdge := true })

/-- HARD_RESET (R185). -/
def execHardReset (bayStraps : BitVec 5) (rateStraps : BitVec 2) (stopOpen ackClosed : Bool) (s : State) : Outcome :=
  actAlways (hardReset bayStraps rateStraps stopOpen ackClosed) s

/-- SOFT_RESET (R172, R184), with the levels of the two contacts at that moment (log 13). -/
def execSoftReset (stopOpen ackClosed : Bool) (s : State) : Outcome :=
  act (fun s => softReset (s.onPins fun p => { p with stopOpen, ackClosed })) s

/-- RESET_N_LOW (R185): the part is held in hard reset. -/
def execResetNLow (s : State) : Outcome :=
  actAlways (fun s => hardResetHolds (s.onPins fun p => { p with resetNHigh := false, resetEdge := false })) s

/-- CLK_STOP (R185). -/
def execClkStop (s : State) : Outcome := actAlways (fun s => s.onPins fun p => { p with clkRunning := false }) s

/-- CLK_RESUME (R185): a rising edge of RESET_N that waited completes now. -/
def clkResumes (s : State) : State :=
  let s := s.onPins fun p => { p with clkRunning := true }
  if s.pins.resetEdge then hardResetEnds (s.onPins fun p => { p with resetEdge := false }) else s

/-- CLK_RESUME (R185). -/
def execClkResume (s : State) : Outcome := actAlways clkResumes s

end Sys2Proof.Machine
end

