-- ==== Sys2Proof/Machine/Transmit.lean ====
section
/-!
DEFINITION. A frame has left a transmitter: BAY_OUT_FRAME_SENT and SPINE_OUT_FRAME_SENT (R169, R170). The next frame is
taken when the command settles.
-/

namespace Sys2Proof.Machine

/-- BAY_OUT_FRAME_SENT (R168, R169). -/
def execBayOutFrameSent (s : State) : Outcome := act bayLeft s

/-- SPINE_OUT_FRAME_SENT (R135, R170, R172). -/
def execSpineOutFrameSent (s : State) : Outcome := act spineLeft s

end Sys2Proof.Machine
end

