-- ==== Sys2Proof/Machine/Dispatch.lean ====
section
/-!
DEFINITION. The dispatch: one arm for each command, one call of its meaning.
-/

namespace Sys2Proof.Machine

def exec (i : Instr) (s : State) : Host.Outcome State Fault Refusal :=
  match i with
  | .hardReset bayStraps rateStraps stopOpen ackClosed => Sys2Proof.Machine.execHardReset bayStraps rateStraps stopOpen ackClosed s
  | .softReset stopOpen ackClosed => Sys2Proof.Machine.execSoftReset stopOpen ackClosed s
  | .stopKeyAsserted => Sys2Proof.Machine.execStopKeyAsserted s
  | .stopKeyReleased => Sys2Proof.Machine.execStopKeyReleased s
  | .ackKeyPressed => Sys2Proof.Machine.execAckKeyPressed s
  | .ackKeyLetGo => Sys2Proof.Machine.execAckKeyLetGo s
  | .ackPressTimerExpiry => Sys2Proof.Machine.execAckPressTimerExpiry s
  | .receiverGapTimeout port => Sys2Proof.Machine.execReceiverGapTimeout port s
  | .framingError port => Sys2Proof.Machine.execFramingError port s
  | .receiverIdleTimeout port => Sys2Proof.Machine.execReceiverIdleTimeout port s
  | .bayFrameReceived frame => Sys2Proof.Machine.execBayFrameReceived frame s
  | .panel node downSet hello => Sys2Proof.Machine.execPanel node downSet hello s
  | .feedback node entries => Sys2Proof.Machine.execFeedback node entries s
  | .presence node occupiedSet => Sys2Proof.Machine.execPresence node occupiedSet s
  | .ringCheckReturn => Sys2Proof.Machine.execRingCheckReturn s
  | .spineFrameReceived frame => Sys2Proof.Machine.execSpineFrameReceived frame s
  | .nodeWrite sender index record => Sys2Proof.Machine.execNodeWrite sender index record s
  | .buttonWrite sender index record => Sys2Proof.Machine.execButtonWrite sender index record s
  | .cueWrite sender index record => Sys2Proof.Machine.execCueWrite sender index record s
  | .profileWrite sender index record => Sys2Proof.Machine.execProfileWrite sender index record s
  | .modelWrite sender index record => Sys2Proof.Machine.execModelWrite sender index record s
  | .routeWrite sender index record => Sys2Proof.Machine.execRouteWrite sender index record s
  | .patternWrite sender index record => Sys2Proof.Machine.execPatternWrite sender index record s
  | .settingsWrite sender index record => Sys2Proof.Machine.execSettingsWrite sender index record s
  | .badTable sender payload => Sys2Proof.Machine.execBadTable sender payload s
  | .tableRead sender payload => Sys2Proof.Machine.execTableRead sender payload s
  | .enable sender args => Sys2Proof.Machine.execEnable sender args s
  | .disable sender args => Sys2Proof.Machine.execDisable sender args s
  | .commit sender args => Sys2Proof.Machine.execCommit sender args s
  | .cueStart sender args => Sys2Proof.Machine.execCueStart sender args s
  | .cueStartScheduled sender args => Sys2Proof.Machine.execCueStartScheduled sender args s
  | .cueStop sender args => Sys2Proof.Machine.execCueStop sender args s
  | .mode sender args => Sys2Proof.Machine.execMode sender args s
  | .showSync sender args => Sys2Proof.Machine.execShowSync sender args s
  | .clearFault sender args => Sys2Proof.Machine.execClearFault sender args s
  | .resume sender args => Sys2Proof.Machine.execResume sender args s
  | .statusQuery sender args => Sys2Proof.Machine.execStatusQuery sender args s
  | .statusQueryClear sender args => Sys2Proof.Machine.execStatusQueryClear sender args s
  | .restart sender args => Sys2Proof.Machine.execRestart sender args s
  | .alertAck sender payload => Sys2Proof.Machine.execAlertAck sender payload s
  | .bayOutFrameSent => Sys2Proof.Machine.execBayOutFrameSent s
  | .spineOutFrameSent => Sys2Proof.Machine.execSpineOutFrameSent s
  | .sampleTimerExpiry => Sys2Proof.Machine.execSampleTimerExpiry s
  | .modelFreeNotice model => Sys2Proof.Machine.execModelFreeNotice model s
  | .scheduleEntryDue => Sys2Proof.Machine.execScheduleEntryDue s
  | .lateCountdownExpiry model => Sys2Proof.Machine.execLateCountdownExpiry model s
  | .pauseWindowExpiry model => Sys2Proof.Machine.execPauseWindowExpiry model s
  | .holdLimitExpiry model => Sys2Proof.Machine.execHoldLimitExpiry model s
  | .stuckTimerExpiry key => Sys2Proof.Machine.execStuckTimerExpiry key s
  | .lockoutEnd key => Sys2Proof.Machine.execLockoutEnd key s
  | .requestExpiry model key => Sys2Proof.Machine.execRequestExpiry model key s
  | .refreshTimerExpiry node => Sys2Proof.Machine.execRefreshTimerExpiry node s
  | .nodeSilenceExpiry node => Sys2Proof.Machine.execNodeSilenceExpiry node s
  | .driveSilenceExpiry model => Sys2Proof.Machine.execDriveSilenceExpiry model s
  | .zoneSettleExpiry zone => Sys2Proof.Machine.execZoneSettleExpiry zone s
  | .spineSilenceExpiry => Sys2Proof.Machine.execSpineSilenceExpiry s
  | .ringCheckTimerExpiry => Sys2Proof.Machine.execRingCheckTimerExpiry s
  | .ringCheckMiss => Sys2Proof.Machine.execRingCheckMiss s
  | .bayCheckWindowEnd => Sys2Proof.Machine.execBayCheckWindowEnd s
  | .escalationDeadlineExpiry number => Sys2Proof.Machine.execEscalationDeadlineExpiry number s
  | .beaconPhaseEnd => Sys2Proof.Machine.execBeaconPhaseEnd s
  | .dozeTimerExpiry => Sys2Proof.Machine.execDozeTimerExpiry s
  | .wakeLimitExpiry => Sys2Proof.Machine.execWakeLimitExpiry s
  | .resetNLow => Sys2Proof.Machine.execResetNLow s
  | .clkStop => Sys2Proof.Machine.execClkStop s
  | .clkResume => Sys2Proof.Machine.execClkResume s
  | .badCommand sender payload => Sys2Proof.Machine.execBadCommand sender payload s

end Sys2Proof.Machine
end

