-- ==== Sys2Proof/Machine/Tick.lean ====
section
/-!
DEFINITION. One millisecond with no command waiting (log 2): the show clock counts and every running timer comes nearer
its end. A timer at 0 waits there for its expiry command (log 3).
-/

namespace Sys2Proof.Machine

/-- One millisecond off a timer. -/
def countDown (t : Timer) : Timer := t.map (· - 1)

/-- The Line Relay's timers: node silence (R117), ring check and miss (R168), bay-check window (R120), spine silence
(R118). -/
def tickRelay (q : LineRelay) : LineRelay :=
  { q with
    nodes := q.nodes.map fun e => { e with silence := countDown e.silence }
    ringTimer := q.ringTimer - 1, missTimer := countDown q.missTimer, windowTimer := q.windowTimer - 1,
    spineSilence := countDown q.spineSilence }

/-- The Press Arbiter's timers: stuck timers, of which one may be suspended (R70), lockouts (R69), request countdowns
(R74) and refresh timers (R85). -/
def tickPress (suspended : Button → Bool) (q : PressArbiter) : PressArbiter :=
  { q with
    buttons := q.buttons.map (Option.map fun b =>
      { b with stuckTimer := if suspended b then b.stuckTimer else countDown b.stuckTimer,
               lockoutTimer := countDown b.lockoutTimer })
    waits := q.waits.map (List.map fun r => { r with left := r.left - 1 })
    refresh := q.refresh.map countDown }

/-- The Motion Sequencer's timers: the show clock (R49), the sample timer (R30), pause windows (R13) and late countdowns
(R55). -/
def tickMotion (q : MotionSequencer) : MotionSequencer :=
  { q with
    models := q.models.map fun x => { x with pauseTimer := countDown x.pauseTimer }
    schedule := q.schedule.map fun e => { e with due := countDown e.due }
    clock := q.clock + 1, sampleTimer := q.sampleTimer - 1 }

/-- The Supervisor's timers: settle timers (R91), hold limits (R94), drive silence (R103), the ACK press (R108). -/
def tickSup (q : Supervisor) : Supervisor :=
  { q with
    zones := q.zones.map fun z => { z with settle := countDown z.settle }
    watch := q.watch.map fun w =>
      { w with holdTimer := countDown w.holdTimer, driveSilence := countDown w.driveSilence }
    ackTimer := countDown q.ackTimer }

/-- The Alert Unit's timers: deadlines (R137) and the phase of FLASH (R146). With the millisecond ends the time in which
the end of a phase cut short could come (log 35). -/
def tickAlert (q : AlertUnit) : AlertUnit :=
  { q with
    queue := q.queue.map fun r => { r with deadline := countDown r.deadline }
    phaseTimer := countDown q.phaseTimer, phaseCut := false }

/-- Mode Control's timers: doze (R154) and wake limit (R156). -/
def tickMode (q : ModeControl) : ModeControl :=
  { q with dozeTimer := countDown q.dozeTimer, wakeTimer := countDown q.wakeTimer }

/-- One millisecond passes in the part. -/
def tick (s : State) : State :=
  { s with
    relay := tickRelay s.relay, press := tickPress s.stuckSuspended s.press, motion := tickMotion s.motion,
    sup := tickSup s.sup, alert := tickAlert s.alert, modeCtl := tickMode s.modeCtl }

/-- What a step does when no command waits. Time stands still in reset and while CLK is stopped (R185). -/
def idle (s : State) : State := if s.running then takeUp (tick s) else s

end Sys2Proof.Machine
end

