-- ==== Sys2Proof/Safety.lean ====
section
/-!
DEFINITION. What counts as a good state of the part, and the words the statements use: the bounds and agreements that the
spec promises of every state, what a settling leaves alone, and when a command from the spine is carried out.
-/

namespace Sys2Proof

/-- The sender of a frame at SPINE_IN (R166). -/
def Frame.sender (f : Frame) : Sender := ⟨f.dstBay == 31, f.srcBay, f.srcNode⟩

namespace Machine

/-! ### Agreements that every step keeps -/

/-- The bounds of the queues and counts: R167 (16 frames), R171 (4), R129 (24 records, lost count 0-255), R119 (miss
run 0-3), R120 (window count 0-255), R169 (the node last served, 0 for none). -/
structure State.Bounded (s : State) : Prop where
  bayFifo : s.relay.bayFifo.length ≤ Config.forwardDepth
  spineFifo : s.relay.spineFifo.length ≤ Config.forwardDepth
  replyFifo : s.relay.replyFifo.length ≤ Config.replyDepth
  alertQueue : s.alert.queue.length ≤ Config.alertDepth
  lost : s.alert.lost ≤ 255
  missRun : s.relay.missRun ≤ Config.missRunMax
  windowCount : s.relay.windowCount ≤ 255
  lastDrive : s.relay.lastDrive ≤ 62
  lastPanel : s.relay.lastPanel ≤ 62

/-- R15: the states that a stop takes to STOPPED. -/
def ModelState.stoppable : ModelState → Bool
  | .idle | .running | .holding | .returning => true
  | .disabled | .enabling | .stopped | .faulted => false

/-- R4, Table 1-2, R13: a model has an owner, and a cue position, exactly when it plays a cue; its hold-cause set is not
empty, and its resume target is present, exactly in HOLDING; PAUSE holds only a cue, and the pause window runs exactly
while it does; R94 the hold-limit timer runs only in HOLDING with ZONE. -/
structure State.MotionAgrees (s : State) : Prop where
  owned : ∀ m, (s.model m).owner.isSome = (s.model m).inPlay ∧ (s.model m).position.isSome = (s.model m).inPlay
  holds : ∀ m, ((s.model m).holdZone || (s.model m).holdPause) = ((s.model m).state == .holding) ∧
    (s.model m).target.isSome = ((s.model m).state == .holding)
  paused : ∀ m, (s.model m).holdPause = true → (s.model m).target = some .cue
  window : ∀ m, (s.model m).pauseTimer.isSome = (s.model m).holdPause
  limit : ∀ m, (s.watch m).holdTimer.isSome = true → (s.model m).state = .holding ∧ (s.model m).holdZone = true

/-- R6, R11, R92, R107, R150 to R153: what the bay may rely on. The mask-occupied mark of a model in service is true; a
model moves only while no zone of its mask is occupied; ZONE holds a model exactly while one is; with the STOP key
asserted no model is at rest or in motion; a cue plays only for an owner that the gallery mode allows. -/
structure State.MovesSafely (s : State) : Prop where
  marks : ∀ m, (s.model m).state ≠ .disabled →
    (s.watch m).maskOccupied = s.maskOccupied (s.model m).config.zoneMask
  clear : ∀ m, (s.model m).state = .running ∨ (s.model m).state = .returning →
    s.maskOccupied (s.model m).config.zoneMask = false
  held : ∀ m, (s.model m).state = .holding → (s.model m).holdZone = s.maskOccupied (s.model m).config.zoneMask
  stopped : s.sup.stopAsserted = true → ∀ m, (s.model m).state.stoppable = false
  allowed : ∀ m o, (s.model m).owner = some o → s.gallery = .opened ∨ (s.gallery = .service ∧ o = .control)

/-- Table 1-1: the fields of a model record are in their ranges. -/
structure ModelConfig.InRange (c : ModelConfig) : Prop where
  travel : -32768 ≤ c.travelMin ∧ c.travelMin < c.travelMax ∧ c.travelMax ≤ 32767
  home : c.travelMin ≤ c.home ∧ c.home ≤ c.travelMax
  rates : 1 ≤ c.rateLimit ∧ c.rateLimit ≤ 4095 ∧ 1 ≤ c.returnRate ∧ c.returnRate ≤ 4095
  offsets : (-128 ≤ c.leadOffset ∧ c.leadOffset ≤ 127) ∧ (-128 ≤ c.dwellOffset ∧ c.dwellOffset ≤ 127) ∧
    (-128 ≤ c.tailOffset ∧ c.tailOffset ≤ 127)
  following : 1 ≤ c.followLimit ∧ c.followLimit ≤ 32767 ∧ 1 ≤ c.followCount ∧ c.followCount ≤ 15 ∧ c.feedbackLag ≤ 7
  loads : c.loadDepth ∈ [1, 2, 4, 8] ∧ c.loadAlarm ≤ c.loadTrip ∧ c.loadTrip ≤ 1023 ∧ c.loadRelease < c.loadTrip
  times : 1 ≤ c.holdLimit ∧ c.holdLimit ≤ 255 ∧ 1 ≤ c.pauseWindow ∧ c.pauseWindow ≤ 60 ∧ 5 ≤ c.maxWaitAge ∧
    c.maxWaitAge ≤ 255
  depth : c.waitDepth ≤ 4

/-- R43, R19, R23, R14: every record, configured or staged, is in range; a staged record names the model's own axis; and
every model in service stands within its travel. -/
structure State.WithinTravel (s : State) : Prop where
  config : ∀ m, (s.model m).config.InRange
  staged : ∀ m c, (s.model m).staged = some c →
    c.InRange ∧ c.driveNode = (s.model m).config.driveNode ∧ c.axis = (s.model m).config.axis
  travel : ∀ m, (s.model m).state ≠ .disabled →
    (s.model m).config.travelMin ≤ (s.model m).lastSetpoint ∧ (s.model m).lastSetpoint ≤ (s.model m).config.travelMax
  history : ∀ m, (s.model m).history.length = 8

/-- R52: at most 8 entries, no two of one model, the due entries first. R21: no entry of a DISABLED model. -/
structure State.ScheduleWf (s : State) : Prop where
  length : s.motion.schedule.length ≤ Config.scheduleDepth
  apart : (s.motion.schedule.map ScheduleEntry.model).Nodup
  dueFirst : s.motion.schedule.Pairwise fun a b => b.due.isSome = true → a.due.isSome = true
  inService : ∀ e ∈ s.motion.schedule, (s.model e.model).state ≠ .disabled

/-- R49, R54: every entry that the show clock has reached is due; this is so once each SCHEDULE_ENTRY_DUE has been taken.
-/
def State.NoneOverdue (s : State) : Prop :=
  ∀ e ∈ s.motion.schedule, e.due = none → ¬ (s.motion.clock - e.start).toNat < 2 ^ 31

/-- R52: the entries not yet due, and not yet reached, stand in ascending order of their wait. -/
def State.StartsInOrder (s : State) : Prop :=
  (s.motion.schedule.filter fun e => e.due.isNone && !reached s.motion.clock e.start).Pairwise fun a b =>
    (a.start - s.motion.clock).toNat ≤ (b.start - s.motion.clock).toNat

/-- R66, R72, R75: no wait list holds two requests of one button or more requests than the model's wait depth; the list
of a model out of service is empty, and in CLOSED and SERVICE every list is. -/
structure State.ListsWf (s : State) : Prop where
  apart : ∀ m, ((s.waits m).map Request.key).Nodup
  depth : ∀ m, (s.waits m).length ≤ (s.model m).config.waitDepth
  empty : ∀ m, (s.model m).state = .disabled ∨ (s.model m).state = .enabling ∨ (s.model m).state = .stopped ∨
    (s.model m).state = .faulted → s.waits m = []
  shut : s.gallery = .closed ∨ s.gallery = .service → ∀ m, s.waits m = []

/-- How many requests wait in all the lists. -/
def State.waitingCount (s : State) : Nat := (allModels.map fun m => (s.waits m).length).sum

/-- R76: taken equals started plus expired plus flushed plus the requests waiting. -/
def State.Balanced (s : State) : Prop :=
  s.press.tallies.taken =
    s.press.tallies.started + s.press.tallies.expired + s.press.tallies.flushed + s.waitingCount

/-- No tally has reached its largest value. -/
def State.TalliesBelowMax (s : State) : Prop :=
  s.press.tallies.taken < Config.tallyMax ∧ s.press.tallies.started < Config.tallyMax ∧
  s.press.tallies.expired < Config.tallyMax ∧ s.press.tallies.flushed < Config.tallyMax

/-- R112, R105, R106, R71, R119, R17, R18, R115: an entry of the fault table is active exactly while its underlying state
is true and its kind is detected, and DRIVE_SILENT (kind 4) and STOP_KEY (kind 7) always are; the underlying state of
STOP_KEY is the key's, that of BUTTON_STUCK whether the button is mapped and SUSPECT, and that of RING_OPEN a miss run of 3;
a DISABLED model has no condition; a model with a trip-class latch is FAULTED or DISABLED, and a FAULTED model has one.
-/
structure State.FaultsAgree (s : State) : Prop where
  follows : ∀ id, (s.marks id).active = ((s.marks id).underlying && s.detects id)
  watched : (s.route 4).detect = true ∧ (s.route 7).detect = true
  stopKey : (s.marks (.bay .stopKey)).underlying = s.sup.stopAsserted
  stuck : ∀ k, (s.marks (.buttonStuck k)).underlying = true ↔ ∃ i b, s.entry i = some b ∧ b.key = k ∧ b.suspect = true
  ring : (s.marks (.bay .ringOpen)).underlying = decide (s.relay.missRun = 3)
  disabled : ∀ m, (s.model m).state = .disabled → (s.watch m).driveSilence = none ∧
    ∀ k, (s.marks (.model k m)).underlying = false
  tripped : ∀ m k, k ≠ .loadAlarm → (s.marks (.model k m)).latched = true →
    (s.model m).state = .faulted ∨ (s.model m).state = .disabled
  cause : ∀ m, (s.model m).state = .faulted → ∃ k, k ≠ .loadAlarm ∧ (s.marks (.model k m)).latched = true

/-- R62: no two entries of the button map hold one key. -/
def State.KeysApart (s : State) : Prop :=
  ∀ i j b c, s.entry i = some b → s.entry j = some c → b.key = c.key → i = j

/-- R79, R80, R81: every lamp is as the state derives it; the lamp of an unmapped button is OFF. -/
def State.LampsTrue (s : State) : Prop :=
  ∀ k, s.lamp k = match s.entryOf k with
    | some i => (s.entry i).elim .off s.lampOf
    | none => .off

/-- R129, R131, R127: no two alert records have one number, or one kind and subject; the numbers are 1 to 255 and the
tiers, of records and routes, 1 to 3. -/
structure State.AlertsWf (s : State) : Prop where
  numbers : (s.alert.queue.map AlertRecord.number).Nodup
  abouts : (s.alert.queue.map AlertRecord.about).Nodup
  range : ∀ r ∈ s.alert.queue, 1 ≤ r.number ∧ r.number ≤ 255 ∧ 1 ≤ r.tier ∧ r.tier ≤ 3
  routes : ∀ c, 1 ≤ (s.route c).tier ∧ (s.route c).tier ≤ 3

/-- R145: FLASH t is shown while an unacknowledged beacon-routed record stands in the queue or the overflow flag is set, t
being the highest tier among those records, and 3 with the flag; STEADY while beacon-routed records stand in the queue and
all of them are ACKED; DARK while there is none. -/
def State.ShowingTrue (s : State) : Prop :=
  let flashes := fun (r : AlertRecord) => r.beacon = true ∧ r.state ≠ .acked
  match s.alert.showing with
  | .flash t => (s.alert.overflow = true ∧ t = 3) ∨ (s.alert.overflow = false ∧
      (∃ r ∈ s.alert.queue, flashes r ∧ r.tier = t) ∧ ∀ r ∈ s.alert.queue, flashes r → r.tier ≤ t)
  | .steady => s.alert.overflow = false ∧ (∃ r ∈ s.alert.queue, r.beacon = true) ∧
      ∀ r ∈ s.alert.queue, r.beacon = true → r.state = .acked
  | .dark => s.alert.overflow = false ∧ ∀ r ∈ s.alert.queue, r.beacon = false

/-- R146: the two outputs are those of the showing state: nothing in DARK, BEACON alone in STEADY, and in FLASH the phase,
whose timer runs; CHIME sounds only with BEACON. -/
structure State.OutputsTrue (s : State) : Prop where
  dark : s.alert.showing = .dark → s.alert.beacon = false ∧ s.alert.chime = none ∧ s.alert.phaseTimer = none
  steady : s.alert.showing = .steady → s.alert.beacon = true ∧ s.alert.chime = none ∧ s.alert.phaseTimer = none
  flash : ∀ t, s.alert.showing = .flash t → 1 ≤ t ∧ t ≤ 3 ∧ s.alert.beacon = s.alert.phaseOn ∧
    s.alert.phaseTimer.isSome = true ∧ (s.alert.chime.isSome = true → s.alert.beacon = true)

/-! ### Settling -/

/-- A state with all that a settling may change set aside: the transmitters with what waits for them, the lamps with
their dirty flags and refresh timers, and the sending marks of the alert queue. -/
def State.steady (s : State) : State :=
  { s with
    relay := { s.relay with
      slots := Vector.replicate 62 none, lastDrive := 0, lastPanel := 0, bayOut := none, spineOut := none,
      ringRequest := false, bayFifo := [], spineFifo := [], replyFifo := [] }
    press := { s.press with
      lamps := Vector.replicate 62 (Vector.replicate 16 .off), dirty := Vector.replicate 62 false,
      refresh := Vector.replicate 62 none }
    alert := { s.alert with
      queue := s.alert.queue.map fun r => { r with inFlight := false, resend := false }, reportPending := false } }

/-- A state with its lamps and dirty flags set aside. -/
def State.unlit (s : State) : State :=
  { s with press := { s.press with
      lamps := Vector.replicate 62 (Vector.replicate 16 .off), dirty := Vector.replicate 62 false } }

/-- Each transmitter has a frame in progress, so a settling takes nothing up. -/
def State.busy (s : State) : Bool := s.relay.bayOut.isSome && s.relay.spineOut.isSome

/-- How far a node address (as its number from 0) lies after the address last served, going round from 62 to 1 (R169).
-/
def distanceAfter (last : Nat) (n : NodeId) : Nat := (n.val + 62 - last) % 62

/-! ### Models that are cut, paused, stopped and reseated -/

/-- R10: a model whose cue is cut. -/
def Model.asCut (x : Model) : Model :=
  match x.state with
  | .running => { x with state := .returning, owner := none, position := none }
  | .holding =>
    if x.holdZone then
      { x with owner := none, position := none, holdPause := false, pauseTimer := none, target := some .home }
    else
      { x with
        state := .returning, owner := none, position := none, holdPause := false, pauseTimer := none, target := none }
  | _ => x

/-- R15, R97: a model that the STOP key has stopped. -/
def Model.asStopped (x : Model) : Model :=
  { x with
    state := .stopped, owner := none, position := none, holdZone := false, holdPause := false, target := none,
    pauseTimer := none, run := 0 }

/-- R14: a model reseated from its latest fed-back position; `occupied` says whether a zone of its mask is occupied.
Without a fed-back position it enters ENABLING. -/
def Model.asReseated (x : Model) (occupied : Bool) : Model :=
  match x.fedBack with
  | none => { x with state := .enabling }
  | some p =>
    let seat := if p < x.config.travelMin then x.config.travelMin
      else if x.config.travelMax < p then x.config.travelMax else p
    { x with
      lastSetpoint := seat, history := List.replicate 8 seat, run := 0, holdPause := false, pauseTimer := none,
      state := if occupied then .holding else .returning
      holdZone := occupied
      target := if occupied then some .home else none }

/-! ### Frames -/

/-- R173: a port counter after one more. -/
def oneMore (n : Nat) : Nat := if n < 65535 then n + 1 else n

/-- R161, R173: a good frame has come at BAY_IN: the receiver waits for the next, and the frame is counted. -/
def State.goodAtBay (s : State) : State :=
  { s with relay := { s.relay with
      rxBay := .waiting
      bayCounters := { s.relay.bayCounters with good := oneMore s.relay.bayCounters.good } } }

/-- R161, R173: a good frame has come at SPINE_IN. -/
def State.goodAtSpine (s : State) : State :=
  { s with relay := { s.relay with
      rxSpine := .waiting
      spineCounters := { s.relay.spineCounters with good := oneMore s.relay.spineCounters.good } } }

/-- R173: one more frame from BAY_IN is counted misrouted. -/
def State.misroutedAtBay (s : State) : State :=
  { s with relay := { s.relay with
      bayCounters := { s.relay.bayCounters with misrouted := oneMore s.relay.bayCounters.misrouted } } }

/-- R173: one more frame from SPINE_IN is counted misrouted. -/
def State.misroutedAtSpine (s : State) : State :=
  { s with relay := { s.relay with
      spineCounters := { s.relay.spineCounters with misrouted := oneMore s.relay.spineCounters.misrouted } } }

/-- A frame that a port takes whole (R161): the receiver is not discarding, the payload fits and the check is good. -/
def takenAt (r : Receiver) (f : Frame) : Bool := r != .discarding && f.payload.length ≤ 64 && checkGood f

/-! ### Presses -/

/-- R60: a panel's recorded down-set with one button's membership changed. -/
def State.flipped (s : State) (k : Key) : BitVec 16 :=
  tget s.press.recorded k.node ^^^ BitVec.twoPow 16 k.button.val

/-- R70: a button after the bookkeeping of an edge, DOWN or UP. -/
def Button.edged (b : Button) (down : Bool) (now : Clock) : Button :=
  { b with
    downSince := if down then some now else none
    stuckTimer := if down then some (b.stuckLimit * 1000) else none }

/-- R69: a button whose lockout begins. -/
def Button.locked (b : Button) (now : Clock) : Button :=
  { b with
    lockoutTimer := if b.lockout = 0 then none else some (b.lockout * 100)
    lockoutUntil := some (now + BitVec.ofNat 32 (b.lockout * 100)) }

/-- A PANEL frame of this panel brings one edge, of the button `k` whose map entry `i` holds `b`. The edge is DOWN or UP
as `down` says. -/
structure State.AnyEdge (s : State) (k : Key) (i : EntryIx) (b : Button) (down : Bool) : Prop where
  running : s.running = true
  role : (s.node k.node).role = .panel
  mapped : s.entryOf k = some i
  entry : s.entry i = some b
  edge : s.isDown k = !down

/-- The one edge of a PANEL frame is that of a button that is not SUSPECT. -/
structure State.OneEdge (s : State) (k : Key) (i : EntryIx) (b : Button) (down : Bool) : Prop
    extends s.AnyEdge k i b down where
  suspect : b.suspect = false

/-- The edge is one on which the button is pressed: every DOWN of a HOLD entry and the acting edge of any other. -/
def Button.pressedBy (b : Button) (down : Bool) : Prop :=
  (b.mode = .hold ∧ down = true) ∨ (b.mode ≠ .hold ∧ b.acting = if down then .down else .up)

/-- What an edge leaves alone whatever it does: the Line Relay (but for its transmitters), the settings, the pins, the
clock, the tables of cues and profiles, and the recorded sets of the other panels; the frame's down-set is recorded. -/
structure State.EdgeFrame (s t : State) (k : Key) : Prop where
  recorded : t.press.recorded = tput s.press.recorded k.node (s.flipped k)
  relay : t.steady.relay = s.steady.relay
  settings : t.settings = s.settings
  pins : t.pins = s.pins
  pending : t.pending = s.pending
  clock : t.motion.clock = s.motion.clock
  cues : t.motion.cues = s.motion.cues
  profiles : t.motion.profiles = s.motion.profiles

/-- The model to which this axis of this node is bound, and the only one that is not DISABLED there (R95). -/
def State.bindsOnly (s : State) (m : ModelId) (n : NodeId) (a : Axis) : Prop :=
  ∀ k, ((s.model k).state ≠ .disabled ∧ (s.model k).config.driveNode = some n ∧ (s.model k).config.axis = a) ↔ k = m

/-- R61: what is left of the button `k`, whose map entry `i` holds `b`, when the recorded set of its panel has been emptied:
its stuck timer is stopped, its down-since absent, SUSPECT cleared and BUTTON_STUCK inactive; the cue that a HOLD button
owns is paused. A button that was not in the set is as before. -/
structure State.Removed (s t : State) (k : Key) (i : EntryIx) (b : Button) : Prop where
  up : s.isDown k = false → t.entry i = some b ∧ t.marks (.buttonStuck k) = s.marks (.buttonStuck k)
  down : s.isDown k = true → t.entry i = some { b with stuckTimer := none, downSince := none, suspect := false }
  condition : s.isDown k = true → t.marks (.buttonStuck k) =
    if b.suspect then ⟨false, false, (s.marks (.buttonStuck k)).latched⟩ else s.marks (.buttonStuck k)
  paused : s.isDown k = true → b.mode = .hold → s.ownsCue k b.modelId = true →
    let x := s.model b.modelId
    x.state = .running ∨ (x.state = .holding ∧ x.target = some .cue ∧ x.pauseTimer = none) →
    let y := t.model b.modelId
    y.state = .holding ∧ y.holdPause = true ∧ y.target = some .cue ∧ y.owner = some (.button k) ∧
      y.pauseTimer = some (x.config.pauseWindow * 1000)

/-! ### Records -/

/-- R175, R176: what the stages make of a record when one of its fields had to be clamped. -/
def Staged.marked {α : Type} : Staged α → Staged α
  | .ok (v, _) => .ok (v, true)
  | .error o => .error o

/-! ### Commands from the spine -/

/-- R171, R182: a command of this sender is carried out: to bay 31 always, to the own bay while the reply FIFO has room.
-/
def State.carriesOut (s : State) (c : Sender) : Bool := s.running && (c.all || !s.replyFull)

/-- R171, R182: a command's answer is placed in the reply FIFO, or for bay 31 dropped. -/
def State.answeredWith (c : Sender) (a : Answer) (s : State) : State := if c.all then s else pushReply c a false s

/-- The REPLY to a CONTROL sub-command (Table 10-4). -/
def controlReply (code : Byte) (r : Result) (detail : Half) : Answer := replyAnswer kControl code (r, detail)

/-- The REPLY to a TABLE_WRITE (Table 10-4). -/
def writeReply (id : Byte) (r : Result) (detail : Half) : Answer := replyAnswer kTableWrite id (r, detail)

/-- The commands that the pins RESET_N and CLK bring (R185). -/
def isPinCommand : Instr → Bool
  | .hardReset _ _ _ _ | .resetNLow | .clkStop | .clkResume => true
  | _ => false

/-- The commands taken while CLK is stopped besides those of the pins: they need neither a timer nor a line (log 11). -/
def needsNoClock : Instr → Bool
  | .stopKeyAsserted | .modelFreeNotice _ => true
  | _ => false

end Machine

end Sys2Proof
end

