-- ==== Sys2Proof/Certificates/Slice0/Obligations.lean ====
section
/-!
DEFINITION. The statements about the WG340. Each docstring names the rules of spec/ that the statement formalises. A
statement that gives the state after a command as `settle u` says that everything is as in `u` but for what
`SettlingTouchesOnlyLampsAndTransmitters` and `TransmittersServeTheirClassesInOrder` say.
-/

open Sys2Proof Sys2Proof.Machine

/-! ### The machine -/

/-- The row's own law of a step. -/
def Obligations.StepRunsTheFrontCommand : Prop :=
  ∀ (c : Instr) (rest : List Instr) (s : State), s.pending = c :: rest → step s = exec c (s.withPending rest)

/-- R185, R49: what time does to the part. DESIGN CHOICE (log 2): a step on an empty queue is one millisecond; log 11 and
log 12 say which commands come while the part is held or CLK is stopped. -/
def Obligations.TimeRunsOnlyInARunningPart : Prop :=
  (∀ s : State, s.pending = [] → s.running = true → ∃ t, step s = .next t ∧
    t.motion.clock = s.motion.clock + 1 ∧ t.motion.sampleTimer = s.motion.sampleTimer - 1 ∧
    t.relay.ringTimer = s.relay.ringTimer - 1 ∧ t.relay.windowTimer = s.relay.windowTimer - 1 ∧
    t.relay.spineSilence = s.relay.spineSilence.map (· - 1) ∧
    (∀ m, t.model m = { s.model m with pauseTimer := (s.model m).pauseTimer.map (· - 1) }) ∧
    (∀ m, t.watch m = { s.watch m with
      holdTimer := (s.watch m).holdTimer.map (· - 1), driveSilence := (s.watch m).driveSilence.map (· - 1) }) ∧
    (∀ m, t.waits m = (s.waits m).map fun r => { r with left := r.left - 1 }) ∧
    (∀ n, t.node n = { s.node n with silence := (s.node n).silence.map (· - 1) }) ∧
    (∀ i b, s.entry i = some b → t.entry i = some { b with
      stuckTimer := if s.stuckSuspended b then b.stuckTimer else b.stuckTimer.map (· - 1),
      lockoutTimer := b.lockoutTimer.map (· - 1) }) ∧
    t.sup.faults = s.sup.faults ∧ t.settings = s.settings ∧ t.pins = s.pins ∧ t.gallery = s.gallery) ∧
  (∀ s : State, s.pending = [] → s.running = false → step s = .next s) ∧
  (∀ (c : Instr) (s : State), isPinCommand c = false →
    (s.outOfReset = false → exec c s = .next s) ∧
    (s.pins.clkRunning = false → needsNoClock c = false → exec c s = .next s))

/-! ### Settling: what follows every command -/

/-- R82, R169, R170: after a command the lamps are derived and each idle transmitter takes what waits; nothing else is
changed (log 7, log 8). -/
def Obligations.SettlingTouchesOnlyLampsAndTransmitters : Prop :=
  ∀ u : State,
    settle u = (if u.running then takeSpine (takeBay (deriveLamps u)) else deriveLamps u) ∧
    (settle u).steady = u.steady ∧
    (u.busy = true ∨ u.running = false → (settle u).unlit = u.unlit)

/-- R169, R86, R168: what BAY_OUT takes up when it is idle: a setpoint slot, the ring check, a dirty panel, the head of
the forward FIFO; and R168 what a frame that has left BAY_OUT leaves behind. R170, R134, R133: what SPINE_OUT takes up when
it is idle: a reply, an alert, the head of the forward FIFO. The overflow report goes before the records, and the UNSENT
record of the highest tier, nearest the head, before the rest. -/
def Obligations.TransmittersServeTheirClassesInOrder : Prop :=
  ((∀ (s : State) (b : BaySending), s.running = true → s.relay.bayOut = some b →
     exec .bayOutFrameSent s = .next (settle { s with relay := { s.relay with
       bayOut := none
       ringOutstanding := b.ringCheck || s.relay.ringOutstanding
       missTimer := if b.ringCheck then some 100 else s.relay.missTimer } })) ∧
   (∀ (s : State) (n : NodeId) (f : Frame), s.relay.bayOut = none → s.relay.lastDrive ≤ 62 →
     tget s.relay.slots n = some f →
     (∀ k, k ≠ n → (tget s.relay.slots k).isSome = true →
       distanceAfter s.relay.lastDrive n < distanceAfter s.relay.lastDrive k) →
     takeBay s = { s with relay := { s.relay with
       slots := tput s.relay.slots n none, lastDrive := n.val + 1, bayOut := some ⟨f, false⟩ } }) ∧
   (∀ s : State, s.relay.bayOut = none → (∀ n, tget s.relay.slots n = none) → s.relay.ringRequest = true →
     takeBay s = { s with relay := { s.relay with
       ringRequest := false
       bayOut := some ⟨mkFrame 32 0 s.relay.ownBay 0 0x23 (le32 s.motion.clock), true⟩ } }) ∧
   (∀ (s : State) (n : NodeId), s.relay.bayOut = none → s.relay.lastPanel ≤ 62 →
     (∀ n, tget s.relay.slots n = none) → s.relay.ringRequest = false →
     (s.node n).role = .panel → tget s.press.dirty n = true →
     (∀ k, k ≠ n → (s.node k).role = .panel → tget s.press.dirty k = true →
       distanceAfter s.relay.lastPanel n < distanceAfter s.relay.lastPanel k) →
     takeBay s = { s with
       relay := { s.relay with
         lastPanel := n.val + 1
         bayOut := some ⟨mkFrame 32 (addressOf n) s.relay.ownBay 0 0x22 ((List.finRange 8).map fun k =>
           byteOf ((s.lamp ⟨n, Fin.ofNat 16 (2 * k.val)⟩).code +
             16 * (s.lamp ⟨n, Fin.ofNat 16 (2 * k.val + 1)⟩).code)), false⟩ }
       press := { s.press with
         dirty := tput s.press.dirty n false, refresh := tput s.press.refresh n (some 2000) } }) ∧
   (∀ s : State, s.relay.bayOut = none → (∀ n, tget s.relay.slots n = none) → s.relay.ringRequest = false →
     (∀ k, (s.node k).role = .panel → tget s.press.dirty k = false) →
     (∀ f rest, s.relay.bayFifo = f :: rest →
       takeBay s = { s with relay := { s.relay with bayFifo := rest, bayOut := some ⟨f, false⟩ } }) ∧
     (s.relay.bayFifo = [] → takeBay s = s)) ∧
   (∀ s : State, s.relay.bayOut.isSome = true → takeBay s = s)) ∧
  (∀ s : State,
     (s.relay.spineOut.isSome = true → takeSpine s = s) ∧
     (s.relay.spineOut = none →
       (∀ r rest, s.relay.replyFifo = r :: rest →
         takeSpine s = { s with relay := { s.relay with
           replyFifo := rest, spineOut := some ⟨r.frame, if r.restart then .restart else .plain⟩ } }) ∧
       (s.relay.replyFifo = [] → (s.marks (.bay .spineSilent)).active = false → s.alert.reportPending = true →
         takeSpine s = { s with
           alert := { s.alert with reportPending := false }
           relay := { s.relay with
             spineOut := some ⟨mkFrame 0 0 s.relay.ownBay 0 0x44
               ([0, 0, 0, 0, 3, byteOf s.alert.lost] ++ le32 s.alert.overflowSince ++ [0]), .alert⟩ } }) ∧
       (∀ before r after, s.relay.replyFifo = [] → (s.marks (.bay .spineSilent)).active = false →
         s.alert.reportPending = false → s.alert.queue = before ++ r :: after →
         r.state = .unsent → r.inFlight = false →
         (∀ q ∈ before, q.state = .unsent → q.inFlight = false → q.tier < r.tier) →
         (∀ q ∈ after, q.state = .unsent → q.inFlight = false → q.tier ≤ r.tier) →
         takeSpine s = { s with
           alert := { s.alert with queue := s.alert.queue.map fun q =>
             if q.number = r.number then { q with inFlight := true, resend := false } else q }
           relay := { s.relay with
             spineOut := some ⟨mkFrame 0 0 s.relay.ownBay 0 0x44
               ([byteOf r.number, byteOf r.about.kindCode.val] ++ r.about.subjectBytes ++
                 [byteOf r.tier, byteOf r.occurrences] ++ le32 r.raisedAt ++ [if r.escalated then 1 else 0]),
               .alert⟩ } }) ∧
       (s.relay.replyFifo = [] →
         (s.marks (.bay .spineSilent)).active = true ∨
           (s.alert.reportPending = false ∧ ∀ q ∈ s.alert.queue, q.state = .unsent → q.inFlight = true) →
         (∀ f rest, s.relay.spineFifo = f :: rest →
           takeSpine s = { s with relay := { s.relay with spineFifo := rest, spineOut := some ⟨f, .plain⟩ } }) ∧
         (s.relay.spineFifo = [] → takeSpine s = s))))

/-- R135, R172: what a frame that has left SPINE_OUT does for the block that built it: an alert record waits for its
acknowledgement, or for its next sending; a RESTART's reply, or the frame a RESTART to bay 31 waited for, brings the
soft reset. -/
def Obligations.SpineFrameSentTellsItsBuilder : Prop :=
  ∀ (s : State) (b : SpineSending), s.running = true → s.relay.spineOut = some b →
    (b.builder = .plain ∨ (b.builder = .restart ∧ s.relay.softPending = false) → s.relay.softWaiting = false →
      exec .spineOutFrameSent s = .next (settle { s with relay := { s.relay with spineOut := none } })) ∧
    (b.builder = .alert → s.relay.softWaiting = false →
      exec .spineOutFrameSent s = .next (settle { s with
        relay := { s.relay with spineOut := none }
        alert := { s.alert with queue := s.alert.queue.map fun r =>
          if r.inFlight = false then r
          else if r.state = .unsent ∧ r.resend = true then { r with inFlight := false, resend := false }
          else if r.state = .unsent then { r with inFlight := false, state := .awaiting }
          else { r with inFlight := false } } })) ∧
    ((b.builder = .restart ∧ s.relay.softPending = true) ∨ s.relay.softWaiting = true →
      exec .spineOutFrameSent s = exec (.softReset s.pins.stopOpen s.pins.ackClosed)
        { s with relay := { s.relay with spineOut := none } })

/-! ### Resets, RESET_N and CLK -/

/-- R185, R160, R106, R108, R172: what a hard reset leaves, with the STOP key found closed and found open. The reset
values that the spec does not give are the model's (log 24). -/
def Obligations.HardResetBringsTheResetValues : Prop :=
  ∀ (bay : BitVec 5) (rate : BitVec 2) (ack : Bool) (s : State), s.pins.clkRunning = true →
    let own : Byte := if bay = 0 ∨ bay = 31 then 1 else bay.zeroExtend 8
    exec (.hardReset bay rate false ack) s = .next (settle { State.reset with
      relay := { LineRelay.reset with
        ownBay := own
        rate := if rate = 0 then .kbps125 else if rate = 1 then .kbps250 else if rate = 2 then .kbps500 else .kbps1000
        replyFifo := [⟨mkFrame 0 0 own 0 0x43 (1 :: List.replicate 62 0), false⟩] }
      sup := { Supervisor.reset with ack := if ack then .blocked else .armed }
      pins := ⟨bay, rate, false, ack, true, true, false⟩
      pending := s.pending }) ∧
    ∃ t, exec (.hardReset bay rate true ack) s = .next t ∧
      t.sup.stopAsserted = true ∧ t.marks (.bay .stopKey) = ⟨true, true, true⟩ ∧
      (∀ id, id ≠ .bay .stopKey → t.marks id = .clear) ∧
      t.alert.queue.map (fun r => (r.number, r.about, r.tier, r.occurrences, r.raisedAt)) =
        [(1, About.fault (.bay .stopKey), 3, 1, 0)] ∧
      t.alert.beacon = true ∧ t.alert.chime = some .khz29 ∧
      t.relay.ownBay = own ∧ t.relay.nodes = LineRelay.reset.nodes ∧
      t.relay.bayCounters = .zero ∧ t.relay.spineCounters = .zero ∧
      t.press = PressArbiter.reset ∧ t.motion = MotionSequencer.reset ∧ t.modeCtl = .reset ∧ t.settings = .reset ∧
      t.pins = ⟨bay, rate, true, ack, true, true, false⟩ ∧ t.pending = s.pending

/-- R172, R184, R106, R125: what a soft reset keeps and what it leaves, with the STOP key found closed and found open.
DESIGN CHOICE (log 14): a ring check in progress on BAY_OUT is finished and is not of the new round. -/
def Obligations.SoftResetKeepsClockCountersAndBay : Prop :=
  ∀ (ack : Bool) (s : State), s.running = true →
    let b := s.relay.bayCounters
    let p := s.relay.spineCounters
    exec (.softReset false ack) s = .next (settle { State.reset with
      relay := { LineRelay.reset with
        ownBay := s.relay.ownBay, rate := s.relay.rate, bayCounters := b, spineCounters := p
        bayOut := s.relay.bayOut.map fun x => ⟨x.frame, false⟩
        spineOut := s.relay.spineOut.map fun x => ⟨x.frame, .plain⟩
        replyFifo := [⟨mkFrame 0 0 s.relay.ownBay 0 0x43 (2 :: List.replicate 36 0 ++
          [b.good, b.checkErrors, b.framingErrors, b.misrouted, b.dropped, b.undelivered, b.stranger, p.good,
            p.checkErrors, p.framingErrors, p.misrouted, p.dropped, p.overrun].flatMap
              (fun n => le16 (BitVec.ofNat 16 n))), false⟩] }
      motion := { MotionSequencer.reset with clock := s.motion.clock }
      sup := { Supervisor.reset with ack := if ack then .blocked else .armed }
      pins := { s.pins with stopOpen := false, ackClosed := ack }
      pending := s.pending }) ∧
    ∃ t, exec (.softReset true ack) s = .next t ∧
      t.sup.stopAsserted = true ∧ t.marks (.bay .stopKey) = ⟨true, true, true⟩ ∧
      (∀ id, id ≠ .bay .stopKey → t.marks id = .clear) ∧ t.sup.ack = (if ack then .blocked else .armed) ∧
      t.alert.queue.map (fun r => (r.number, r.about, r.tier, r.occurrences, r.raisedAt)) =
        [(1, About.fault (.bay .stopKey), 3, 1, s.motion.clock)] ∧
      t.alert.showing = .flash 3 ∧ t.alert.beacon = true ∧ t.alert.chime = some .khz29 ∧
      t.relay.ownBay = s.relay.ownBay ∧ t.relay.rate = s.relay.rate ∧ t.relay.nodes = LineRelay.reset.nodes ∧
      t.relay.bayCounters = b ∧ t.relay.spineCounters = p ∧ t.press = PressArbiter.reset ∧
      t.motion = { MotionSequencer.reset with clock := s.motion.clock } ∧ t.modeCtl = .reset ∧ t.settings = .reset ∧
      t.pins = { s.pins with stopOpen := true, ackClosed := ack } ∧ t.pending = s.pending

/-- R185: RESET_N low holds the part; CLK stops and resumes; a rising edge of RESET_N taken while CLK is stopped
completes when CLK resumes (log 11, log 12). -/
def Obligations.ResetNAndClkHoldThePart : Prop :=
  (∀ s : State, exec .resetNLow s = .next { State.reset with
    relay := { LineRelay.reset with
      ownBay := s.relay.ownBay, rate := s.relay.rate, replyFifo := [], ringRequest := false }
    pins := { s.pins with resetNHigh := false, resetEdge := false }
    pending := s.pending }) ∧
  (∀ s : State, exec .clkStop s = .next (settle { s with pins := { s.pins with clkRunning := false } })) ∧
  (∀ s : State, s.pins.resetEdge = false →
    exec .clkResume s = .next (settle { s with pins := { s.pins with clkRunning := true } })) ∧
  (∀ (bay : BitVec 5) (rate : BitVec 2) (stop ack : Bool) (s : State), s.pins.clkRunning = false →
    ∃ h, exec (.hardReset bay rate stop ack) s = .next h ∧ h.outOfReset = false ∧
      h.press = .reset ∧ h.motion = .reset ∧ h.sup = .reset ∧ h.alert = .reset ∧ h.modeCtl = .reset ∧
      h.settings = .reset ∧ h.relay.replyFifo = [] ∧ h.relay.nodes = LineRelay.reset.nodes ∧
      exec .clkResume h = exec (.hardReset bay rate stop ack) { s with pins := { s.pins with clkRunning := true } })

/-! ### The keys -/

/-- R107, R15, R106, R114, R75, R97, R9: the STOP key becomes asserted: it latches STOP_KEY and raises its alert,
every model at rest or in motion is STOPPED and loses its cue and its wait list, and everything else is as before.
When it is released, STOP_KEY goes inactive and keeps its latch, no model moves, and each IDLE model that is now
startable becomes free; here no schedule entry is due. DESIGN CHOICE: the notices go in ascending model number (log
22); an edge that finds the key as it is changes nothing but the pin (log 4). -/
def Obligations.StopKeyStopsAndFreesModels : Prop :=
  (∀ s : State, s.outOfReset = true →
     (s.sup.stopAsserted = true →
       exec .stopKeyAsserted s = .next (settle { s with pins := { s.pins with stopOpen := true } })) ∧
     (s.sup.stopAsserted = false → (s.marks (.bay .stopKey)).active = false → (s.route 7).detect = true →
       ∃ t, exec .stopKeyAsserted s = .next t ∧
         t.sup.stopAsserted = true ∧ t.marks (.bay .stopKey) = ⟨true, true, true⟩ ∧
         (∀ m, t.model m = if (s.model m).state.stoppable then (s.model m).asStopped else s.model m) ∧
         (∀ m, t.waits m = if (s.model m).state.stoppable then [] else s.waits m) ∧
         t.steady.alert = (raise (.fault (.bay .stopKey)) s).steady.alert ∧
         (∀ id, id ≠ .bay .stopKey → (∀ m, (s.model m).state.stoppable = true → id ≠ .model .follow m) →
           t.marks id = s.marks id) ∧
         t.steady.relay = s.steady.relay ∧ t.sup.zones = s.sup.zones ∧ t.press.buttons = s.press.buttons ∧
         t.press.recorded = s.press.recorded ∧ t.motion.schedule = s.motion.schedule ∧
         t.motion.clock = s.motion.clock ∧ t.gallery = s.gallery ∧ t.settings = s.settings ∧
         t.pins = { s.pins with stopOpen := true })) ∧
  (∀ s : State, s.running = true →
     (s.sup.stopAsserted = false →
       exec .stopKeyReleased s = .next (settle { s with pins := { s.pins with stopOpen := false } })) ∧
     (s.sup.stopAsserted = true → (∀ e ∈ s.motion.schedule, e.due = none) →
       exec .stopKeyReleased s = .next (settle { s with
         pins := { s.pins with stopOpen := false }
         sup := { s.sup with
           stopAsserted := false
           faults := s.sup.faults.modify (.bay .stopKey) fun k => ⟨false, false, k.latched⟩ }
         motion := { s.motion with freeNotices := s.motion.freeNotices ++ allModels.filter fun m =>
           (s.model m).state == .idle && !s.maskOccupied (s.model m).config.zoneMask &&
             (s.gallery == .opened || s.gallery == .service) } })))

/-- R108, R109, R141, R142: the ACK key is pressed and let go. A short press acknowledges every unacknowledged
beacon-routed record, removes those whose fault is not latched, and clears the overflow flag; the lost count is kept.
R16, R14, R181: a long press, and a RESUME from the control room, reseat every STOPPED model; with the STOP key
asserted neither changes anything, and a RESUME with arguments is refused. Models in other states are left as they
are. DESIGN CHOICE (log 3): an expiry with the press timer stopped changes nothing. -/
def Obligations.AckKeyAcknowledgesAndResumes : Prop :=
  (∀ s : State, s.running = true →
     exec .ackKeyPressed s = .next (settle { s with
       pins := { s.pins with ackClosed := true }
       sup := if s.sup.ack = .armed then { s.sup with ack := .timing, ackTimer := some 3000 } else s.sup }) ∧
     (s.sup.ack ≠ .timing →
       exec .ackKeyLetGo s = .next (settle { s with
         pins := { s.pins with ackClosed := false }, sup := { s.sup with ack := .armed, ackTimer := none } })) ∧
     (s.sup.ack = .timing → ∃ t, exec .ackKeyLetGo s = .next t ∧
       t.sup = { s.sup with ack := .armed, ackTimer := none } ∧
       t.steady.alert.queue = (s.steady.alert.queue.filterMap fun r =>
         if r.beacon = true ∧ r.state ≠ .acked then
           (match r.about with
             | .fault id => if (s.marks id).latched then some { r with state := .acked, deadline := none } else none
             | _ => none)
         else some r) ∧
       t.alert.overflow = false ∧ t.alert.lost = s.alert.lost ∧ t.alert.reportPending = false ∧
       t.alert.routes = s.alert.routes ∧ t.alert.lastNumber = s.alert.lastNumber ∧
       t.motion = s.motion ∧ t.steady.relay = s.steady.relay ∧ t.press.waits = s.press.waits ∧
       t.modeCtl = s.modeCtl ∧ t.settings = s.settings)) ∧
  (∀ (c : Sender) (s : State),
     (s.running = true → s.sup.ack = .timing → s.sup.ackTimer.isSome = true →
       (s.sup.stopAsserted = true → exec .ackPressTimerExpiry s =
         .next (settle { s with sup := { s.sup with ack := .long, ackTimer := none } })) ∧
       (s.sup.stopAsserted = false → ∃ t, exec .ackPressTimerExpiry s = .next t ∧
         t.sup.ack = .long ∧ t.sup.ackTimer = none ∧
         (∀ m, t.model m = if (s.model m).state = .stopped then
           (s.model m).asReseated (s.maskOccupied (s.model m).config.zoneMask) else s.model m) ∧
         t.steady.alert = s.steady.alert ∧ t.steady.relay = s.steady.relay ∧ t.press.waits = s.press.waits)) ∧
     (s.running = true → (s.sup.ack ≠ .timing ∨ s.sup.ackTimer = none) →
       exec .ackPressTimerExpiry s = .next (settle s)) ∧
     (s.carriesOut c = true →
       (∀ args, args ≠ [] → exec (.resume c args) s =
         .next (settle (s.answeredWith c (controlReply 0x09 .badField 0)))) ∧
       (s.sup.stopAsserted = true → exec (.resume c []) s =
         .next (settle (s.answeredWith c (controlReply 0x09 .stillActive 0)))) ∧
       (s.sup.stopAsserted = false → ∃ u : State,
         exec (.resume c []) s = .next (settle (u.answeredWith c (controlReply 0x09 .ok
           (BitVec.ofNat 16 (allModels.filter fun m => (s.model m).state == .stopped).length)))) ∧
         (∀ m, u.model m = if (s.model m).state = .stopped then
           (s.model m).asReseated (s.maskOccupied (s.model m).config.zoneMask) else s.model m) ∧
         u.alert = s.alert ∧ u.relay = s.relay ∧ u.press = s.press ∧ u.settings = s.settings)))

/-! ### The receivers and the relay -/

/-- R162: a frame that is given its check passes it, and the check of the nine bytes 31h to 39h is 29B1h. R161, R120,
R173: a frame that is broken off, too long or of a bad check is counted on its port and goes no further; at BAY_IN it
also counts in the bay-check window (here below the threshold). A discarding receiver takes nothing until its line has
been idle. DESIGN CHOICE (log 5): frames are taken whole, so a gap timeout or a framing error always breaks off a
frame that was being collected, and an idle timeout finds none. -/
def Obligations.ReceiversCountAndAbandon : Prop :=
  (∀ f : Frame, checkGood (withCheck f) = true ∧ frameBody (withCheck f) = frameBody f) ∧
  (∀ dstBay dstNode srcBay srcNode kind payload,
    checkGood (mkFrame dstBay dstNode srcBay srcNode kind payload) = true) ∧
  crc16 [0x31, 0x32, 0x33, 0x34, 0x35, 0x36, 0x37, 0x38, 0x39] = 0x29B1 ∧
  ∀ (f : Frame) (s : State), s.running = true →
    (s.relay.rxSpine = .discarding →
      exec (.receiverGapTimeout .spine) s = .next (settle s) ∧ exec (.framingError .spine) s = .next (settle s) ∧
      exec (.spineFrameReceived f) s = .next (settle s) ∧
      exec (.receiverIdleTimeout .spine) s =
        .next (settle { s with relay := { s.relay with rxSpine := .waiting } })) ∧
    (s.relay.rxSpine ≠ .discarding →
      let broken := fun (r : Receiver) => { s with relay := { s.relay with
        rxSpine := r
        spineCounters := { s.relay.spineCounters with
          framingErrors := oneMore s.relay.spineCounters.framingErrors } } }
      exec (.receiverGapTimeout .spine) s = .next (settle (broken .waiting)) ∧
      exec (.framingError .spine) s = .next (settle (broken .discarding)) ∧
      exec (.receiverIdleTimeout .spine) s = .next (settle s) ∧
      (64 < f.payload.length → exec (.spineFrameReceived f) s = .next (settle (broken .discarding))) ∧
      (f.payload.length ≤ 64 → checkGood f = false →
        exec (.spineFrameReceived f) s = .next (settle { s with relay := { s.relay with
          rxSpine := .waiting
          spineCounters := { s.relay.spineCounters with
            checkErrors := oneMore s.relay.spineCounters.checkErrors } } }))) ∧
    (s.relay.rxBay = .discarding →
      exec (.receiverGapTimeout .bay) s = .next (settle s) ∧ exec (.framingError .bay) s = .next (settle s) ∧
      exec (.bayFrameReceived f) s = .next (settle s) ∧
      exec (.receiverIdleTimeout .bay) s = .next (settle { s with relay := { s.relay with rxBay := .waiting } })) ∧
    (s.relay.rxBay ≠ .discarding →
      exec (.receiverIdleTimeout .bay) s = .next (settle s) ∧
      let errors := if s.relay.windowCount < 255 then s.relay.windowCount + 1 else s.relay.windowCount
      let broken := fun (r : Receiver) => { s with relay := { s.relay with
        rxBay := r
        windowCount := errors
        bayCounters := { s.relay.bayCounters with framingErrors := oneMore s.relay.bayCounters.framingErrors } } }
      (errors < s.settings.bayThreshold →
        exec (.receiverGapTimeout .bay) s = .next (settle (broken .waiting)) ∧
        exec (.framingError .bay) s = .next (settle (broken .discarding)) ∧
        (64 < f.payload.length → exec (.bayFrameReceived f) s = .next (settle (broken .discarding))) ∧
        (f.payload.length ≤ 64 → checkGood f = false →
          exec (.bayFrameReceived f) s = .next (settle { s with relay := { s.relay with
            rxBay := .waiting
            windowCount := errors
            bayCounters := { s.relay.bayCounters with
              checkErrors := oneMore s.relay.bayCounters.checkErrors } } }))))

/-- R164, R166, R167, R118, R173: what becomes of a good frame that no block takes. At BAY_IN: the part's own frames,
strangers, and the frames that are forwarded, dropped at a full FIFO or misrouted (what hearing a node does is in
`HearingANodeRestartsItsTimers`). At SPINE_IN: the spine-silence timer restarts, a frame for a bay node is forwarded
down, and one for nobody here is misrouted. -/
def Obligations.FramesAreRelayed : Prop :=
  ((∀ (f : Frame) (s : State), s.running = true → takenAt s.relay.rxBay f = true →
     let g := s.goodAtBay
     (f.srcNode = 0 → f.kind ≠ 0x23 →
       exec (.bayFrameReceived f) s = .next (settle { g with relay := { g.relay with
         bayCounters := { g.relay.bayCounters with undelivered := oneMore g.relay.bayCounters.undelivered } } })) ∧
     (f.srcNode = 0 → f.kind = 0x23 → exec (.bayFrameReceived f) s = exec .ringCheckReturn g) ∧
     (f.srcNode = 63 ∨ (∃ n : NodeId, f.srcNode = addressOf n ∧ (s.node n).role = .empty) →
       exec (.bayFrameReceived f) s = .next (settle { g with relay := { g.relay with
         bayCounters := { g.relay.bayCounters with stranger := oneMore g.relay.bayCounters.stranger } } })) ∧
     (∀ n : NodeId, f.srcNode = addressOf n → (s.node n).role ≠ .empty →
       let h := nodeHeard n g
       ((s.node n).policy = .pass →
         exec (.bayFrameReceived f) s = .next (settle (forwardUp (withCheck { f with srcBay := s.relay.ownBay }) h))) ∧
       ((s.node n).policy ≠ .pass → listedKind f.kind = false →
         exec (.bayFrameReceived f) s = .next (settle h.misroutedAtBay)) ∧
       ((s.node n).policy ≠ .pass → listedKind f.kind = true → (f.dstBay = s.relay.ownBay ∨ f.dstBay = 32) →
         1 ≤ f.dstNode.toNat → f.dstNode.toNat ≤ 63 →
         exec (.bayFrameReceived f) s = .next (settle (forwardDown f h))) ∧
       ((s.node n).policy ≠ .pass → listedKind f.kind = true → f.dstBay = 0 → s.relay.ownBay ≠ 0 →
         exec (.bayFrameReceived f) s = .next (settle (forwardUp (withCheck { f with srcBay := s.relay.ownBay }) h))) ∧
       ((s.node n).policy ≠ .pass → listedKind f.kind = true → f.dstBay ≠ 0 → ¬ (f.dstBay = 32 ∧ f.dstNode = 0) →
         (¬ (f.dstBay = s.relay.ownBay ∨ f.dstBay = 32) ∨ f.dstNode = 0 ∨ 63 < f.dstNode.toNat) →
         exec (.bayFrameReceived f) s = .next (settle h.misroutedAtBay)))) ∧
   (∀ (f : Frame) (s : State),
     forwardDown f s = (if s.relay.bayFifo.length < 16 then
       { s with relay := { s.relay with bayFifo := s.relay.bayFifo ++ [f] } }
       else { s with relay := { s.relay with
         bayCounters := { s.relay.bayCounters with dropped := oneMore s.relay.bayCounters.dropped } } }) ∧
     forwardUp f s = (if s.relay.spineFifo.length < 16 then
       { s with relay := { s.relay with spineFifo := s.relay.spineFifo ++ [f] } }
       else { s with relay := { s.relay with
         spineCounters := { s.relay.spineCounters with dropped := oneMore s.relay.spineCounters.dropped } } }))) ∧
  (∀ (f : Frame) (s : State), s.running = true → takenAt s.relay.rxSpine f = true →
     (spineHeard s.goodAtSpine).relay.spineSilence =
       (if s.settings.spineSilence = 0 then none else some (s.settings.spineSilence * 1000)) ∧
     ((s.marks (.bay .spineSilent)) = .clear → spineHeard s.goodAtSpine = { s.goodAtSpine with
       relay := { s.goodAtSpine.relay with
         spineSilence := if s.settings.spineSilence = 0 then none else some (s.settings.spineSilence * 1000) } }) ∧
     (listedKind f.kind = false ∨ ¬ (f.dstBay = s.relay.ownBay ∨ f.dstBay = 31) ∨ 63 < f.dstNode.toNat →
       exec (.spineFrameReceived f) s = .next (settle (spineHeard s.goodAtSpine).misroutedAtSpine)) ∧
     (listedKind f.kind = true → (f.dstBay = s.relay.ownBay ∨ f.dstBay = 31) → 1 ≤ f.dstNode.toNat →
       f.dstNode.toNat ≤ 63 →
       exec (.spineFrameReceived f) s =
         .next (settle (forwardDown (withCheck { f with dstBay := 32 }) (spineHeard s.goodAtSpine)))) ∧
     ((f.dstBay = s.relay.ownBay ∨ f.dstBay = 31) → f.dstNode = 0 →
       f.kind ≠ 0x31 → f.kind ≠ 0x32 → f.kind ≠ 0x33 → f.kind ≠ 0x34 →
       exec (.spineFrameReceived f) s = .next (settle (spineHeard s.goodAtSpine).misroutedAtSpine)))

/-- DEDUCED (log 6, from spec/95_what_each_step_holds.md and the rows of the command table): the arrival of a frame
does the relay's part and then runs the row of the block that takes it. R164 line 5, R165, R163: a frame for the
controller of the kind and form of its node's role runs its row on the part that has heard the node, marked HELLO and
copied up a MIRROR frame; any other is misrouted. R166 line 2, R174, R181: a command frame at SPINE_IN runs the row
that its kind and its first bytes name, on the part that has heard the spine. -/
def Obligations.FramesRunTheirRow : Prop :=
  (∀ (f : Frame) (n : NodeId) (s : State), s.running = true → takenAt s.relay.rxBay f = true →
     f.srcNode = addressOf n → (s.node n).policy ≠ .pass → f.dstBay = 32 → f.dstNode = 0 →
     let h := nodeHeard n s.goodAtBay
     let ready := fun (hello : Bool) =>
       let m := if hello then h.modNode n fun e => { e with helloSeen := true } else h
       if (s.node n).policy = .mirror then
         forwardUp (withCheck { f with srcBay := s.relay.ownBay, dstBay := 0, dstNode := 0 }) m else m
     (∀ lo hi flags, (s.node n).role = .panel → f.kind = 0x11 → f.payload = [lo, hi, flags] →
       exec (.bayFrameReceived f) s =
         exec (.panel n (hi ++ lo) (flags.getLsbD 0)) (ready (flags.getLsbD 0))) ∧
     (∀ set flags, (s.node n).role = .sensor → f.kind = 0x13 → f.payload = [set, flags] →
       exec (.bayFrameReceived f) s = exec (.presence n set) (ready (flags.getLsbD 0))) ∧
     (∀ flags entries, (s.node n).role = .drive → f.kind = 0x12 → f.payload.head? = some flags →
       feedbackEntries f.payload = some entries →
       exec (.bayFrameReceived f) s = exec (.feedback n entries) (ready (flags.getLsbD 0))) ∧
     ((s.node n).role ≠ .empty → listedKind f.kind = true →
       ¬ ((s.node n).role = .panel ∧ f.kind = 0x11 ∧ f.payload.length = 3) →
       ¬ ((s.node n).role = .sensor ∧ f.kind = 0x13 ∧ f.payload.length = 2) →
       ¬ ((s.node n).role = .drive ∧ f.kind = 0x12 ∧ (feedbackEntries f.payload).isSome = true) →
       exec (.bayFrameReceived f) s = .next (settle h.misroutedAtBay))) ∧
  (∀ (f : Frame) (s : State), s.running = true → takenAt s.relay.rxSpine f = true →
     (f.dstBay = s.relay.ownBay ∨ f.dstBay = 31) → f.dstNode = 0 →
     let c := f.sender
     let runs := fun (i : Instr) => exec (.spineFrameReceived f) s = exec i (spineHeard s.goodAtSpine)
     (f.kind = 0x31 → ∀ index record,
       (f.payload = 1 :: index :: record → tableAddressFault false f.payload = none → runs (.nodeWrite c index record)) ∧
       (f.payload = 2 :: index :: record → tableAddressFault false f.payload = none → runs (.buttonWrite c index record)) ∧
       (f.payload = 3 :: index :: record → tableAddressFault false f.payload = none → runs (.cueWrite c index record)) ∧
       (f.payload = 4 :: index :: record → tableAddressFault false f.payload = none →
         runs (.profileWrite c index record)) ∧
       (f.payload = 5 :: index :: record → tableAddressFault false f.payload = none → runs (.modelWrite c index record)) ∧
       (f.payload = 6 :: index :: record → tableAddressFault false f.payload = none → runs (.routeWrite c index record)) ∧
       (f.payload = 7 :: index :: record → tableAddressFault false f.payload = none →
         runs (.patternWrite c index record)) ∧
       (f.payload = 8 :: index :: record → tableAddressFault false f.payload = none →
         runs (.settingsWrite c index record))) ∧
     (f.kind = 0x31 → (tableAddressFault false f.payload).isSome = true → runs (.badTable c f.payload)) ∧
     (f.kind = 0x32 → runs (.tableRead c f.payload)) ∧
     (f.kind = 0x33 → ∀ args,
       (f.payload = 0x01 :: args → runs (.enable c args)) ∧ (f.payload = 0x02 :: args → runs (.disable c args)) ∧
       (f.payload = 0x03 :: args → runs (.commit c args)) ∧
       (f.payload = 0x04 :: args → args.length = 7 → runs (.cueStartScheduled c args)) ∧
       (f.payload = 0x04 :: args → args.length ≠ 7 → runs (.cueStart c args)) ∧
       (f.payload = 0x05 :: args → runs (.cueStop c args)) ∧ (f.payload = 0x06 :: args → runs (.mode c args)) ∧
       (f.payload = 0x07 :: args → runs (.showSync c args)) ∧ (f.payload = 0x08 :: args → runs (.clearFault c args)) ∧
       (f.payload = 0x09 :: args → runs (.resume c args)) ∧
       (∀ options, f.payload = [0x0A, options] → options.getLsbD 0 = true → runs (.statusQueryClear c [options])) ∧
       (∀ options, f.payload = [0x0A, options] → options.getLsbD 0 = false → runs (.statusQuery c [options])) ∧
       (f.payload = 0x0A :: args → args.length ≠ 1 → runs (.statusQuery c args)) ∧
       (f.payload = 0x0B :: args → runs (.restart c args)) ∧
       (∀ code, f.payload = code :: args → code = 0 ∨ 0x0B < code.toNat → runs (.badCommand c (code :: args)))) ∧
     (f.kind = 0x33 → f.payload = [] → runs (.badCommand c [])) ∧
     (f.kind = 0x34 → runs (.alertAck c f.payload)))

/-- R163, R117, R103: what hearing a node does to its entry, to its silence timer and to the drive silence timers of the
models bound to it. -/
def Obligations.HearingANodeRestartsItsTimers : Prop :=
  ∀ (n : NodeId) (s : State),
    (nodeHeard n s).node n = { s.node n with
      lastHeard := some s.motion.clock
      silence := if ((s.node n).role = .panel ∨ (s.node n).role = .sensor ∨ (s.node n).role = .guest) ∧
        (s.node n).timeout ≠ 0 then some ((s.node n).timeout * 100) else none } ∧
    (∀ k, k ≠ n → (nodeHeard n s).node k = s.node k) ∧
    ((nodeHeard n s).marks (.nodeSilent n)).active = false ∧
    ((nodeHeard n s).marks (.nodeSilent n)).underlying = false ∧
    ((nodeHeard n s).marks (.nodeSilent n)).latched = (s.marks (.nodeSilent n)).latched ∧
    ((s.marks (.nodeSilent n)).active = false → ∀ m,
      ((nodeHeard n s).watch m).driveSilence =
        (if (s.node n).role = .drive ∧ (s.model m).state ≠ .disabled ∧ (s.model m).config.driveNode = some n then
          some ((s.node n).timeout * 100) else (s.watch m).driveSilence) ∧
      ((s.node n).role = .drive → (s.model m).state ≠ .disabled → (s.model m).config.driveNode = some n →
        ((nodeHeard n s).marks (.model .driveSilent m)).active = false) ∧
      (nodeHeard n s).model m = s.model m) ∧
    (nodeHeard n s).relay.bayFifo = s.relay.bayFifo ∧ (nodeHeard n s).relay.bayCounters = s.relay.bayCounters ∧
    (nodeHeard n s).settings = s.settings ∧ (nodeHeard n s).pins = s.pins

/-! ### Panels and presses -/

/-- R60, R61, R84: what every PANEL frame leaves: the frame's down-set is recorded for its panel and no other changes,
and a HELLO leaves the panel dirty where BAY_OUT is busy. A node of another role has no effect. R64 cases 1 and 2,
R65, R66 points 1 and 2, R68, R71, R72, R156, R157: an edge that is not a press taken in OPEN or WAKING: the UP of a
SUSPECT button clears the mark and its condition, and its other edges are ignored; a press or a call in lockout is
ignored, as are those of a mode that takes none; in DOZE the DOWN of any mapped button, and the acting UP of a CALL
button, wake the bay and are taken as in WAKING, and a later press of that frame finds WAKING. DEDUCED (log 15): where
every drive is energised already, this comes before the wake ends, so the presses of the frame join their lists or are
refused and the bay opens after the frame. -/
def Obligations.PanelFrameIsRecorded : Prop :=
  (∀ (n : NodeId) (downSet : BitVec 16) (hello : Bool) (s : State), s.running = true →
    ((s.node n).role ≠ .panel → exec (.panel n downSet hello) s = .next (settle s)) ∧
    ((s.node n).role = .panel → ∃ t, exec (.panel n downSet hello) s = .next t ∧
      t.press.recorded = tput s.press.recorded n downSet ∧
      (hello = true → s.relay.bayOut.isSome = true → tget t.press.dirty n = true) ∧
      (tget s.press.recorded n = downSet → hello = false → t = settle s) ∧
      t.steady.relay = s.steady.relay ∧ t.settings = s.settings ∧ t.pins = s.pins ∧ t.pending = s.pending ∧
      t.motion.clock = s.motion.clock ∧ t.motion.cues = s.motion.cues ∧ t.motion.profiles = s.motion.profiles ∧
      t.sup.zones = s.sup.zones ∧ t.sup.reported = s.sup.reported ∧ t.sup.stopAsserted = s.sup.stopAsserted)) ∧
  (∀ (k : Key) (i : EntryIx) (b : Button) (down : Bool) (s : State), s.AnyEdge k i b down →
    let sent := exec (.panel k.node (s.flipped k) false)
    let edged := b.edged down s.motion.clock
    let left := fun (b' : Button) (faults : FaultTable) => ∃ t, sent s = .next t ∧
      t.press.buttons = tput s.press.buttons i (some b') ∧ t.sup = { s.sup with faults } ∧ t.motion = s.motion ∧
      t.press.waits = s.press.waits ∧ t.press.tallies = s.press.tallies ∧ t.modeCtl = s.modeCtl ∧
      t.steady.alert = s.steady.alert ∧ s.EdgeFrame t k
    (b.suspect = true →
      (down = false → left { edged with suspect := false }
        (s.sup.faults.modify (.buttonStuck b.key) fun x => ⟨false, false, x.latched⟩)) ∧
      (down = true → left edged s.sup.faults)) ∧
    (b.suspect = false → b.pressedBy down →
      (s.gallery ≠ .doze → b.lockoutTimer.isSome = true → left edged s.sup.faults) ∧
      (s.gallery = .closed ∨ s.gallery = .service → left edged s.sup.faults) ∧
      (s.gallery = .doze → down = false → b.mode ≠ .call → left edged s.sup.faults)) ∧
    (b.suspect = false → s.gallery = .doze → down = true ∨ (b.mode = .call ∧ b.acting = .up) →
      ((∃ m, (s.model m).state ≠ .disabled ∧ (s.watch m).energised = false) →
        sent s = sent { s with modeCtl := ⟨.waking, none, some (s.settings.wakeLimit * 100)⟩ }) ∧
      ((∀ m, (s.model m).state = .disabled ∨ (s.watch m).energised = true) →
        (∀ e ∈ s.motion.schedule, e.due = none) → ∃ t, sent s = .next t ∧
          t.gallery = .opened ∧ t.modeCtl.wakeTimer = none ∧
          (b.mode = .call → b.pressedBy down → b.lockoutTimer = none →
            t.steady.alert = (raise (.visitorCall k) s).steady.alert ∧
            t.press.buttons = tput s.press.buttons i (some (edged.locked s.motion.clock))) ∧
          (b.mode ≠ .call → b.pressedBy down → b.lockoutTimer = none → s.ownsCue k b.modelId = false →
            s.isWaiting k b.modelId = false →
            let m := b.modelId
            let x := s.model m
            let out := x.state = .disabled ∨ x.state = .enabling ∨ x.state = .stopped ∨ x.state = .faulted
            let room := (s.waits m).length < x.config.waitDepth
            t.press.buttons = tput s.press.buttons i (some edged) ∧ t.sup = s.sup ∧
            t.motion = { s.motion with freeNotices := s.motion.freeNotices ++ allModels.filter fun j =>
              (s.model j).state == .idle && !s.maskOccupied (s.model j).config.zoneMask && !s.sup.stopAsserted } ∧
            (¬ out → s.cueValid b.cueId = true → room →
              t.press.waits = tput s.press.waits m
                (s.waits m ++ [⟨b.key, b.cueId, s.motion.clock, x.config.maxWaitAge * 1000⟩]) ∧
              t.press.tallies = { s.press.tallies with taken := min 4294967295 (s.press.tallies.taken + 1) }) ∧
            (out ∨ (s.cueValid b.cueId = true ∧ ¬ room) → t.press.waits = s.press.waits ∧
              t.press.tallies = { s.press.tallies with refused := min 4294967295 (s.press.tallies.refused + 1) }) ∧
            (¬ out → s.cueValid b.cueId = false →
              t.press.waits = s.press.waits ∧ t.press.tallies = s.press.tallies))))) ∧
  (∀ (k later : Key) (i j : EntryIx) (b b' : Button) (down : Bool) (s : State),
    s.AnyEdge k i b down → s.AnyEdge later j b' true → later.node = k.node → k.button < later.button →
    s.gallery = .doze → b.suspect = false → down = true ∨ (b.mode = .call ∧ b.acting = .up) →
    s.ownsCue k b.modelId = false → (∀ m, (s.model m).state = .disabled ∨ (s.watch m).energised = true) →
    (∀ e ∈ s.motion.schedule, e.due = none) →
    b'.suspect = false → b'.mode ≠ .call → b'.pressedBy true → b'.lockoutTimer = none →
    s.ownsCue later b'.modelId = false → s.isWaiting later b'.modelId = false →
    (s.model b'.modelId).state = .idle → s.cueValid b'.cueId = true →
    (s.waits b'.modelId).length + 1 < (s.model b'.modelId).config.waitDepth →
    ∃ t, exec (.panel k.node (s.flipped k ^^^ BitVec.twoPow 16 later.button.val) false) s = .next t ∧
      t.gallery = .opened ∧ t.model b'.modelId = s.model b'.modelId ∧
      (t.waits b'.modelId).getLast? =
        some ⟨later, b'.cueId, s.motion.clock, (s.model b'.modelId).config.maxWaitAge * 1000⟩)

/-- R64, R66, R6, R69, R70: a press that finds its model startable starts the cue: the model is RUNNING with the button
as owner, the press is counted taken and started, and the lockout begins. -/
def Obligations.StartingPressStartsItsCue : Prop :=
  ∀ (k : Key) (i : EntryIx) (b : Button) (down : Bool) (s : State), s.OneEdge k i b down →
    b.mode ≠ .call → b.pressedBy down → b.lockoutTimer = none → s.gallery = .opened →
    s.ownsCue k b.modelId = false → s.isWaiting k b.modelId = false →
    (s.model b.modelId).state = .idle → s.cueValid b.cueId = true →
    s.maskOccupied (s.model b.modelId).config.zoneMask = false → s.sup.stopAsserted = false →
    (s.model b.modelId).flagSeen = false →
    ∃ t, exec (.panel k.node (s.flipped k) false) s = .next t ∧
      t.motion = { s.motion with models := tput s.motion.models b.modelId { s.model b.modelId with
        state := .running, owner := some (.button k)
        position := some
          (s.startPosition (s.model b.modelId).config b.cueId (s.model b.modelId).lastSetpoint) } } ∧
      t.press.tallies = { s.press.tallies with
        taken := min 4294967295 (s.press.tallies.taken + 1)
        started := min 4294967295 (s.press.tallies.started + 1) } ∧
      t.press.buttons = tput s.press.buttons i (some ((b.edged down s.motion.clock).locked s.motion.clock)) ∧
      t.press.waits = s.press.waits ∧ t.modeCtl = { s.modeCtl with dozeTimer := none } ∧
      t.sup = s.sup ∧ t.steady.alert = s.steady.alert ∧ s.EdgeFrame t k

/-- R66, R72, R65, R6, R114: a press that cannot start its cue now joins the model's wait list while there is room,
and is counted refused when the list is full or the model is out of service; a press for a cue that is not valid is
ignored. One that finds a drive flag seen in IDLE sends a drive report, which latches and trips whatever the detect
enable says. -/
def Obligations.PressThatCannotStartWaitsOrIsRefused : Prop :=
  ∀ (k : Key) (i : EntryIx) (b : Button) (down : Bool) (s : State), s.OneEdge k i b down →
    b.mode ≠ .call → b.pressedBy down → b.lockoutTimer = none → (s.gallery = .opened ∨ s.gallery = .waking) →
    s.ownsCue k b.modelId = false → s.isWaiting k b.modelId = false →
    let m := b.modelId
    let v := s.verdict m b.cueId (.button k)
    let waits := v = .busy ∨ v = .blocked ∨ v = .mode
    (v ≠ .ok → v ≠ .faultLatched → ∃ t, exec (.panel k.node (s.flipped k) false) s = .next t ∧
      (waits → s.cueValid b.cueId = true → (s.waits m).length < (s.model m).config.waitDepth →
        t.press.waits = tput s.press.waits m
          (s.waits m ++ [⟨k, b.cueId, s.motion.clock, (s.model m).config.maxWaitAge * 1000⟩]) ∧
        t.press.tallies = { s.press.tallies with taken := min 4294967295 (s.press.tallies.taken + 1) } ∧
        t.modeCtl = { s.modeCtl with dozeTimer := none }) ∧
      (v = .notReady ∨
          (waits ∧ s.cueValid b.cueId = true ∧ (s.model m).config.waitDepth ≤ (s.waits m).length) →
        t.press.tallies = { s.press.tallies with refused := min 4294967295 (s.press.tallies.refused + 1) } ∧
        t.press.waits = s.press.waits ∧ t.modeCtl = s.modeCtl) ∧
      (v = .cueInvalid ∨ (waits ∧ s.cueValid b.cueId = false) →
        t.press.tallies = s.press.tallies ∧ t.press.waits = s.press.waits ∧ t.modeCtl = s.modeCtl) ∧
      t.press.buttons = tput s.press.buttons i (some (b.edged down s.motion.clock)) ∧
      t.motion = s.motion ∧ t.sup = s.sup ∧ t.steady.alert = s.steady.alert ∧ s.EdgeFrame t k) ∧
    (v = .faultLatched → ∃ t, exec (.panel k.node (s.flipped k) false) s = .next t ∧
      t.press.tallies.refused = min 4294967295 (s.press.tallies.refused + 1) ∧
      t.press.tallies.taken = s.press.tallies.taken ∧ t.press.tallies.started = s.press.tallies.started ∧
      t.press.buttons = tput s.press.buttons i (some (b.edged down s.motion.clock)) ∧
      (t.marks (.model .driveReport m)).latched = true ∧
      ((s.marks (.model .driveReport m)).latched = false → (t.model m).state = .faulted) ∧
      (∀ j, j ≠ m → t.model j = s.model j) ∧ s.EdgeFrame t k)

/-- R67, R13, R10, R68: the edges of the button that owns a model's cue: a TOGGLE press cuts it, a HOLD button's UP
pauses it and its DOWN resumes it. And a CALL button's acting edge raises VISITOR_CALL and begins the lockout. -/
def Obligations.OwnerEdgesAndCalls : Prop :=
  ∀ (k : Key) (i : EntryIx) (b : Button) (down : Bool) (s : State), s.OneEdge k i b down → s.MotionAgrees →
    (s.gallery = .opened ∨ s.gallery = .waking) →
    let m := b.modelId
    let x := s.model m
    let left := fun (b' : Button) (x' : Model) (t : State) =>
      t.press.buttons = tput s.press.buttons i (some b') ∧
      t.motion = { s.motion with models := tput s.motion.models m x' } ∧
      t.press.waits = s.press.waits ∧ t.press.tallies = s.press.tallies ∧ t.modeCtl = s.modeCtl ∧ t.sup = s.sup ∧
      t.steady.alert = s.steady.alert ∧ s.EdgeFrame t k
    let edged := b.edged down s.motion.clock
    (b.mode = .toggle → b.pressedBy down → b.lockoutTimer = none → s.ownsCue k m = true →
      ∃ t, exec (.panel k.node (s.flipped k) false) s = .next t ∧
        (x.state = .running →
          left (edged.locked s.motion.clock) { x with state := .returning, owner := none, position := none } t) ∧
        (x.state = .holding → x.holdZone = true →
          left (edged.locked s.motion.clock) { x with
            owner := none, position := none, holdPause := false, pauseTimer := none, target := some .home } t) ∧
        (x.state = .holding → x.holdZone = false →
          left (edged.locked s.motion.clock) { x with
            state := .returning, owner := none, position := none, holdPause := false, pauseTimer := none,
            target := none } t)) ∧
    (b.mode = .hold → down = false → s.ownsCue k m = true →
      ∃ t, exec (.panel k.node (s.flipped k) false) s = .next t ∧
        (x.state = .running →
          left edged { x with
            state := .holding, holdPause := true, target := some .cue,
            pauseTimer := some (x.config.pauseWindow * 1000) } t) ∧
        (x.state = .holding → x.target = some .cue → x.pauseTimer = none →
          left edged { x with holdPause := true, pauseTimer := some (x.config.pauseWindow * 1000) } t)) ∧
    (b.mode = .hold → down = true → b.lockoutTimer = none → s.ownsCue k m = true →
      ∃ t, exec (.panel k.node (s.flipped k) false) s = .next t ∧
        (x.state = .holding → x.holdPause = true → x.holdZone = false →
          left edged { x with state := .running, holdPause := false, target := none, pauseTimer := none } t) ∧
        (x.state = .holding → x.holdPause = true → x.holdZone = true →
          left edged { x with holdPause := false, pauseTimer := none } t) ∧
        (x.holdPause = false → left edged x t)) ∧
    (b.mode = .hold → down = false → s.ownsCue k m = false →
      ∃ t, exec (.panel k.node (s.flipped k) false) s = .next t ∧ left edged x t) ∧
    (b.mode ≠ .hold → (b.acting ≠ if down then .down else .up) →
      ∃ t, exec (.panel k.node (s.flipped k) false) s = .next t ∧ left edged x t) ∧
    (b.mode = .call → b.pressedBy down → b.lockoutTimer = none →
      ∃ t, exec (.panel k.node (s.flipped k) false) s = .next t ∧
        t.steady.alert = (raise (.visitorCall k) s).steady.alert ∧
        t.press.buttons = tput s.press.buttons i (some (edged.locked s.motion.clock)) ∧
        t.press.waits = s.press.waits ∧ t.press.tallies = s.press.tallies ∧ t.motion = s.motion ∧ t.sup = s.sup ∧
        t.modeCtl = s.modeCtl ∧ s.EdgeFrame t k)

/-! ### Feedback, zones and the ring check -/

/-- R20, R14, R95, R101, R102: the first entry for an ENABLING model's axis seats the model and takes it to HOLDING, to
RETURNING or, with the STOP key asserted, to STOPPED. Here the bay is not WAKING. -/
def Obligations.FirstFeedbackSeatsTheModel : Prop :=
  ∀ (n : NodeId) (e : AxisEntry) (m : ModelId) (s : State), s.running = true → (s.node n).role = .drive →
    s.bindsOnly m n e.axis → (s.model m).state = .enabling → s.gallery ≠ .waking →
    let flagged := e.flags.getLsbD 0 || e.flags.getLsbD 1 || e.flags.getLsbD 2
    let x := { s.model m with fedBack := some e.position.toInt, flagSeen := flagged }
    let occupied := s.maskOccupied x.config.zoneMask
    ∃ t, exec (.feedback n [e]) s = .next t ∧
      (s.sup.stopAsserted = true → t.model m = { x.asReseated occupied with
        state := .stopped, holdZone := x.holdZone, holdPause := x.holdPause, target := x.target,
        pauseTimer := x.pauseTimer } ∧ t.waits m = []) ∧
      (s.sup.stopAsserted = false → t.model m = x.asReseated occupied ∧ t.waits m = s.waits m ∧
        (t.watch m).holdTimer =
          (if occupied && !(s.model m).zoneHeld then some (x.config.holdLimit * 1000) else (s.watch m).holdTimer)) ∧
      (t.watch m).energised = e.flags.getLsbD 3 ∧
      (t.marks (.model .driveReport m)).underlying = flagged ∧
      (t.marks (.model .driveReport m)).active = (flagged && (s.route 3).detect) ∧
      (t.marks (.model .driveReport m)).latched = (s.marks (.model .driveReport m)).latched ∧
      (t.marks (.model .follow m)).active = false ∧
      (∀ k, k ≠ m → t.model k = s.model k) ∧ t.steady.alert = s.steady.alert ∧ t.steady.relay = s.steady.relay ∧
      t.sup.zones = s.sup.zones ∧ t.press.buttons = s.press.buttons ∧ t.motion.schedule = s.motion.schedule

/-- R95 to R100, R102, R114, R17: an axis entry of a model in service sets its position, its loads and the states that are
checked from it; a following error or an overload newly latched takes the model to FAULTED. An axis with no such model,
and a node of another role, have no effect. -/
def Obligations.FeedbackIsChecked : Prop :=
  ∀ (n : NodeId) (e : AxisEntry) (s : State), s.running = true →
    ((s.node n).role ≠ .drive → ∀ es, exec (.feedback n es) s = .next (settle s)) ∧
    ((∀ m, ¬ ((s.model m).state ≠ .disabled ∧ (s.model m).config.driveNode = some n ∧
        (s.model m).config.axis = e.axis)) →
      exec (.feedback n [e]) s = .next (settle s)) ∧
    (∀ m, (s.node n).role = .drive → s.bindsOnly m n e.axis → (s.model m).state ≠ .enabling →
      let x := s.model m
      let flagged := e.flags.getLsbD 0 || e.flags.getLsbD 1 || e.flags.getLsbD 2
      let loads := (min 1023 e.load.toNat :: x.loads).take 8
      let average := (loads.take x.config.loadDepth).sum / (loads.take x.config.loadDepth).length
      let checked := x.state = .running ∨ x.state = .holding ∨ x.state = .returning ∨
        (x.state = .idle ∧ s.gallery ≠ .doze ∧ s.gallery ≠ .closed)
      let exceeds := (x.config.followLimit : Int) <
        |e.position.toInt - x.history.getD x.config.feedbackLag x.lastSetpoint|
      let run := if exceeds then (if x.run < 15 then x.run + 1 else x.run) else 0
      ∃ t, exec (.feedback n [e]) s = .next t ∧
        (t.model m).fedBack = some e.position.toInt ∧ (t.model m).loads = loads ∧
        (t.model m).flagSeen = (if flagged then (if x.state = .idle then true else x.flagSeen) else false) ∧
        (t.watch m).energised = e.flags.getLsbD 3 ∧
        (t.marks (.model .loadAlarm m)).underlying = decide (x.config.loadAlarm ≤ average) ∧
        (t.marks (.model .loadTrip m)).underlying = (if x.config.loadTrip ≤ average then true
          else if average ≤ x.config.loadRelease then false else (s.marks (.model .loadTrip m)).underlying) ∧
        (t.marks (.model .driveReport m)).underlying = flagged ∧
        (checked → (t.model m).state ≠ .faulted → (t.model m).run = run ∧
          (t.marks (.model .follow m)).underlying = decide (x.config.followCount ≤ run)) ∧
        (¬ checked → (t.model m).state = x.state → (t.model m).run = x.run ∧
          t.marks (.model .follow m) = s.marks (.model .follow m)) ∧
        (checked → x.config.followCount ≤ run → (s.route 0).detect = true →
          (s.marks (.model .follow m)).active = false → (s.marks (.model .follow m)).latched = false →
          (t.model m).state = .faulted ∧ (t.marks (.model .follow m)).latched = true) ∧
        (x.state ≠ .disabled → x.config.loadTrip ≤ average → (s.route 2).detect = true →
          (s.marks (.model .loadTrip m)).active = false → (s.marks (.model .loadTrip m)).latched = false →
          (t.model m).state = .faulted ∧ (t.marks (.model .loadTrip m)).latched = true) ∧
        ((x.state = .running ∨ x.state = .holding ∨ x.state = .returning) → flagged = true →
          (t.marks (.model .driveReport m)).latched = true ∧
          ((s.marks (.model .driveReport m)).latched = false → (t.model m).state = .faulted)) ∧
        (t.model m).config = x.config ∧ (t.model m).lastSetpoint = x.lastSetpoint ∧
        (t.model m).history = x.history ∧ (t.model m).staged = x.staged ∧
        t.steady.relay = s.steady.relay ∧ t.sup.zones = s.sup.zones ∧ t.press.buttons = s.press.buttons)

/-- R89, R90, R91, R88: a PRESENCE frame replaces its sensor's reported set, and every zone follows its held condition:
OCCUPIED at once, or SETTLING for the clear settle time, or CLEAR. A settle timer that ends makes its zone CLEAR. -/
def Obligations.ZonesFollowTheirReports : Prop :=
  (∀ (n : NodeId) (occupied : BitVec 8) (s : State), s.running = true →
    ((s.node n).role ≠ .sensor → exec (.presence n occupied) s = .next (settle s)) ∧
    ((s.node n).role = .sensor → ∃ t, exec (.presence n occupied) s = .next t ∧
      let reported := tput s.sup.reported n (occupied &&& (s.node n).zones)
      let owns := fun (k : NodeId) (z : ZoneId) => (s.node k).role = .sensor ∧ (s.node k).zones.getLsbD z.val = true
      let held := fun (z : ZoneId) => ∃ k, owns k z ∧ ((tget reported k).getLsbD z.val = true ∨
        (s.marks (.nodeSilent k)).active = true ∨ (s.marks (.bay .ringOpen)).active = true)
      t.sup.reported = reported ∧
      (∀ z, let now := tget s.sup.zones z
        let next := tget t.sup.zones z
        ((∀ k, ¬ owns k z) → next = if now.state = .clear then now else ⟨.clear, none⟩) ∧
        (held z → next = if now.state = .occupied then now else ⟨.occupied, none⟩) ∧
        ((∃ k, owns k z) → ¬ held z → next = if now.state ≠ .occupied then now
          else if s.settings.clearSettle = 0 then ⟨.clear, none⟩
          else ⟨.settling, some (s.settings.clearSettle * 100)⟩)) ∧
      t.steady.relay = s.steady.relay ∧ t.settings = s.settings ∧ t.pins = s.pins)) ∧
  (∀ (z : ZoneId) (s : State), s.running = true →
    ((tget s.sup.zones z).state ≠ .settling ∨ (tget s.sup.zones z).settle = none →
      exec (.zoneSettleExpiry z) s = .next (settle s)) ∧
    ((tget s.sup.zones z).state = .settling → (tget s.sup.zones z).settle.isSome = true →
      ∃ t, exec (.zoneSettleExpiry z) s = .next t ∧ t.sup.zones = tput s.sup.zones z ⟨.clear, none⟩ ∧
        t.sup.reported = s.sup.reported ∧ t.steady.relay = s.steady.relay ∧ t.settings = s.settings))

/-- R92, R11, R94: a zone that a report occupies holds every moving model that its mask covers, with the hold-limit timer
started. R12: the last zone of its mask to clear releases a held model. -/
def Obligations.OccupiedZonesHoldTheirModels : Prop :=
  (∀ (n : NodeId) (occupied : BitVec 8) (z : ZoneId) (m : ModelId) (s : State), s.running = true →
    (s.node n).role = .sensor → (s.node n).zones.getLsbD z.val = true → occupied.getLsbD z.val = true →
    (s.model m).config.zoneMask.getLsbD z.val = true → (s.watch m).maskOccupied = false →
    s.maskOccupied (s.model m).config.zoneMask = false →
    let x := s.model m
    ∃ t, exec (.presence n occupied) s = .next t ∧
      (x.state = .running → t.model m = { x with state := .holding, holdZone := true, target := some .cue }) ∧
      (x.state = .returning → t.model m = { x with state := .holding, holdZone := true, target := some .home }) ∧
      (x.state = .holding → t.model m = { x with holdZone := true }) ∧
      (x.state = .running ∨ x.state = .returning ∨ (x.state = .holding ∧ x.holdZone = false) →
        (t.watch m).holdTimer = some (x.config.holdLimit * 1000)) ∧
      (x.state ≠ .disabled → (t.watch m).maskOccupied = true)) ∧
  (∀ (z : ZoneId) (m : ModelId) (s : State), s.running = true → (tget s.sup.zones z).state = .settling →
    (tget s.sup.zones z).settle.isSome = true → (s.model m).config.zoneMask.getLsbD z.val = true →
    (∀ y, y ≠ z → (s.model m).config.zoneMask.getLsbD y.val = true → (tget s.sup.zones y).state = .clear) →
    (s.watch m).maskOccupied = true → (s.model m).state = .holding →
    let x := s.model m
    ∃ t, exec (.zoneSettleExpiry z) s = .next t ∧
      (x.holdPause = true → t.model m = { x with holdZone := false }) ∧
      (x.holdPause = false → x.target = some .home →
        t.model m = { x with holdZone := false, state := .returning, target := none }) ∧
      (∀ o, x.holdPause = false → x.target = some .cue → x.owner = some o →
        (s.gallery = .opened ∨ (s.gallery = .service ∧ o = .control) →
          t.model m = { x with holdZone := false, state := .running, target := none }) ∧
        (¬ (s.gallery = .opened ∨ (s.gallery = .service ∧ o = .control)) →
          t.model m = { x with
            holdZone := false, state := .returning, target := none, owner := none, position := none,
            pauseTimer := none })) ∧
      (t.watch m).maskOccupied = false ∧
      (x.holdZone = true → (t.watch m).holdTimer = none))

/-- R168, R119: a ring check that returns ends the miss run; one that misses makes the next request and, at the third
miss in a row, makes RING_OPEN true, which holds every owned zone (R90); the ring-check timer asks for a new check
while none is outstanding. DESIGN CHOICE (log 4): a miss with no check outstanding changes nothing. DEDUCED (log 30):
a check that is still on the line is not outstanding. -/
def Obligations.RingChecksFindAnOpenRing : Prop :=
  ∀ s : State, s.running = true →
    ((s.marks (.bay .ringOpen)).active = false →
      exec .ringCheckReturn s = .next (settle { s with
        relay := { s.relay with missRun := 0, ringOutstanding := false, missTimer := none }
        sup := { s.sup with faults := s.sup.faults.modify (.bay .ringOpen) fun k => ⟨false, false, k.latched⟩ } })) ∧
    ((s.marks (.bay .ringOpen)).active = true → ∃ t, exec .ringCheckReturn s = .next t ∧
      t.marks (.bay .ringOpen) = ⟨false, false, (s.marks (.bay .ringOpen)).latched⟩ ∧
      t.relay.missRun = 0 ∧ t.relay.ringOutstanding = false ∧ t.relay.missTimer = none) ∧
    (s.relay.ringOutstanding = false → exec .ringCheckMiss s = .next (settle s)) ∧
    (s.relay.ringOutstanding = true → s.relay.missRun < 2 →
      exec .ringCheckMiss s = .next (settle { s with relay := { s.relay with
        missRun := s.relay.missRun + 1, ringOutstanding := false, missTimer := none, ringRequest := true } })) ∧
    (s.relay.ringOutstanding = true → (s.relay.missRun = 2 ∨ s.relay.missRun = 3) → (s.route 9).detect = true →
      ∃ t, exec .ringCheckMiss s = .next t ∧ t.relay.missRun = 3 ∧ t.relay.ringOutstanding = false ∧
        t.relay.missTimer = none ∧
        (t.marks (.bay .ringOpen)).underlying = true ∧ (t.marks (.bay .ringOpen)).active = true ∧
        ((s.marks (.bay .ringOpen)).active = false → (t.marks (.bay .ringOpen)).latched = true ∧
          ∀ z k, (s.node k).role = .sensor → (s.node k).zones.getLsbD z.val = true →
            (tget t.sup.zones z).state = .occupied) ∧
        ((s.marks (.bay .ringOpen)).active = true → t.marks (.bay .ringOpen) =
          ⟨true, true, (s.marks (.bay .ringOpen)).latched⟩ ∧ t.sup.zones = s.sup.zones)) ∧
    exec .ringCheckTimerExpiry s = .next (settle { s with relay := { s.relay with
      ringTimer := 100, ringRequest := s.relay.ringRequest || !s.relay.ringOutstanding } })

/-! ### Tables -/

/-- R175, R177, R179, Table 10-8: a record that is accepted with no field clamped reads back byte for byte as it was
written, in every table; of a ROUTE record the three flag bits that the table names (DESIGN CHOICE, log 26: the others
are not read). Which records are accepted, and what is clamped to what, is stated with the write of each table below.
-/
def Obligations.RecordsReadBackAsWritten : Prop :=
  (∀ (r : List Byte) (v : NodeFields) (e : NodeEntry), readNode r = .ok (v, false) →
    e.role = v.role → e.timeout = v.timeout → e.policy = v.policy → e.zones = v.zones → e.bytes.take 4 = r) ∧
  (∀ (r : List Byte) (i : EntryIx) (s : State),
    (readButton r = .ok (none, false) → s.entry i = none → s.buttonBytes i = r) ∧
    (∀ b e, readButton r = .ok (some b, false) → s.entry i = some e →
      e.key = b.key → e.mode = b.mode → e.acting = b.acting → e.model = b.model → e.cue = b.cue →
      e.lockout = b.lockout → e.stuckLimit = b.stuckLimit → (s.buttonBytes i).take 9 = r)) ∧
  (∀ (r : List Byte) (q : Option Cue), readCue r = .ok (q, false) → cueBytes q = r) ∧
  (∀ (r : List Byte) (q : Option Profile), readProfile r = .ok (q, false) → profileBytes q = r) ∧
  (∀ (isDrive : NodeId → Bool) (r : List Byte) (c : ModelConfig) (x : Model), readModel isDrive r = .ok (c, false) →
    x.config = c → x.bytes.take 31 = r ∧ x.bytes.length = 32) ∧
  (∀ (code : Fin 15) (r : List Byte) (v : Route), readRoute code r = .ok (v, false) →
    v.bytes = [byteAt r 0 &&& 7, byteAt r 1, byteAt r 2]) ∧
  (∀ (r : List Byte) (v : Pattern), readPattern r = .ok (v, false) → v.bytes = r) ∧
  (∀ (r : List Byte) (v : Settings), readSettings r = .ok (v, false) → v.bytes = r)

/-- R174, R175 stages 1 and 3, R179, R181: a TABLE_WRITE that a test of R174 or a form or structure check refuses changes
nothing and is answered with that refusal; TABLE_READ answers with the entry or with the refusal; a write or sub-command
that names no table or no sub-command is refused by name. -/
def Obligations.ReadsAndRefusalsChangeNothing : Prop :=
  (∀ (c : Sender) (index : Byte) (record : List Byte) (s : State), s.carriesOut c = true →
     let refused := fun (i : Instr) (id : Byte) (r : Result) (detail : Half) =>
       exec i s = .next (settle (s.answeredWith c (writeReply id r detail)))
     (∀ r d, tableAddressFault false (1 :: index :: record) = some (r, d) → refused (.nodeWrite c index record) 1 r d) ∧
     (∀ r d, tableAddressFault false (2 :: index :: record) = some (r, d) → refused (.buttonWrite c index record) 2 r d) ∧
     (∀ r d, tableAddressFault false (3 :: index :: record) = some (r, d) → refused (.cueWrite c index record) 3 r d) ∧
     (∀ r d, tableAddressFault false (4 :: index :: record) = some (r, d) →
       refused (.profileWrite c index record) 4 r d) ∧
     (∀ r d, tableAddressFault false (5 :: index :: record) = some (r, d) → refused (.modelWrite c index record) 5 r d) ∧
     (∀ r d, tableAddressFault false (6 :: index :: record) = some (r, d) → refused (.routeWrite c index record) 6 r d) ∧
     (∀ r d, tableAddressFault false (7 :: index :: record) = some (r, d) →
       refused (.patternWrite c index record) 7 r d) ∧
     (∀ r d, tableAddressFault false (8 :: index :: record) = some (r, d) →
       refused (.settingsWrite c index record) 8 r d) ∧
     (∀ o, tableAddressFault false (1 :: index :: record) = none → readNode record = .error o →
       refused (.nodeWrite c index record) 1 .badField o) ∧
     (∀ o, tableAddressFault false (2 :: index :: record) = none → readButton record = .error o →
       refused (.buttonWrite c index record) 2 .badField o) ∧
     (∀ o, tableAddressFault false (3 :: index :: record) = none → readCue record = .error o →
       refused (.cueWrite c index record) 3 .badField o) ∧
     (∀ o, tableAddressFault false (4 :: index :: record) = none → readProfile record = .error o →
       refused (.profileWrite c index record) 4 .badField o) ∧
     (∀ o, tableAddressFault false (5 :: index :: record) = none →
       readModel (fun n => (s.node n).role == .drive) record = .error o →
       refused (.modelWrite c index record) 5 .badField o) ∧
     (∀ (code : Fin 15) o, index = byteOf code.val → tableAddressFault false (6 :: index :: record) = none →
       readRoute code record = .error o → refused (.routeWrite c index record) 6 .badField o) ∧
     (∀ o, tableAddressFault false (7 :: index :: record) = none → readPattern record = .error o →
       refused (.patternWrite c index record) 7 .badField o) ∧
     (∀ o, tableAddressFault false (8 :: index :: record) = none → readSettings record = .error o →
       refused (.settingsWrite c index record) 8 .badField o)) ∧
  (∀ (c : Sender) (s : State), s.carriesOut c = true →
     (∀ p r d, tableAddressFault true p = some (r, d) →
       exec (.tableRead c p) s = .next (settle (s.answeredWith c (replyAnswer 0x32 (byteAt p 0) (r, d))))) ∧
     (∀ (n : NodeId), exec (.tableRead c [1, addressOf n]) s =
       .next (settle (s.answeredWith c (0x42, [1, addressOf n] ++ (s.node n).bytes)))) ∧
     (∀ (i : EntryIx), exec (.tableRead c [2, byteOf i.val]) s =
       .next (settle (s.answeredWith c (0x42, [2, byteOf i.val] ++ s.buttonBytes i)))) ∧
     (∀ (q : CueId), exec (.tableRead c [3, byteOf q.val]) s =
       .next (settle (s.answeredWith c (0x42, [3, byteOf q.val] ++ cueBytes (s.cue q))))) ∧
     (∀ (p : ProfileId), exec (.tableRead c [4, byteOf p.val]) s =
       .next (settle (s.answeredWith c (0x42, [4, byteOf p.val] ++ profileBytes (s.profile p))))) ∧
     (∀ (m : ModelId), exec (.tableRead c [5, byteOf m.val]) s =
       .next (settle (s.answeredWith c (0x42, [5, byteOf m.val] ++ (s.model m).bytes)))) ∧
     (∀ (k : Fin 15), exec (.tableRead c [6, byteOf k.val]) s =
       .next (settle (s.answeredWith c (0x42, [6, byteOf k.val] ++ (s.route k).bytes)))) ∧
     (∀ (p : Fin 3), exec (.tableRead c [7, byteOf p.val]) s =
       .next (settle (s.answeredWith c (0x42, [7, byteOf p.val] ++ (tget s.alert.patterns p).bytes)))) ∧
     exec (.tableRead c [8, 0]) s = .next (settle (s.answeredWith c (0x42, [8, 0] ++ s.settings.bytes))) ∧
     (∀ p r d, tableAddressFault false p = some (r, d) →
       exec (.badTable c p) s = .next (settle (s.answeredWith c (writeReply (byteAt p 0) r d)))) ∧
     (∀ p, 3 ≤ p.length → (byteAt p 0 = 0 ∨ 8 < (byteAt p 0).toNat) →
       exec (.badTable c p) s = .next (settle (s.answeredWith c (writeReply (byteAt p 0) .badTable 0)))) ∧
     (∀ p, p.length < 3 → exec (.badTable c p) s =
       .next (settle (s.answeredWith c (writeReply (byteAt p 0) .badField 0xFFFF)))) ∧
     (∀ index record, 12 ≤ index.toNat → record ≠ [] → exec (.badTable c (5 :: index :: record)) s =
       .next (settle (s.answeredWith c (writeReply 5 .badIndex 0)))) ∧
     exec (.badCommand c []) s = .next (settle (s.answeredWith c (controlReply 0 .badCommand 0))) ∧
     (∀ code args, code = 0 ∨ 11 < code.toNat →
       exec (.badCommand c (code :: args)) s = .next (settle (s.answeredWith c (controlReply code .badCommand 0)))))

/-- R171, R173, R182: a command to the own bay that finds the reply FIFO full is not carried out and is counted
overrun; one to bay 31 is carried out all the same and puts nothing in the FIFO. -/
def Obligations.FullReplyFifoTurnsCommandsAway : Prop :=
  ∀ (c : Sender) (b : List Byte) (index : Byte) (s : State), s.running = true → c.all = false →
    4 ≤ s.relay.replyFifo.length →
    (∀ i ∈ [Instr.nodeWrite c index b, .buttonWrite c index b, .cueWrite c index b, .profileWrite c index b,
        .modelWrite c index b, .routeWrite c index b, .patternWrite c index b, .settingsWrite c index b,
        .tableRead c b, .enable c b, .disable c b, .commit c b, .cueStart c b, .cueStartScheduled c b, .cueStop c b,
        .mode c b, .showSync c b, .clearFault c b, .resume c b, .statusQuery c b, .statusQueryClear c b, .restart c b,
        .alertAck c b],
      exec i s = .next (settle { s with relay := { s.relay with
        spineCounters := { s.relay.spineCounters with overrun := oneMore s.relay.spineCounters.overrun } } })) ∧
    (∀ i, (i = .badTable c b ∧ (tableAddressFault false b).isSome = true) ∨
        (i = .badCommand c b ∧ (b = [] ∨ ∃ code args, b = code :: args ∧ (code = 0 ∨ 11 < code.toNat))) →
      exec i s = .next (settle { s with relay := { s.relay with
        spineCounters := { s.relay.spineCounters with overrun := oneMore s.relay.spineCounters.overrun } } })) ∧
    (∀ i ∈ [Instr.badTable { c with all := true } b, .tableRead { c with all := true } b,
        .statusQuery { c with all := true } b, .badCommand { c with all := true } b],
      exec i s = .next (settle s))

/-- R25, R27, R29, R144, R175, R178: an accepted CUE, PROFILE or PATTERN record replaces its entry and nothing else; a
cue or profile that a model in play uses is refused IN_USE. R175 stages 1 to 3, R176, R177: which of these records are
accepted, which fields are clamped and to what, and the offset of the first field at fault of the others. DESIGN
CHOICE: the length is tested last (log 19), and IN_USE has detail 0 (log 37). -/
def Obligations.CueProfileAndPatternWritesStore : Prop :=
  (∀ (c : Sender) (record : List Byte) (clamped : Bool) (s : State), s.carriesOut c = true → record ≠ [] →
    let reply := fun (id : Byte) => writeReply id (if clamped then .okClamped else .ok) 0
    (∀ (k : CueId) (q : Option Cue), readCue record = .ok (q, clamped) →
      ((∃ m p, (s.model m).inPlay = true ∧ (s.model m).position = some p ∧ p.cue = k) →
        exec (.cueWrite c (byteOf k.val) record) s = .next (settle (s.answeredWith c (writeReply 3 .inUse 0)))) ∧
      ((∀ m p, (s.model m).inPlay = true → (s.model m).position = some p → p.cue ≠ k) →
        exec (.cueWrite c (byteOf k.val) record) s = .next (settle (State.answeredWith c (reply 3)
          { s with motion := { s.motion with cues := tput s.motion.cues k q } })))) ∧
    (∀ (k : ProfileId) (q : Option Profile), readProfile record = .ok (q, clamped) →
      ((∃ m p u, (s.model m).inPlay = true ∧ (s.model m).position = some p ∧ s.cue p.cue = some u ∧
          .play k ∈ u.steps) →
        exec (.profileWrite c (byteOf k.val) record) s = .next (settle (s.answeredWith c (writeReply 4 .inUse 0)))) ∧
      ((∀ m p u, (s.model m).inPlay = true → (s.model m).position = some p → s.cue p.cue = some u →
          .play k ∉ u.steps) →
        exec (.profileWrite c (byteOf k.val) record) s = .next (settle (State.answeredWith c (reply 4)
          { s with motion := { s.motion with profiles := tput s.motion.profiles k q } })))) ∧
    (∀ (k : Fin 3) (p : Pattern), readPattern record = .ok (p, clamped) →
      exec (.patternWrite c (byteOf k.val) record) s = .next (settle (State.answeredWith c (reply 7)
        { s with alert := { s.alert with patterns := tput s.alert.patterns k p } })))) ∧
  (readCue [0] = .ok (none, false) ∧ readProfile [0] = .ok (none, false) ∧
    (∀ r, byteAt r 0 = 0 → r.length ≠ 1 → readCue r = .error 0xFFFF ∧ readProfile r = .error 0xFFFF) ∧
    (∀ d rest, 1 < d.toNat → readCue (d :: rest) = .error 0 ∧ readProfile (d :: rest) = .error 0) ∧
    (∀ n repeats finish rest,
      (n = 0 ∨ 8 < n.toNat → readCue (1 :: n :: repeats :: finish :: rest) = .error 1) ∧
      (1 ≤ n.toNat → n.toNat ≤ 8 → 1 < finish.toNat → readCue (1 :: n :: repeats :: finish :: rest) = .error 3)) ∧
    (∀ mode n rest,
      (1 < mode.toNat → readProfile (1 :: mode :: n :: rest) = .error 1) ∧
      (mode.toNat ≤ 1 → n = 0 ∨ 11 < n.toNat → readProfile (1 :: mode :: n :: rest) = .error 2)) ∧
    (∀ r, (r.length ≠ 4 + 2 * natAt r 1 → byteAt r 0 = 1 → ∃ o, readCue r = .error o) ∧
      (r.length ≠ 3 + 5 * natAt r 2 → byteAt r 0 = 1 → ∃ o, readProfile r = .error o))) ∧
  (∀ (repeats finish : Byte) (steps : List (Byte × Byte)), finish.toNat ≤ 1 → 1 ≤ steps.length → steps.length ≤ 8 →
    let record := fun (n : Byte) (l : List (Byte × Byte)) =>
      [1, byteOf l.length, n, finish] ++ l.flatMap fun p => [p.1, p.2]
    let repeats' := if repeats = 0 then 1 else if 15 < repeats.toNat then 15 else repeats
    let steps' := steps.map fun p => if p = (1, 0) then (1, 1) else p
    ((∀ p ∈ steps, (p.1 = 0 ∧ p.2.toNat ≤ 63) ∨ (p.1 = 1 ∧ p.2 ≠ 0)) → repeats' = repeats →
      ∃ q, readCue (record repeats steps) = .ok (some q, false)) ∧
    (repeats' ≠ repeats ∨ steps' ≠ steps →
      readCue (record repeats steps) = Staged.marked (readCue (record repeats' steps'))) ∧
    (∀ before kind v after, steps = before ++ (kind, v) :: after → (∀ p ∈ before, p.1.toNat ≤ 1) → 1 < kind.toNat →
      readCue (record repeats steps) = .error (BitVec.ofNat 16 (4 + 2 * before.length))) ∧
    (∀ before v after, steps = before ++ (0, v) :: after → (∀ p ∈ steps, p.1.toNat ≤ 1) →
      (∀ p ∈ before, p.1 = 1 ∨ p.2.toNat ≤ 63) → 63 < v.toNat →
      readCue (record repeats steps) = .error (BitVec.ofNat 16 (5 + 2 * before.length)))) ∧
  (∀ (mode : Byte) (segments : List (Half × Half × Byte)), mode.toNat ≤ 1 → 1 ≤ segments.length →
    segments.length ≤ 11 →
    let record := fun (l : List (Half × Half × Byte)) =>
      [1, mode, byteOf l.length] ++ l.flatMap fun g => le16 g.1 ++ le16 g.2.1 ++ [g.2.2]
    let segments' := segments.map fun g => if 10000 < g.1.toNat then (10000, g.2) else g
    ((∀ g ∈ segments, g.2.2.toNat ≤ 3) → segments' = segments →
      ∃ q, readProfile (record segments) = .ok (some q, false)) ∧
    (segments' ≠ segments → readProfile (record segments) = Staged.marked (readProfile (record segments'))) ∧
    (∀ before g after, segments = before ++ g :: after → (∀ x ∈ before, x.2.2.toNat ≤ 3) → 3 < g.2.2.toNat →
      readProfile (record segments) = .error (BitVec.ofNat 16 (7 + 5 * before.length)))) ∧
  (∀ on off chime tone : Byte,
    (chime.toNat ≤ 1 → tone.toNat ≤ 3 → ∃ p, readPattern [on, off, chime, tone] =
        .ok (p, decide (on = 0 ∨ off = 0)) ∧
      p.onTime = max 1 on.toNat ∧ p.offTime = max 1 off.toNat ∧ (p.chime = true ↔ chime = 1) ∧
      p.tone.code = tone.toNat) ∧
    (1 < chime.toNat → readPattern [on, off, chime, tone] = .error 2) ∧
    (chime.toNat ≤ 1 → 3 < tone.toNat → readPattern [on, off, chime, tone] = .error 3)) ∧
  (∀ r, r.length ≠ 4 → ∃ o, readPattern r = .error o)

/-- R163, R61, R83, R89, R117, R178: an accepted NODE record sets the four written fields and clears what the write
clears, each button of a recorded set that is emptied included; taking the role DRIVE from the drive node of a model
in service is refused IN_USE. DEDUCED (log 17): a write that keeps the role SENSOR and the same zone ownership leaves
the reported set. R175 stages 1 to 3, R176, R177: which NODE records are accepted, clamped and refused. DESIGN CHOICE:
the length is tested last (log 19), and IN_USE has detail 0 (log 37). -/
def Obligations.NodeWriteSetsUpTheNode : Prop :=
  (∀ (c : Sender) (n : NodeId) (record : List Byte) (f : NodeFields) (clamped : Bool) (s : State),
    s.carriesOut c = true → record ≠ [] → readNode record = .ok (f, clamped) →
    let old := s.node n
    let bound := ∃ m, (s.model m).state ≠ .disabled ∧ (s.model m).config.driveNode = some n
    (old.role = .drive → f.role ≠ .drive → bound →
      exec (.nodeWrite c (addressOf n) record) s = .next (settle (s.answeredWith c (writeReply 1 .inUse 0)))) ∧
    (¬ (old.role = .drive ∧ f.role ≠ .drive ∧ bound) → ∃ u : State,
      exec (.nodeWrite c (addressOf n) record) s =
        .next (settle (u.answeredWith c (writeReply 1 (if clamped then .okClamped else .ok) 0))) ∧
      u.node n = { old with
        role := f.role, timeout := f.timeout, policy := f.policy, zones := f.zones, helloSeen := false,
        silence := if (f.role = .panel ∨ f.role = .sensor ∨ f.role = .guest) ∧ f.timeout ≠ 0 then
          some (f.timeout * 100) else none } ∧
      (∀ k, k ≠ n → u.node k = s.node k) ∧
      u.marks (.nodeSilent n) = ⟨false, false, (s.marks (.nodeSilent n)).latched⟩ ∧
      tget u.press.recorded n = (if f.role = .panel then tget s.press.recorded n else 0) ∧
      tget u.press.dirty n = (if f.role ≠ .panel then false else if old.role = .panel then tget s.press.dirty n
        else true) ∧
      tget u.press.refresh n = (if f.role = .panel then tget s.press.refresh n else none) ∧
      tget u.sup.reported n = (if f.role ≠ .sensor then 0
        else if old.role = .sensor ∧ old.zones = f.zones then tget s.sup.reported n else f.zones) ∧
      (∀ k, k ≠ n → tget u.press.recorded k = tget s.press.recorded k ∧
        tget u.sup.reported k = tget s.sup.reported k) ∧
      u.relay.bayFifo = s.relay.bayFifo ∧ u.relay.replyFifo = s.relay.replyFifo ∧ u.settings = s.settings ∧
      u.pins = s.pins ∧ u.motion.clock = s.motion.clock ∧ u.motion.cues = s.motion.cues ∧
      (f.role ≠ .panel → ∀ k i b, k.node = n → s.entryOf k = some i → s.entry i = some b → s.Removed u k i b))) ∧
  (∀ role timeout policy zones : Byte,
    let record := [role, timeout, policy, zones]
    let short := role = 2 ∧ timeout = 0
    (4 < role.toNat → readNode record = .error 0) ∧
    (role.toNat ≤ 4 → 2 < policy.toNat → readNode record = .error 2) ∧
    (role.toNat ≤ 4 → policy.toNat ≤ 2 → zones ≠ 0 → role ≠ 3 → readNode record = .error 3) ∧
    (role.toNat ≤ 4 → policy.toNat ≤ 2 → zones = 0 ∨ role = 3 → ∃ f, readNode record = .ok (f, decide short) ∧
      f.role.code = role.toNat ∧ f.timeout = (if short then 1 else timeout.toNat) ∧ f.policy.code = policy.toNat ∧
      f.zones = zones)) ∧
  (∀ r, r.length ≠ 4 → ∃ o, readNode r = .error o)

/-- R62, R63, R82, R178: an accepted BUTTON record replaces its entry, with its run state set up afresh; a key that
stands in another entry is refused DUPLICATE and one that owns a cue or waits is refused IN_USE. R175 stages 1 to 3,
R176, R177: which BUTTON records are accepted, clamped and refused. DESIGN CHOICE: the length is tested last (log 19),
and IN_USE has detail 0 (log 37). DEDUCED (log 18): the acting-edge byte is tested in every mode. -/
def Obligations.ButtonWriteReplacesTheEntry : Prop :=
  (∀ (c : Sender) (i : EntryIx) (record : List Byte) (new : Option Button) (clamped : Bool) (s : State),
    s.carriesOut c = true → record ≠ [] → readButton record = .ok (new, clamped) →
    let taken := fun (j : EntryIx) => j ≠ i ∧ ∃ b e, new = some b ∧ s.entry j = some e ∧ e.key = b.key
    let inUse := ∃ e, s.entry i = some e ∧
      ∃ m, (s.model m).owner = some (.button e.key) ∨ ∃ r ∈ s.waits m, r.key = e.key
    (∀ j, taken j → (∀ k, k < j → ¬ taken k) →
      exec (.buttonWrite c (byteOf i.val) record) s =
        .next (settle (s.answeredWith c (writeReply 2 .duplicate (BitVec.ofNat 16 j.val))))) ∧
    ((∀ j, ¬ taken j) → inUse → exec (.buttonWrite c (byteOf i.val) record) s =
      .next (settle (s.answeredWith c (writeReply 2 .inUse 0)))) ∧
    ((∀ j, ¬ taken j) → ¬ inUse → ∃ u : State,
      exec (.buttonWrite c (byteOf i.val) record) s =
        .next (settle (u.answeredWith c (writeReply 2 (if clamped then .okClamped else .ok) 0))) ∧
      u.press.buttons = tput s.press.buttons i (new.map fun b => { b with
        downSince := if s.isDown b.key then some s.motion.clock else none
        stuckTimer := if s.isDown b.key then some (b.stuckLimit * 1000) else none }) ∧
      (∀ e, s.entry i = some e →
        u.marks (.buttonStuck e.key) = ⟨false, false, (s.marks (.buttonStuck e.key)).latched⟩) ∧
      (∀ e, s.entry i = some e → (∀ j b, u.entry j = some b → b.key ≠ e.key) → u.lamp e.key = .off) ∧
      (s.entry i = none → u.sup = s.sup) ∧
      u.motion = s.motion ∧ u.alert = s.alert ∧ u.relay = s.relay ∧ u.press.recorded = s.press.recorded ∧
      u.press.waits = s.press.waits ∧ u.press.tallies = s.press.tallies ∧ u.modeCtl = s.modeCtl ∧
      u.settings = s.settings)) ∧
  (readButton [0] = .ok (none, false) ∧ (∀ r, byteAt r 0 = 0 → r.length ≠ 1 → readButton r = .error 0xFFFF) ∧
    (∀ r, byteAt r 0 ≠ 0 → r.length ≠ 9 → ∃ o, readButton r = .error o) ∧
    (∀ d rest, 1 < d.toNat → readButton (d :: rest) = .error 0)) ∧
  (∀ node button mode acting model cue lockout stuck : Byte,
    let record := [1, node, button, mode, acting, model, cue, lockout, stuck]
    let onPanel := 1 ≤ node.toNat ∧ node.toNat ≤ 62
    (3 < mode.toNat → readButton record = .error 3) ∧
    (mode.toNat ≤ 3 → 1 < acting.toNat → readButton record = .error 4) ∧
    (mode.toNat ≤ 3 → acting.toNat ≤ 1 →
      (¬ onPanel → readButton record = .error 1) ∧
      (onPanel → 15 < button.toNat → readButton record = .error 2) ∧
      (onPanel → button.toNat ≤ 15 → mode ≠ 3 → 11 < model.toNat → readButton record = .error 5) ∧
      (onPanel → button.toNat ≤ 15 → mode ≠ 3 → model.toNat ≤ 11 → 31 < cue.toNat → readButton record = .error 6) ∧
      (onPanel → button.toNat ≤ 15 → mode = 3 ∨ (model.toNat ≤ 11 ∧ cue.toNat ≤ 31) →
        ∃ b, readButton record = .ok (some b, decide (stuck = 0)) ∧
          addressOf b.key.node = node ∧ byteOf b.key.button.val = button ∧ b.mode.code = mode.toNat ∧
          (b.acting = .down ↔ acting = 0) ∧ b.model = model ∧ b.cue = cue ∧ b.lockout = lockout.toNat ∧
          b.stuckLimit = max 1 stuck.toNat)))

/-- R127, R112, R113, R90: an accepted ROUTE record replaces its entry; a detect enable that changes makes the
conditions of its kind follow, and leaves every other mark as it is (here for a kind that reaches no zone and trips no
model). R176: the tier is clamped to 1 to 3 and the detect enables of DRIVE_SILENT (4) and STOP_KEY (7) are on
whatever is written; every record of 3 bytes is accepted. -/
def Obligations.RouteWriteReplacesTheRoute : Prop :=
  (∀ (c : Sender) (code : Fin 15) (record : List Byte) (r : Route) (clamped : Bool) (s : State),
    s.carriesOut c = true → record ≠ [] → readRoute code record = .ok (r, clamped) →
    (r.detect = (s.route code).detect →
      exec (.routeWrite c (byteOf code.val) record) s = .next (settle (State.answeredWith c
        (writeReply 6 (if clamped then .okClamped else .ok) 0)
        { s with alert := { s.alert with routes := tput s.alert.routes code r } }))) ∧
    (r.detect ≠ (s.route code).detect → ∃ u : State,
      exec (.routeWrite c (byteOf code.val) record) s =
        .next (settle (u.answeredWith c (writeReply 6 (if clamped then .okClamped else .ok) 0))) ∧
      u.alert.routes = tput s.alert.routes code r ∧
      (∀ id, id.kindCode = code → r.detect = false → (u.marks id).active = false) ∧
      (∀ id, id.kindCode = code → r.detect = true → (s.marks id).underlying = true →
        (id.tripModel = none ∨ id.byReport = true) →
        (u.marks id).active = true ∧
        (id.byReport = false → (s.marks id).active = false → (u.marks id).latched = true)) ∧
      (∀ id, id.kindCode ≠ code → (code = 6 ∨ code = 8 ∨ code = 10 ∨ 10 < code.val ∨ r.detect = false ∧ code.val ≤ 4) →
        u.marks id = s.marks id) ∧
      u.relay = s.relay ∧ u.settings = s.settings ∧ u.pins = s.pins ∧ u.motion.clock = s.motion.clock) ∧
    (code = 4 ∨ code = 7 → r.detect = true)) ∧
  (∀ (code : Fin 15) (flags tier escalation : Byte),
    let forced := code = 4 ∨ code = 7
    readRoute code [flags, tier, escalation] =
      .ok (⟨decide forced || flags.getLsbD 0, flags.getLsbD 1, flags.getLsbD 2, max 1 (min 3 tier.toNat),
          escalation.toNat⟩,
        decide (tier = 0 ∨ 3 < tier.toNat ∨ (forced ∧ flags.getLsbD 0 = false)))) ∧
  (∀ code r, r.length ≠ 3 → readRoute code r = .error 0xFFFF)

/-- R180, R30, R118, R154, R178: an accepted SETTINGS record is stored and each field takes effect: a new sample
period starts the sample timer, the spine-silence timer starts at its time, and a quiet bay's doze timer starts again.
A sample period cannot be changed while a model is in service (DESIGN CHOICE, log 37: IN_USE has detail 0). R176, R177:
the other fields are clamped to their ranges, and a sample period other than 5, 10 or 20 ms is refused. -/
def Obligations.SettingsWriteTakesEffect : Prop :=
  (∀ (c : Sender) (record : List Byte) (v : Settings) (clamped : Bool) (s : State),
    s.carriesOut c = true → record ≠ [] → readSettings record = .ok (v, clamped) →
    let inService := ∃ m, (s.model m).state ≠ .disabled
    (v.samplePeriod ≠ s.settings.samplePeriod → inService →
      exec (.settingsWrite c 0 record) s = .next (settle (s.answeredWith c (writeReply 8 .inUse 0)))) ∧
    (v.samplePeriod = s.settings.samplePeriod ∨ ¬ inService →
      let quiet := s.gallery = .opened ∧ (∀ m, (s.model m).state = .disabled ∨ (s.model m).state = .idle) ∧
        (∀ m, s.waits m = []) ∧ (∀ e ∈ s.motion.schedule, e.due = none) ∧ v.dozeTime ≠ 0
      ∃ u : State, exec (.settingsWrite c 0 record) s =
          .next (settle (u.answeredWith c (writeReply 8 (if clamped then .okClamped else .ok) 0))) ∧
        u.settings = v ∧
        u.motion = { s.motion with sampleTimer :=
          if v.samplePeriod = s.settings.samplePeriod then s.motion.sampleTimer else v.samplePeriod } ∧
        u.relay = { s.relay with
          spineSilence := if v.spineSilence = 0 then none else some (v.spineSilence * 1000) } ∧
        (quiet → u.modeCtl = { s.modeCtl with dozeTimer := some (v.dozeTime * 60000) }) ∧
        (¬ quiet → u.modeCtl = { s.modeCtl with dozeTimer := none }) ∧
        u.marks (.bay .spineSilent) = (if v.spineSilence = 0 then
          ⟨false, false, (s.marks (.bay .spineSilent)).latched⟩ else s.marks (.bay .spineSilent)) ∧
        (∀ id, id ≠ .bay .spineSilent → u.marks id = s.marks id) ∧
        u.alert = s.alert ∧ u.press = s.press ∧ u.pins = s.pins)) ∧
  (∀ period doze wake settle spine threshold : Byte,
    let record := [period, doze, wake, settle, spine, threshold]
    (period ≠ 5 → period ≠ 10 → period ≠ 20 → readSettings record = .error 0) ∧
    (period = 5 ∨ period = 10 ∨ period = 20 → readSettings record =
      .ok (⟨period.toNat, min 60 doze.toNat, max 5 (min 100 wake.toNat), min 100 settle.toNat, spine.toNat,
          max 1 threshold.toNat⟩,
        decide (60 < doze.toNat ∨ wake.toNat < 5 ∨ 100 < wake.toNat ∨ 100 < settle.toNat ∨ threshold = 0)))) ∧
  (∀ r, r.length ≠ 6 → readSettings r = .error 0xFFFF)

/-- R1, R22: an accepted MODEL record goes straight into the configured fields of a DISABLED model, and is staged for
any other; a staged record that names another drive node or axis is refused IN_USE. R175 to R177, R1: what each field
of a record is clamped to, when the record counts as clamped, and the first field at fault of one that is refused.
DESIGN CHOICE: a fault between two fields is named at the field that R177 names first (log 19), and IN_USE has detail 0
(log 37). -/
def Obligations.ModelWriteStoresOrStages : Prop :=
  (∀ (c : Sender) (m : ModelId) (record : List Byte) (s : State), s.carriesOut c = true → record ≠ [] →
    let x := s.model m
    (∀ o, readModel (fun n => (s.node n).role == .drive) record = .error o →
      exec (.modelWrite c (byteOf m.val) record) s =
        .next (settle (s.answeredWith c (writeReply 5 .badField o)))) ∧
    (∀ f clamped, readModel (fun n => (s.node n).role == .drive) record = .ok (f, clamped) →
      (x.state = .disabled → exec (.modelWrite c (byteOf m.val) record) s =
        .next (settle (State.answeredWith c (writeReply 5 (if clamped then .okClamped else .ok) 0)
          { s with motion := { s.motion with
            models := tput s.motion.models m { x with config := f, staged := none, commitPending := false } } }))) ∧
      (x.state ≠ .disabled → (f.driveNode ≠ x.config.driveNode ∨ f.axis ≠ x.config.axis) →
        exec (.modelWrite c (byteOf m.val) record) s =
          .next (settle (s.answeredWith c (writeReply 5 .inUse 0)))) ∧
      (x.state ≠ .disabled → f.driveNode = x.config.driveNode → f.axis = x.config.axis →
        exec (.modelWrite c (byteOf m.val) record) s =
          .next (settle (State.answeredWith c (writeReply 5 .staged (if clamped then 1 else 0))
            { s with motion := { s.motion with models := tput s.motion.models m { x with staged := some f } } }))))) ∧
  (∀ isDrive r, r.length ≠ 31 → readModel isDrive r = .error 0xFFFF) ∧
  (∀ (isDrive : NodeId → Bool) (r : List Byte), r.length = 31 →
    let n := fun (i : Nat) => natAt r i
    let h := fun (i : Nat) => (halfAt r i).toNat
    let p := fun (i : Nat) => (halfAt r i).toInt
    let alarm := min 1023 (h 20)
    let trip := min 1023 (h 22)
    let release := min 1023 (h 24)
    let bound := ∃ k : NodeId, addressOf k = byteAt r 0 ∧ isDrive k = true
    let onAxis := n 1 ≤ 1
    let travels := p 2 < p 4
    let homes := p 2 ≤ p 6 ∧ p 6 ≤ p 4
    let loads := alarm ≤ trip
    (¬ bound → readModel isDrive r = .error 0) ∧
    (bound → ¬ onAxis → readModel isDrive r = .error 1) ∧
    (bound → onAxis → ¬ travels → readModel isDrive r = .error 2) ∧
    (bound → onAxis → travels → ¬ homes → readModel isDrive r = .error 6) ∧
    (bound → onAxis → travels → homes → ¬ loads → readModel isDrive r = .error 20) ∧
    (bound → onAxis → travels → homes → loads → trip ≤ release → readModel isDrive r = .error 24) ∧
    (bound → onAxis → travels → homes → loads → release < trip → ∃ f clamped, readModel isDrive r = .ok (f, clamped) ∧
      (∃ k, f.driveNode = some k ∧ addressOf k = byteAt r 0) ∧ f.axis.val = n 1 ∧
      f.travelMin = p 2 ∧ f.travelMax = p 4 ∧ f.home = p 6 ∧
      f.rateLimit = max 1 (min 4095 (h 8)) ∧ f.returnRate = max 1 (min 4095 (h 10)) ∧
      f.leadOffset = (byteAt r 12).toInt ∧ f.dwellOffset = (byteAt r 13).toInt ∧
      f.tailOffset = (byteAt r 14).toInt ∧
      f.followLimit = max 1 (min 32767 (h 15)) ∧ f.followCount = max 1 (min 15 (n 17)) ∧
      f.feedbackLag = min 7 (n 18) ∧
      f.loadDepth = (if n 19 ≤ 1 then 1 else if n 19 ≤ 3 then 2 else if n 19 ≤ 7 then 4 else 8) ∧
      f.loadAlarm = alarm ∧ f.loadTrip = trip ∧ f.loadRelease = release ∧ f.zoneMask = byteAt r 26 ∧
      f.holdLimit = max 1 (n 27) ∧ f.pauseWindow = max 1 (min 60 (n 28)) ∧ f.waitDepth = min 4 (n 29) ∧
      f.maxWaitAge = max 5 (n 30) ∧
      (clamped = false ↔ 1 ≤ h 8 ∧ h 8 ≤ 4095 ∧ 1 ≤ h 10 ∧ h 10 ≤ 4095 ∧ 1 ≤ h 15 ∧ h 15 ≤ 32767 ∧ 1 ≤ n 17 ∧
        n 17 ≤ 15 ∧ n 18 ≤ 7 ∧ n 19 ∈ [1, 2, 4, 8] ∧ h 20 ≤ 1023 ∧ h 22 ≤ 1023 ∧ h 24 ≤ 1023 ∧ 1 ≤ n 27 ∧
        1 ≤ n 28 ∧ n 28 ≤ 60 ∧ n 29 ≤ 4 ∧ 5 ≤ n 30)))

/-! ### Commands from the control room -/

/-- R19, R92, R102, R103: ENABLE decides by its tests in order; the last of them takes the model into ENABLING with its
run state set up. R181: an argument that is no model is refused. Here the bay is not WAKING. -/
def Obligations.EnableSetsUpTheModel : Prop :=
  ∀ (c : Sender) (m : ModelId) (s : State), s.carriesOut c = true →
    let x := s.model m
    let reply := fun (r : Result) => exec (.enable c [byteOf m.val]) s =
      .next (settle (s.answeredWith c (controlReply 0x01 r 0)))
    let isDrive := ∃ n, x.config.driveNode = some n ∧ (s.node n).role = .drive
    let taken := ∃ k, k ≠ m ∧ (s.model k).state ≠ .disabled ∧
      (s.model k).config.driveNode = x.config.driveNode ∧ (s.model k).config.axis = x.config.axis
    let latched := ∃ k : ModelKind, k ≠ .loadAlarm ∧ (s.marks (.model k m)).latched = true
    (x.state ≠ .disabled → reply .ok) ∧
    (x.state = .disabled → ¬ isDrive → reply .notConfigured) ∧
    (x.state = .disabled → isDrive → taken → reply .inUse) ∧
    (x.state = .disabled → isDrive → ¬ taken → latched → reply .faultLatched) ∧
    (∀ n, x.state = .disabled → x.config.driveNode = some n → isDrive → ¬ taken → ¬ latched → s.gallery ≠ .waking →
      ∃ u : State, exec (.enable c [byteOf m.val]) s = .next (settle (u.answeredWith c (controlReply 0x01 .ok 0))) ∧
        u.model m = { x with
          state := .enabling, holdZone := false, holdPause := false, target := none, owner := none, position := none,
          pauseTimer := none, lastSetpoint := x.config.home, history := List.replicate 8 x.config.home,
          fedBack := none, loads := [], run := 0, flagSeen := false } ∧
        (u.watch m).driveSilence = some ((s.node n).timeout * 100) ∧ (u.watch m).energised = false ∧
        (u.watch m).maskOccupied = s.maskOccupied x.config.zoneMask ∧
        (∀ k, k ≠ m → u.model k = s.model k ∧ u.watch k = s.watch k) ∧
        u.alert = s.alert ∧ u.press = s.press ∧ u.relay = s.relay ∧ u.sup.zones = s.sup.zones ∧
        u.gallery = s.gallery ∧ u.motion.schedule = s.motion.schedule ∧ u.settings = s.settings) ∧
    (∀ args, (∀ k : ModelId, args ≠ [byteOf k.val]) → exec (.enable c args) s =
      .next (settle (s.answeredWith c (controlReply 0x01 .badField 0))))

/-- R21, R105, R75: DISABLE takes a model out of service: it loses its cue, its staged record, its schedule entry and its
wait list, no condition of its kinds stays active, and its latches stay. Here the bay is not WAKING. -/
def Obligations.DisableTakesTheModelOutOfService : Prop :=
  ∀ (c : Sender) (m : ModelId) (s : State), s.carriesOut c = true →
    let x := s.model m
    (x.state = .disabled → exec (.disable c [byteOf m.val]) s =
      .next (settle (s.answeredWith c (controlReply 0x02 .ok 0)))) ∧
    (x.state ≠ .disabled → s.gallery ≠ .waking →
      ∃ u : State, exec (.disable c [byteOf m.val]) s = .next (settle (u.answeredWith c (controlReply 0x02 .ok 0))) ∧
        u.model m = { x with
          state := .disabled, owner := none, position := none, holdZone := false, holdPause := false, target := none,
          pauseTimer := none, staged := none, commitPending := false, run := 0 } ∧
        u.waits m = [] ∧
        u.press.tallies = { s.press.tallies with
          flushed := min 4294967295 (s.press.tallies.flushed + (s.waits m).length) } ∧
        u.motion.schedule = s.motion.schedule.filter (fun e => e.model != m) ∧
        (∀ k, u.marks (.model k m) = ⟨false, false, (s.marks (.model k m)).latched⟩) ∧
        u.watch m = { s.watch m with
          maskOccupied := false, driveSilence := none,
          holdTimer := if x.zoneHeld then none else (s.watch m).holdTimer } ∧
        (∀ k, k ≠ m → u.model k = s.model k ∧ u.watch k = s.watch k ∧ u.waits k = s.waits k) ∧
        u.alert = s.alert ∧ u.relay = s.relay ∧ u.press.buttons = s.press.buttons ∧ u.sup.zones = s.sup.zones ∧
        u.gallery = s.gallery ∧ u.settings = s.settings) ∧
    (∀ args, (∀ k : ModelId, args ≠ [byteOf k.val]) → exec (.disable c args) s =
      .next (settle (s.answeredWith c (controlReply 0x02 .badField 0))))

/-- R23, R75: COMMIT applies a staged record that fits to an IDLE model, refuses one that does not, and waits for IDLE in
every other state in service. Here the new mask keeps the model's mask-occupied mark as it is. -/
def Obligations.CommitAppliesAtIdle : Prop :=
  ∀ (c : Sender) (m : ModelId) (f : ModelConfig) (s : State), s.carriesOut c = true →
    let x := s.model m
    let reply := fun (r : Result) (u : State) => exec (.commit c [byteOf m.val]) s =
      .next (settle (u.answeredWith c (controlReply 0x03 r 0)))
    let fits := f.travelMin ≤ x.lastSetpoint ∧ x.lastSetpoint ≤ f.travelMax ∧ f.travelMin ≤ f.home ∧
      f.home ≤ f.travelMax
    (x.staged = none ∨ x.state = .disabled → reply .nothingStaged s) ∧
    (x.staged = some f → x.state = .idle → ¬ fits → reply .outOfRange s) ∧
    (x.staged = some f → x.state ≠ .disabled → x.state ≠ .idle →
      reply .pending { s with motion := { s.motion with
        models := tput s.motion.models m { x with commitPending := true } } }) ∧
    (x.staged = some f → x.state = .idle → fits → s.maskOccupied f.zoneMask = (s.watch m).maskOccupied →
      ∃ u : State, reply .ok u ∧
        u.model m = { x with config := f, staged := none, run := 0 } ∧
        u.waits m = (s.waits m).take f.waitDepth ∧
        u.press.tallies = { s.press.tallies with
          flushed := min 4294967295 (s.press.tallies.flushed + ((s.waits m).length - f.waitDepth)) } ∧
        (∀ k, k ≠ m → u.model k = s.model k ∧ u.waits k = s.waits k) ∧
        u.alert = s.alert ∧ u.relay = s.relay ∧ u.press.buttons = s.press.buttons ∧ u.sup.watch = s.sup.watch ∧
        u.gallery = s.gallery ∧ u.motion.schedule = s.motion.schedule ∧ u.settings = s.settings) ∧
    (∀ args, (∀ k : ModelId, args ≠ [byteOf k.val]) → exec (.commit c args) s =
      .next (settle (s.answeredWith c (controlReply 0x03 .badField 0))))

/-- R6, R51, R33: a CUE_START without a start time is decided by the tests of R6 in order, and starts its cue for CONTROL
when none of them refuses. -/
def Obligations.CueStartIsDecidedAtOnce : Prop :=
  ∀ (c : Sender) (m : ModelId) (q : CueId) (late : Byte) (s : State), s.carriesOut c = true →
    let x := s.model m
    let args := [byteOf m.val, byteOf q.val, late]
    let reply := fun (r : Result) => exec (.cueStart c args) s =
      .next (settle (s.answeredWith c (controlReply 0x04 r 0)))
    let open' := s.gallery = .opened ∨ s.gallery = .service
    let valid := ∃ u, s.cue q = some u ∧ ∀ p, .play p ∈ u.steps → (s.profile p).isSome = true
    let blocked := s.maskOccupied x.config.zoneMask = true ∨ s.sup.stopAsserted = true
    ((x.state = .disabled ∨ x.state = .enabling ∨ x.state = .stopped ∨ x.state = .faulted) → reply .notReady) ∧
    ((x.state = .running ∨ x.state = .holding ∨ x.state = .returning) → reply .busy) ∧
    (x.state = .idle → ¬ open' → reply .mode) ∧
    (x.state = .idle → open' → ¬ valid → reply .cueInvalid) ∧
    (x.state = .idle → open' → valid → blocked → reply .blocked) ∧
    (x.state = .idle → open' → valid → ¬ blocked → x.flagSeen = false →
      exec (.cueStart c args) s = .next (settle (State.answeredWith c (controlReply 0x04 .ok 0)
        { s with
          motion := { s.motion with models := tput s.motion.models m { x with
            state := .running, owner := some .control
            position := some (s.startPosition x.config q x.lastSetpoint) } }
          modeCtl := { s.modeCtl with dozeTimer := none } }))) ∧
    (x.state = .idle → open' → valid → ¬ blocked → x.flagSeen = true →
      exec (.cueStart c args) s =
        .next (settle ((driveReport m s).answeredWith c (controlReply 0x04 .faultLatched 0)))) ∧
    (∀ bad, bad.length ≠ 3 ∨ 12 ≤ natAt bad 0 ∨ 32 ≤ natAt bad 1 → exec (.cueStart c bad) s =
      .next (settle (s.answeredWith c (controlReply 0x04 .badField 0))))

/-- R26, R33, R35, R36, R37: how a cue's position is set up and what a segment's working values are. -/
def Obligations.SegmentsBeginWithTheirWorkingValues : Prop :=
  (∀ (s : State) (f : ModelConfig) (k : ProfileId) (p : Profile) (g : Segment) (pos : CuePosition),
    s.profile k = some p → p.segments[pos.segment]? = some g →
    let o : Int := match g.stretch with
      | .none => 0
      | .lead => f.leadOffset
      | .dwell => f.dwellOffset
      | .tail => f.tailOffset
    let begun := s.beginSegment f (.play k) pos
    (0 < (g.duration : Int) + 10 * o → (begun.duration : Int) = g.duration + 10 * o) ∧
    ((g.duration : Int) + 10 * o ≤ 0 → begun.duration = 0) ∧
    (g.duration ≤ 10000 → -128 ≤ o → o ≤ 127 → begun.duration ≤ 11270) ∧
    (p.mode = .abs → begun.segEnd = g.target) ∧
    (p.mode = .rel → begun.segEnd = if 32767 < pos.stepStart + g.target then 32767
      else if pos.stepStart + g.target < -32768 then -32768 else pos.stepStart + g.target) ∧
    begun.segStart = (if pos.segment = 0 then pos.stepStart else pos.segEnd) ∧
    begun.elapsed = pos.elapsed ∧ begun.stepStart = pos.stepStart ∧ begun.cue = pos.cue ∧
    begun.repeats = pos.repeats ∧ begun.step = pos.step ∧ begun.segment = pos.segment) ∧
  (∀ (s : State) (f : ModelConfig) (n : Nat) (pos : CuePosition),
    s.beginSegment f (.dwell n) pos =
      { pos with duration := 100 * n, segStart := pos.stepStart, segEnd := pos.stepStart }) ∧
  (∀ (s : State) (f : ModelConfig) (q : CueId) (u : Cue) (last : Int), s.cue q = some u →
    let pos := s.startPosition f q last
    pos.cue = q ∧ pos.repeats = u.repeats ∧ pos.step = 0 ∧ pos.segment = 0 ∧ pos.elapsed = 0 ∧ pos.stepStart = last ∧
    (∀ first rest, u.steps = first :: rest → pos = s.beginSegment f first
      { cue := q, repeats := u.repeats, step := 0, segment := 0, elapsed := 0, stepStart := last, duration := 0,
        segStart := last, segEnd := last }))

/-- R53, R52, R51: a CUE_START with a start time not yet reached is placed in start-time order; one for a model
already listed replaces its entry; a DISABLED model and a full list refuse it, and so does a cue above 31 (DESIGN
CHOICE, log 34: these with detail 0). For a model above 11 and a wrong argument count R181 states the 0.
R54, R55, R57: an entry whose start time is already reached becomes due at once: it starts its cue, or stays due, or
with a late limit of 0 is missed; the reply is the same. -/
def Obligations.ScheduledStartIsListed : Prop :=
  ∀ (c : Sender) (m : ModelId) (q : CueId) (late : Byte) (start : Clock) (s : State), s.carriesOut c = true →
    let args := [byteOf m.val, byteOf q.val, late] ++ le32 start
    let listed := ∃ e ∈ s.motion.schedule, e.model = m
    let wait := fun (x : Clock) => (x - s.motion.clock).toNat
    ((s.model m).state = .disabled → exec (.cueStartScheduled c args) s =
      .next (settle (s.answeredWith c (controlReply 0x04 .notReady 0)))) ∧
    ((s.model m).state ≠ .disabled → ¬ listed → 8 ≤ s.motion.schedule.length → exec (.cueStartScheduled c args) s =
      .next (settle (s.answeredWith c (controlReply 0x04 .listFull 0)))) ∧
    ((s.model m).state ≠ .disabled → ¬ listed → s.motion.schedule.length < 8 → ¬ (s.motion.clock - start).toNat < 2 ^ 31 →
      ∀ before after, s.motion.schedule = before ++ after →
        (∀ e ∈ before, e.due.isSome = true ∨ wait e.start ≤ wait start) →
        (∀ e rest, after = e :: rest → e.due = none ∧ wait start < wait e.start) →
        exec (.cueStartScheduled c args) s = .next (settle (State.answeredWith c
          (controlReply 0x04 .ok (BitVec.ofNat 16 (s.motion.schedule.length + 1)))
          { s with motion := { s.motion with
            schedule := before ++ ⟨m, q, start, late.toNat, none⟩ :: after } }))) ∧
    ((s.model m).state ≠ .disabled → listed → ¬ (s.motion.clock - start).toNat < 2 ^ 31 → ∃ u : State,
      exec (.cueStartScheduled c args) s = .next (settle (u.answeredWith c (controlReply 0x04 .replaced
        (BitVec.ofNat 16 ((s.motion.schedule.filter fun e => e.model != m).length + 1))))) ∧
      u.motion.schedule.filter (fun e => e.model != m) = s.motion.schedule.filter (fun e => e.model != m) ∧
      u.motion.schedule.filter (fun e => e.model == m) = [⟨m, q, start, late.toNat, none⟩] ∧
      u.motion.models = s.motion.models ∧ u.alert = s.alert ∧ u.press = s.press ∧ u.relay = s.relay ∧
      u.sup = s.sup) ∧
    ((s.model m).state ≠ .disabled → listed ∨ s.motion.schedule.length < 8 → (s.motion.clock - start).toNat < 2 ^ 31 →
      s.ScheduleWf →
      let others := s.motion.schedule.filter fun e => e.model != m
      let x := s.model m
      let starts := s.startable m .control = true
      ∃ u : State, exec (.cueStartScheduled c args) s = .next (settle (u.answeredWith c
          (replyAnswer 0x33 0x04 (if s.motion.schedule.any fun e => e.model == m then .replaced else .ok,
            BitVec.ofNat 16 (others.length + 1))))) ∧
        (starts → s.cueValid q = true → x.flagSeen = false →
          u.motion = { s.motion with
            schedule := others
            models := tput s.motion.models m { x with
              state := .running, owner := some .control
              position := some (s.startPosition x.config q x.lastSetpoint) } } ∧
          u.alert = s.alert ∧ u.press = s.press ∧ u.sup = s.sup) ∧
        (starts → s.cueValid q = false →
          u.motion = { s.motion with schedule := others } ∧ u.alert = (raise (.startMissed m) s).alert ∧
          u.press = s.press ∧ u.sup = s.sup) ∧
        (¬ starts → s.gallery ≠ .doze → late ≠ 0 →
          u.motion = { s.motion with schedule := (others.filter fun e => e.due.isSome) ++
            ⟨m, q, start, late.toNat, some (late.toNat * 1000)⟩ :: others.filter fun e => e.due.isNone } ∧
          u.alert = s.alert ∧ u.press = s.press ∧ u.sup = s.sup) ∧
        (¬ starts → s.gallery ≠ .doze → late = 0 →
          u.motion = { s.motion with schedule := others } ∧ u.alert = (raise (.startMissed m) s).alert ∧
          u.press = s.press ∧ u.sup = s.sup)) ∧
    (∀ bad, bad.length ≠ 7 ∨ 12 ≤ natAt bad 0 ∨ 32 ≤ natAt bad 1 → exec (.cueStartScheduled c bad) s =
      .next (settle (s.answeredWith c (controlReply 0x04 .badField 0))))

/-- R10, R58, R13, R94: a cut ends a cue in play and leaves every other model alone: by CUE_STOP, at the end of the
pause window, and at the hold limit, which also raises HOLD_LIMIT. DESIGN CHOICE (log 3): an expiry acts while its
timer runs, and a stopped timer has no effect. -/
def Obligations.CutsEndTheCue : Prop :=
  ∀ (m : ModelId) (s : State),
    let x := s.model m
    let after := { s with motion := { s.motion with models := tput s.motion.models m x.asCut } }
    (∀ c, s.carriesOut c = true →
      (x.state = .running ∨ (x.state = .holding ∧ x.target = some .cue) →
        exec (.cueStop c [byteOf m.val]) s = .next (settle (after.answeredWith c (controlReply 0x05 .ok 0)))) ∧
      (¬ (x.state = .running ∨ (x.state = .holding ∧ x.target = some .cue)) →
        exec (.cueStop c [byteOf m.val]) s = .next (settle (s.answeredWith c (controlReply 0x05 .notRunning 0)))) ∧
      (∀ args, (∀ k : ModelId, args ≠ [byteOf k.val]) → exec (.cueStop c args) s =
        .next (settle (s.answeredWith c (controlReply 0x05 .badField 0))))) ∧
    (s.running = true → x.pauseTimer = none → exec (.pauseWindowExpiry m) s = .next (settle s)) ∧
    (s.running = true → x.pauseTimer.isSome = true → x.state = .holding →
      exec (.pauseWindowExpiry m) s = .next (settle after)) ∧
    (s.running = true → (s.watch m).holdTimer = none → exec (.holdLimitExpiry m) s = .next (settle s)) ∧
    (s.running = true → (s.watch m).holdTimer.isSome = true → x.state = .holding → x.holdZone = true →
      exec (.holdLimitExpiry m) s = .next (settle { raise (.holdLimit m) s with
        motion := after.motion
        sup := { s.sup with watch := tput s.sup.watch m { s.watch m with holdTimer := none } } }))

/-- R149, R150, R151, R152, R153, R156, R157, R75, R97, R181: MODE answers with the code of the mode after the
command, a code that is refused included; CLOSED and SERVICE empty every wait list, CLOSED and DOZE cut every cue and
SERVICE the visitors' cues; OPEN frees each startable IDLE model, and in DOZE it wakes the bay, which opens at once
where every drive is energised already. DEDUCED (log 21): MODE OPEN taken in OPEN sends the notices again. -/
def Obligations.ModeCommandChangesTheMode : Prop :=
  ∀ (c : Sender) (s : State), s.carriesOut c = true →
    let sent := fun (code : Byte) (u : State) (r : Result) => exec (.mode c [code]) s =
      .next (settle (u.answeredWith c (controlReply 0x06 r (BitVec.ofNat 16 u.gallery.code))))
    let rested := fun (x : Model) => if x.state = .idle then { x with run := 0 } else x
    let opens := fun (u : State) =>
      u.gallery = .opened ∧ u.modeCtl.wakeTimer = none ∧ u.relay = s.relay ∧
      ((∀ m, (s.model m).flagSeen = false) → u.press.waits = s.press.waits) ∧
      (∀ m, (s.model m).state ≠ .idle → u.model m = s.model m) ∧
      (∀ m, (s.model m).state = .idle →
        s.maskOccupied (s.model m).config.zoneMask = true ∨ s.sup.stopAsserted = true →
        u.model m = s.model m ∧ (m ∈ u.motion.freeNotices ↔ m ∈ s.motion.freeNotices)) ∧
      (∀ m, (s.model m).state = .idle → s.maskOccupied (s.model m).config.zoneMask = false →
        s.sup.stopAsserted = false → (∀ e ∈ s.motion.schedule, e.model = m → e.due = none) →
        u.model m = s.model m ∧ m ∈ u.motion.freeNotices)
    (∃ u : State, sent 0 u .ok ∧ u.gallery = .closed ∧ u.modeCtl = ⟨.closed, none, none⟩ ∧ (∀ m, u.waits m = []) ∧
      (∀ m, u.model m = if (s.model m).inPlay then (s.model m).asCut else rested (s.model m)) ∧
      u.alert = s.alert ∧ u.relay = s.relay ∧ u.motion.schedule = s.motion.schedule ∧
      u.press.buttons = s.press.buttons) ∧
    (s.gallery = .opened → ∃ u : State, sent 2 u .ok ∧ u.modeCtl = { s.modeCtl with mode := .doze, dozeTimer := none } ∧
      (∀ m, u.model m = if (s.model m).inPlay then (s.model m).asCut else rested (s.model m)) ∧
      u.alert = s.alert ∧ u.relay = s.relay ∧ u.press = s.press ∧ u.motion.schedule = s.motion.schedule) ∧
    (s.gallery ≠ .opened → sent 2 s .mode) ∧
    (∃ u : State, sent 4 u .ok ∧ u.modeCtl = ⟨.service, none, none⟩ ∧ (∀ m, u.waits m = []) ∧
      (∀ m k, (s.model m).owner = some (.button k) → (s.model m).inPlay = true → u.model m = (s.model m).asCut) ∧
      (∀ m, (s.model m).owner = some .control → (s.model m).state ≠ .idle → u.model m = s.model m) ∧
      u.relay = s.relay ∧ u.press.buttons = s.press.buttons) ∧
    ((s.gallery = .closed ∨ s.gallery = .service ∨ s.gallery = .opened) → ∃ u : State, sent 1 u .ok ∧ opens u) ∧
    (s.gallery = .doze → (∀ m, (s.model m).state = .disabled ∨ (s.watch m).energised = true) →
      ∃ u : State, sent 1 u .pending ∧ opens u) ∧
    (s.gallery = .doze → (∃ m, (s.model m).state ≠ .disabled ∧ (s.watch m).energised = false) →
      sent 1 { s with modeCtl := ⟨.waking, none, some (s.settings.wakeLimit * 100)⟩ } .pending) ∧
    (s.gallery = .waking → sent 1 s .pending) ∧
    (∀ code : Byte, code = 3 ∨ 4 < code.toNat → sent code s .badField) ∧
    (∀ args, args.length ≠ 1 → exec (.mode c args) s =
      .next (settle (s.answeredWith c (controlReply 0x06 .badField 0))))

/-- R50, R54, R55, R57, R156, R157: SHOW_SYNC sets the clock and makes the entries it reaches due; an entry whose time
has come starts its cue, or stays due, or with a late limit of 0 is missed, and in DOZE it wakes the bay; a late
countdown that ends removes its entry and raises START_MISSED. DESIGN CHOICE: one SCHEDULE_ENTRY_DUE takes the first
entry that the clock has reached, and with none reached it changes nothing (log 10, log 4); a countdown that does not
run does not end (log 3). DEDUCED (log 15): an entry with a late limit of 0 is missed before its wake can end. -/
def Obligations.ScheduleEntriesComeDue : Prop :=
  ∀ (s : State),
    (∀ c v, s.carriesOut c = true → (∀ e ∈ s.motion.schedule, e.due = none → ¬ (v - e.start).toNat < 2 ^ 31) →
      exec (.showSync c (le32 v)) s = .next (settle (State.answeredWith c (controlReply 0x07 .ok 0)
        { s with motion := { s.motion with clock := v } }))) ∧
    (∀ c v, s.carriesOut c = true → ∃ u : State, exec (.showSync c (le32 v)) s =
        .next (settle (u.answeredWith c (controlReply 0x07 .ok 0))) ∧ u.motion.clock = v ∧
      (s.ScheduleWf → ∀ e ∈ u.motion.schedule, e.due = none → e ∈ s.motion.schedule ∧ ¬ (v - e.start).toNat < 2 ^ 31) ∧
      u.settings = s.settings ∧ u.relay = s.relay) ∧
    (∀ c args, s.carriesOut c = true → args.length ≠ 4 → exec (.showSync c args) s =
      .next (settle (s.answeredWith c (controlReply 0x07 .badField 0)))) ∧
    (s.running = true → s.NoneOverdue → exec .scheduleEntryDue s = .next (settle s)) ∧
    (∀ before e after, s.running = true → s.ScheduleWf → s.motion.schedule = before ++ e :: after → e.due = none →
      (s.motion.clock - e.start).toNat < 2 ^ 31 →
      (∀ x ∈ before, x.due = none → ¬ (s.motion.clock - x.start).toNat < 2 ^ 31) →
      let m := e.model
      let x := s.model m
      let others := before ++ after
      let stays := if e.lateLimit = 0 then others
        else (others.filter fun y => y.due.isSome) ++ { e with due := some (e.lateLimit * 1000) } ::
          others.filter fun y => y.due.isNone
      let started := { s.motion with
        schedule := others
        models := tput s.motion.models m { x with
          state := .running, owner := some .control
          position := some (s.startPosition x.config e.cue x.lastSetpoint) } }
      let missed := raise (.startMissed m) s
      ∃ t, exec .scheduleEntryDue s = .next t ∧
        (s.startable m .control = true → s.cueValid e.cue = true → x.flagSeen = false →
          t.motion = started ∧ t.sup = s.sup ∧ t.steady.alert = s.steady.alert ∧ t.press.waits = s.press.waits) ∧
        (s.startable m .control = true → s.cueValid e.cue = true → x.flagSeen = true → e.lateLimit ≠ 0 →
          t.motion.schedule = stays ∧ (t.marks (.model .driveReport m)).latched = true ∧
          ((s.marks (.model .driveReport m)).latched = false → (t.model m).state = .faulted)) ∧
        (s.startable m .control = true → s.cueValid e.cue = false →
          t.motion = { s.motion with schedule := others } ∧ t.sup = s.sup ∧
          t.steady.alert = missed.steady.alert ∧ t.press.waits = s.press.waits) ∧
        (s.startable m .control = false → s.gallery ≠ .doze →
          t.motion = { s.motion with schedule := stays } ∧ t.gallery = s.gallery ∧ t.sup = s.sup ∧
          t.steady.alert = (if e.lateLimit = 0 then missed else s).steady.alert ∧ t.press.waits = s.press.waits) ∧
        (s.gallery = .doze → (∃ k, (s.model k).state ≠ .disabled ∧ (s.watch k).energised = false) →
          t.motion = { s.motion with schedule := stays } ∧ t.sup = s.sup ∧
          t.modeCtl = ⟨.waking, none, some (s.settings.wakeLimit * 100)⟩ ∧
          t.steady.alert = (if e.lateLimit = 0 then missed else s).steady.alert ∧ t.press.waits = s.press.waits) ∧
        (s.gallery = .doze → (∀ k, (s.model k).state = .disabled ∨ (s.watch k).energised = true) →
          (∀ y ∈ others, y.due = none) →
          t.gallery = .opened ∧ t.modeCtl.wakeTimer = none ∧
          (e.lateLimit = 0 → t.motion.schedule = others ∧ t.motion.models = s.motion.models ∧
            t.steady.alert = missed.steady.alert) ∧
          (e.lateLimit ≠ 0 → x.state = .idle → s.maskOccupied x.config.zoneMask = false → s.sup.stopAsserted = false →
            s.cueValid e.cue = true → x.flagSeen = false →
            t.motion = { started with freeNotices := s.motion.freeNotices ++ allModels.filter fun j =>
              j != m && (s.model j).state == .idle && !s.maskOccupied (s.model j).config.zoneMask } ∧
            t.steady.alert = s.steady.alert) ∧
          t.press.waits = s.press.waits)) ∧
    (∀ m, s.running = true → (∀ e ∈ s.motion.schedule, e.model = m → e.due = none) →
      exec (.lateCountdownExpiry m) s = .next (settle s)) ∧
    (∀ m, s.running = true → (∃ e ∈ s.motion.schedule, e.model = m ∧ e.due.isSome = true) →
      ∃ t, exec (.lateCountdownExpiry m) s = .next t ∧
        t.motion = { s.motion with schedule := s.motion.schedule.filter fun e => e.model != m } ∧
        t.steady.alert = (raise (.startMissed m) s).steady.alert ∧ t.sup = s.sup ∧ t.press.waits = s.press.waits)

/-- R121: which entries a kind and a subject name: a single latching kind with ANY or with a subject of its type, a
bay kind with any subject, ALL with ANY or with a typed subject; everything else is refused. DEDUCED (log 31): the
second byte of a subject is tested. R122, R123, R142: CLEAR_FAULT clears the named latches whose conditions are
inactive and leaves the others, its reply counts them, no other mark changes but those of FOLLOW, and a model that
loses its last trip latch leaves FAULTED. -/
def Obligations.ClearFaultClearsInactiveLatches : Prop :=
  (∀ kind a b : Byte,
    let names := fun (p : FaultId → Prop) => ∃ f, namedFaults kind a b = some f ∧ ∀ id, f id = true ↔ p id
    let any := a = 0xFF ∧ b = 0xFF
    let node := 1 ≤ a.toNat ∧ a.toNat ≤ 62
    (kind = 0xFF →
      (any → names fun _ => True) ∧
      (∀ m : ModelId, a = byteOf m.val → b = 0xFE → names fun id => ∃ k, id = .model k m) ∧
      (∀ n : NodeId, a = addressOf n → b = 0xFD → names fun id => id = .nodeSilent n) ∧
      (∀ (n : NodeId) (k : ButtonIx), a = addressOf n → b = byteOf k.val → names fun id => id = .buttonStuck ⟨n, k⟩) ∧
      (b = 0xFE → 11 < a.toNat → namedFaults kind a b = none) ∧
      (b = 0xFD → ¬ node → namedFaults kind a b = none) ∧
      (b.toNat ≤ 15 → ¬ node → namedFaults kind a b = none) ∧
      (¬ any → 15 < b.toNat → b ≠ 0xFE → b ≠ 0xFD → namedFaults kind a b = none)) ∧
    (kind.toNat ≤ 6 → any → names fun id => id.kindCode.val = kind.toNat) ∧
    (kind.toNat ≤ 4 → ¬ any →
      (∀ m : ModelId, a = byteOf m.val → b = 0 →
        names fun id => id.kindCode.val = kind.toNat ∧ ∃ k, id = .model k m) ∧
      (11 < a.toNat ∨ b ≠ 0 → namedFaults kind a b = none)) ∧
    (kind = 5 → ¬ any →
      (∀ n : NodeId, a = addressOf n → b = 0 → names fun id => id = .nodeSilent n) ∧
      (¬ node ∨ b ≠ 0 → namedFaults kind a b = none)) ∧
    (kind = 6 → ¬ any →
      (∀ (n : NodeId) (k : ButtonIx), a = addressOf n → b = byteOf k.val → names fun id => id = .buttonStuck ⟨n, k⟩) ∧
      (¬ node ∨ 15 < b.toNat → namedFaults kind a b = none)) ∧
    (7 ≤ kind.toNat → kind.toNat ≤ 10 → names fun id => id.kindCode.val = kind.toNat) ∧
    (10 < kind.toNat → kind ≠ 0xFF → namedFaults kind a b = none)) ∧
  ∀ (c : Sender) (kind a b : Byte) (s : State), s.carriesOut c = true →
    (namedFaults kind a b = none → exec (.clearFault c [kind, a, b]) s =
      .next (settle (s.answeredWith c (controlReply 0x08 .badField 0)))) ∧
    (∀ args, args.length ≠ 3 → exec (.clearFault c args) s =
      .next (settle (s.answeredWith c (controlReply 0x08 .badField 0)))) ∧
    (∀ named, namedFaults kind a b = some named →
      let cleared := allFaults.filter fun id => named id && (s.marks id).latched && !(s.marks id).active
      let left := allFaults.filter fun id => named id && (s.marks id).latched && (s.marks id).active
      ∃ u : State, exec (.clearFault c [kind, a, b]) s = .next (settle (u.answeredWith c
          (if left = [] then controlReply 0x08 .ok (BitVec.ofNat 16 cleared.length)
            else controlReply 0x08 .stillActive (BitVec.ofNat 16 left.length)))) ∧
        (∀ id, (u.marks id).latched =
          ((s.marks id).latched && !(named id && !(s.marks id).active))) ∧
        (∀ id, (∀ m, id ≠ .model .follow m) → (u.marks id).active = (s.marks id).active) ∧
        (∀ m, (s.model m).state = .faulted → (∃ k : ModelKind, k ≠ .loadAlarm ∧ .model k m ∈ cleared) →
          (∀ k : ModelKind, k ≠ .loadAlarm → (u.marks (.model k m)).latched = false) →
          u.model m = if s.sup.stopAsserted then { s.model m with state := .stopped, run := 0 }
            else (s.model m).asReseated (s.maskOccupied (s.model m).config.zoneMask)) ∧
        (∀ m, (s.model m).state ≠ .faulted → u.model m = s.model m) ∧
        u.alert.queue = (s.alert.queue.filter fun r => !(r.state == .acked && cleared.any fun id =>
          r.about == .fault id)) ∧
        u.alert.routes = s.alert.routes ∧ u.relay = s.relay ∧ u.settings = s.settings ∧
        u.press.buttons = s.press.buttons ∧ u.sup.zones = s.sup.zones) ∧
    (∀ id : FaultId, id ∈ allFaults)

/-- R183, R77, R173, R181, Table 10-7: STATUS_QUERY reports the state as it stands, each model's byte with its state
code, its hold causes and the RETURN bit; with the clear option the counters and tallies start again, taken at the
number of requests waiting, after the report is built. -/
def Obligations.StatusQueryReportsTheState : Prop :=
  ∀ (c : Sender) (s : State), s.carriesOut c = true →
    (∀ options : Byte, options.getLsbD 0 = false →
      exec (.statusQuery c [options]) s = .next (settle (s.answeredWith c (0x43, s.statusPayload 0)))) ∧
    (∀ options : Byte, options.getLsbD 0 = true →
      exec (.statusQueryClear c [options]) s = .next (settle (State.answeredWith c (0x43, s.statusPayload 0)
        { s with
          relay := { s.relay with bayCounters := .zero, spineCounters := .zero }
          press := { s.press with tallies := ⟨min 4294967295 s.waitingCount, 0, 0, 0, 0⟩ } }))) ∧
    (∀ args, args.length ≠ 1 →
      exec (.statusQuery c args) s = .next (settle (s.answeredWith c (controlReply 0x0A .badField 0))) ∧
      exec (.statusQueryClear c args) s = .next (settle (s.answeredWith c (controlReply 0x0A .badField 0)))) ∧
    (∀ origin : Byte,
      let p := s.statusPayload origin
      p.length = 63 ∧ p.take 2 = [origin, match s.gallery with
        | .closed => 0 | .opened => 1 | .doze => 2 | .waking => 3 | .service => 4] ∧
      (byteAt p 2).getLsbD 0 = s.sup.stopAsserted ∧ (byteAt p 2).getLsbD 1 = s.alert.overflow ∧
      byteAt p 3 = byteOf s.alert.queue.length ∧ byteAt p 4 = byteOf s.alert.lost ∧
      (∀ m : ModelId, let x := s.model m
        let held := x.state = .holding ∧ x.target = some .home
        byteAt p (5 + m.val) = byteOf ((match x.state with
            | .disabled => 0 | .enabling => 1 | .idle => 2 | .running => 3 | .holding => 4 | .returning => 5
            | .stopped => 6 | .faulted => 7) +
          (if x.holdZone then 16 else 0) + (if x.holdPause then 32 else 0) + if held then 64 else 0)) ∧
      (p.drop 17).take 20 = [s.press.tallies.taken, s.press.tallies.started, s.press.tallies.expired,
        s.press.tallies.flushed, s.press.tallies.refused].flatMap (fun n => le32 (BitVec.ofNat 32 n)) ∧
      p.drop 37 = [s.relay.bayCounters.good, s.relay.bayCounters.checkErrors, s.relay.bayCounters.framingErrors,
        s.relay.bayCounters.misrouted, s.relay.bayCounters.dropped, s.relay.bayCounters.undelivered,
        s.relay.bayCounters.stranger, s.relay.spineCounters.good, s.relay.spineCounters.checkErrors,
        s.relay.spineCounters.framingErrors, s.relay.spineCounters.misrouted, s.relay.spineCounters.dropped,
        s.relay.spineCounters.overrun].flatMap (fun n => le16 (BitVec.ofNat 16 n)))

/-- R172, R184, R181: a RESTART to the own bay places its OK reply, and the soft reset is then pending until that reply
has left; one to bay 31 brings the soft reset at once, or after the frame in progress on SPINE_OUT. -/
def Obligations.RestartBringsTheSoftReset : Prop :=
  ∀ (c : Sender) (s : State), s.carriesOut c = true →
    (c.all = false → exec (.restart c []) s = .next (settle { s with relay := { s.relay with
      softPending := true
      replyFifo := s.relay.replyFifo ++
        [⟨mkFrame c.srcBay c.srcNode s.relay.ownBay 0 0x41 [0x33, 0x0B, 0, 0, 0], true⟩] } })) ∧
    (c.all = true → s.relay.spineOut = none →
      exec (.restart c []) s = exec (.softReset s.pins.stopOpen s.pins.ackClosed) s) ∧
    (c.all = true → s.relay.spineOut.isSome = true →
      exec (.restart c []) s = .next (settle { s with relay := { s.relay with softWaiting := true } })) ∧
    (∀ args, args ≠ [] →
      exec (.restart c args) s = .next (settle (s.answeredWith c (controlReply 0x0B .badField 0))))

/-- R140, R139, R142, R181: an ALERT_ACK with number 0 ends the overflow; one with a record's number acknowledges that
record, and removes it if its fault is not latched. -/
def Obligations.AlertAckAcknowledges : Prop :=
  ∀ (c : Sender) (s : State), s.carriesOut c = true →
    (∃ u : State,
      exec (.alertAck c [0]) s = .next (settle (u.answeredWith c (replyAnswer 0x34 0
        (.ok, if s.alert.overflow then BitVec.ofNat 16 s.alert.lost else 0)))) ∧
      u.alert.overflow = false ∧ u.alert.lost = 0 ∧ u.alert.reportPending = false ∧
      u.alert.queue = s.alert.queue ∧ u.alert.routes = s.alert.routes ∧ u.alert.lastNumber = s.alert.lastNumber ∧
      u.relay = s.relay ∧ u.press = s.press ∧ u.motion = s.motion ∧ u.sup = s.sup ∧ u.modeCtl = s.modeCtl ∧
      u.settings = s.settings) ∧
    (∀ n : Byte, n ≠ 0 → (∀ r ∈ s.alert.queue, r.number ≠ n.toNat) →
      exec (.alertAck c [n]) s = .next (settle (s.answeredWith c (replyAnswer 0x34 0 (.unknownAlert, 0))))) ∧
    (∀ (n : Byte) before r after, n ≠ 0 → s.alert.queue = before ++ r :: after → r.number = n.toNat →
      (∀ q ∈ before, q.number ≠ n.toNat) → (∀ q ∈ after, q.number ≠ n.toNat) →
      let latched := match r.about with
        | .fault id => (s.marks id).latched
        | _ => false
      let queue := if r.state = .acked then s.alert.queue
        else if latched then before ++ { r with state := .acked, deadline := none } :: after
        else before ++ after
      ∃ u : State, exec (.alertAck c [n]) s = .next (settle (u.answeredWith c (replyAnswer 0x34 0
          (.ok, BitVec.ofNat 16 queue.length)))) ∧
        u.alert.queue = queue ∧ u.alert.overflow = s.alert.overflow ∧ u.alert.lost = s.alert.lost ∧
        u.relay = s.relay ∧ u.press = s.press ∧ u.motion = s.motion ∧ u.sup = s.sup ∧ u.modeCtl = s.modeCtl) ∧
    (∀ p, p.length ≠ 1 →
      exec (.alertAck c p) s = .next (settle (s.answeredWith c (replyAnswer 0x34 0 (.badField, 0))))) ∧
    (∀ (d : Sender) (p : List Byte) (f : State), f.running = true → d.all = false → 4 ≤ f.relay.replyFifo.length →
      exec (.alertAck d p) f = .next (settle { f with relay := { f.relay with
        spineCounters := { f.relay.spineCounters with overrun := oneMore f.relay.spineCounters.overrun } } }))

/-! ### Playback -/

/-- R38 to R43: what a sample computes: segments end as the elapsed time reaches their stretched durations, the target
within a segment lies on its straight line, and the setpoint is that target brought into travel and then within the rate.
-/
def Obligations.SetpointsFollowThePath : Prop :=
  (∀ pos : CuePosition, pos.elapsed < pos.duration →
    min pos.segStart pos.segEnd ≤ interpolate pos ∧ interpolate pos ≤ max pos.segStart pos.segEnd ∧
    (interpolate pos = pos.segEnd → pos.segStart = pos.segEnd) ∧
    |(interpolate pos - pos.segStart) * pos.duration| ≤ |(pos.segEnd - pos.segStart) * pos.elapsed| ∧
    |(pos.segEnd - pos.segStart) * pos.elapsed - (interpolate pos - pos.segStart) * pos.duration| < pos.duration) ∧
  (∀ (rate : Nat) (prev target : Int),
    let s := clampRate rate prev target
    |s - prev| ≤ rate ∧ min prev target ≤ s ∧ s ≤ max prev target ∧ (|target - prev| ≤ rate → s = target) ∧
    ((rate : Int) < |target - prev| → |s - prev| = rate)) ∧
  (∀ (s : State) (f : ModelConfig) (last : Int) (fuel : Nat) (pos : CuePosition),
    (pos.elapsed < pos.duration → s.advance f last (fuel + 1) pos = (false, pos)) ∧
    (∀ next, pos.duration ≤ pos.elapsed →
      s.nextPlace f last { pos with elapsed := pos.elapsed - pos.duration } = some next →
      s.advance f last (fuel + 1) pos = s.advance f last fuel next) ∧
    (pos.duration ≤ pos.elapsed → s.nextPlace f last { pos with elapsed := pos.elapsed - pos.duration } = none →
      s.advance f last (fuel + 1) pos = (true, { pos with elapsed := pos.elapsed - pos.duration }))) ∧
  (∀ (s : State) (f : ModelConfig) (last : Int) (pos : CuePosition) (u : Cue) (step : CueStep),
    s.cue pos.cue = some u → u.steps[pos.step]? = some step →
    (pos.segment + 1 < s.segmentCount step →
      s.nextPlace f last pos = some (s.beginSegment f step { pos with segment := pos.segment + 1 })) ∧
    (∀ other, s.segmentCount step ≤ pos.segment + 1 → u.steps[pos.step + 1]? = some other →
      s.nextPlace f last pos = some (s.beginSegment f other { pos with
        step := pos.step + 1, segment := 0, stepStart := last })) ∧
    (∀ first, s.segmentCount step ≤ pos.segment + 1 → u.steps.length ≤ pos.step + 1 → 1 < pos.repeats →
      u.steps[0]? = some first →
      s.nextPlace f last pos = some (s.beginSegment f first { pos with
        repeats := pos.repeats - 1, step := 0, segment := 0, stepStart := last })) ∧
    (s.segmentCount step ≤ pos.segment + 1 → u.steps.length ≤ pos.step + 1 → pos.repeats ≤ 1 →
      s.nextPlace f last pos = none)) ∧
  (∀ (s : State) (x : Model) (pos : CuePosition),
    let played := s.playSample x pos
    let raw := if played.1 then played.2.1.segEnd else interpolate played.2.1
    let target := if raw < x.config.travelMin then x.config.travelMin
      else if x.config.travelMax < raw then x.config.travelMax else raw
    played.2.2 = clampRate x.config.rateLimit x.lastSetpoint target ∧
    (played.1, played.2.1) = s.advance x.config x.lastSetpoint (Config.maxCrossings + 1)
      { pos with elapsed := pos.elapsed + s.settings.samplePeriod })

/-! ### The part's own timers -/

/-- R30, R31, R32, R43, R44, R7, R8, R9: the sample timer expires and starts again; every model in service records its
position, and a model in motion moves on, ends its cue or comes home. R24, R23, R93: a model that comes to rest
applies the staged record whose commit is pending, or, where it does not fit, keeps it and raises COMMIT_FAILED. R56:
a due entry for the model goes first: it starts its cue, or is missed for a cue that is not valid, or stays due where
a drive flag was seen in IDLE; then, and without one, the model-free notice is sent. -/
def Obligations.SampleMovesEveryModel : Prop :=
  ∀ s : State, s.running = true → ∃ t, exec .sampleTimerExpiry s = .next t ∧
    t.motion.sampleTimer = s.settings.samplePeriod ∧ t.motion.clock = s.motion.clock ∧
    t.motion.cues = s.motion.cues ∧ t.motion.profiles = s.motion.profiles ∧
    t.settings = s.settings ∧ t.gallery = s.gallery ∧ t.sup.zones = s.sup.zones ∧
    t.press.buttons = s.press.buttons ∧ t.relay.nodes = s.relay.nodes ∧
    ∀ m, let x := s.model m
      let recorded := fun (p : Int) => { x with lastSetpoint := p, history := (p :: x.history).take 8 }
      let noDue := ∀ e ∈ s.motion.schedule, e.model = m → e.due = none
      let alone := ∀ k, k ≠ m → (s.model k).state ≠ .running ∧ (s.model k).state ≠ .returning
      let free := fun (mask : BitVec 8) => s.maskOccupied mask = false ∧ s.sup.stopAsserted = false ∧
        (s.gallery = .opened ∨ s.gallery = .service)
      let comesToRest := fun (y : Model) =>
        let rest := { y with state := .idle, owner := none, position := none, commitPending := false }
        (noDue → x.commitPending = false ∨ x.staged = none →
          t.model m = rest ∧ (free x.config.zoneMask → m ∈ t.motion.freeNotices)) ∧
        (∀ f, noDue → x.commitPending = true → x.staged = some f →
          let fits := f.travelMin ≤ y.lastSetpoint ∧ y.lastSetpoint ≤ f.travelMax ∧ f.travelMin ≤ f.home ∧
            f.home ≤ f.travelMax
          (fits → t.model m = { rest with config := f, staged := none, run := 0 } ∧
            t.waits m = (s.waits m).take f.waitDepth ∧ (t.watch m).maskOccupied = s.maskOccupied f.zoneMask ∧
            (free f.zoneMask → m ∈ t.motion.freeNotices)) ∧
          (¬ fits → t.model m = rest ∧ t.waits m = s.waits m ∧
            (alone → t.steady.alert = (raise (.commitFailed m) s).steady.alert) ∧
            (free x.config.zoneMask → m ∈ t.motion.freeNotices))) ∧
        (∀ e ∈ s.motion.schedule, e.model = m → e.due.isSome = true → s.ScheduleWf → x.commitPending = false →
          free x.config.zoneMask →
          (s.cueValid e.cue = true → x.flagSeen = false →
            t.model m = { rest with
              state := .running, owner := some .control
              position := some (s.startPosition x.config e.cue y.lastSetpoint) } ∧
            (∀ d ∈ t.motion.schedule, d.model ≠ m) ∧ t.waits m = s.waits m ∧
            (m ∈ t.motion.freeNotices ↔ m ∈ s.motion.freeNotices)) ∧
          (s.cueValid e.cue = false →
            t.model m = rest ∧ (∀ d ∈ t.motion.schedule, d.model ≠ m) ∧ m ∈ t.motion.freeNotices ∧
            (alone → t.steady.alert = (raise (.startMissed m) s).steady.alert)) ∧
          (s.cueValid e.cue = true → x.flagSeen = true →
            (t.marks (.model .driveReport m)).latched = true ∧ m ∈ t.motion.freeNotices ∧
            e ∈ t.motion.schedule ∧
            ((s.marks (.model .driveReport m)).latched = false → (t.model m).state = .faulted)))
      (x.state = .disabled ∨ x.state = .enabling → t.model m = x) ∧
      (x.state = .idle ∨ x.state = .holding ∨ x.state = .stopped ∨ x.state = .faulted →
        t.model m = recorded x.lastSetpoint) ∧
      (x.state = .returning → clampRate x.config.returnRate x.lastSetpoint x.config.home ≠ x.config.home →
        t.model m = recorded (clampRate x.config.returnRate x.lastSetpoint x.config.home)) ∧
      (x.state = .returning → clampRate x.config.returnRate x.lastSetpoint x.config.home = x.config.home →
        comesToRest (recorded x.config.home)) ∧
      (∀ pos, x.state = .running → x.position = some pos →
        let played := s.playSample x pos
        (played.1 = false → t.model m = { recorded played.2.2 with position := some played.2.1 }) ∧
        (∀ u, played.1 = true → s.cue played.2.1.cue = some u → u.endAction = .goHome →
          t.model m = { recorded played.2.2 with state := .returning, owner := none, position := none }) ∧
        (∀ u, played.1 = true → s.cue played.2.1.cue = some u → u.endAction = .stay →
          comesToRest (recorded played.2.2)))

/-- R46, R3, Table 1-3: the sample fills the slot of every drive node with a model in service bound to it, one entry
for each axis, and leaves every other slot empty; here BAY_OUT is busy, so that no slot is taken up at once, and no
staged record names another axis (R22). DESIGN CHOICE (log 32): the slots are filled after every model has been taken.
-/
def Obligations.SampleFillsTheSetpointSlots : Prop :=
  ∀ s : State, s.running = true → s.relay.bayOut.isSome = true →
    (∀ m f, (s.model m).staged = some f →
      f.driveNode = (s.model m).config.driveNode ∧ f.axis = (s.model m).config.axis) →
    ∃ t, exec .sampleTimerExpiry s = .next t ∧
      ∀ n : NodeId,
        let bound := fun (m : ModelId) => (s.model m).state ≠ .disabled ∧ (s.model m).config.driveNode = some n
        let entry := fun (x : Model) => match x.state with
          | .disabled | .enabling => [0, 0, 0]
          | .idle => le16 (ofPosition x.lastSetpoint) ++ [if s.gallery = .doze ∨ s.gallery = .closed then 3 else 1]
          | .holding => le16 (ofPosition x.lastSetpoint) ++ [1]
          | .stopped | .faulted => le16 (ofPosition x.lastSetpoint) ++ [2]
          | .returning => le16 (ofPosition (clampRate x.config.returnRate x.lastSetpoint x.config.home)) ++ [1]
          | .running => match x.position with
            | some pos => le16 (ofPosition (s.playSample x pos).2.2) ++ [1]
            | none => le16 (ofPosition x.lastSetpoint) ++ [1]
        ((∀ m, ¬ bound m) → tget t.relay.slots n = none) ∧
        ((∃ m, bound m) → ∃ axis0 axis1 : List Byte,
          tget t.relay.slots n = some (mkFrame 32 (addressOf n) s.relay.ownBay 0 0x21 (axis0 ++ axis1)) ∧
          (∀ m, s.bindsOnly m n 0 → axis0 = entry (s.model m)) ∧
          (∀ m, s.bindsOnly m n 1 → axis1 = entry (s.model m)) ∧
          ((∀ m, bound m → (s.model m).config.axis ≠ 0) → axis0 = [0, 0, 0]) ∧
          ((∀ m, bound m → (s.model m).config.axis ≠ 1) → axis1 = [0, 0, 0]))

/-- R73, R6, R69, R76, R114: a model-free notice offers the head of the wait list; a head whose cue is no longer valid
is flushed and the next is offered; one that finds a drive flag seen in IDLE reports it. R74: a request whose
countdown runs out leaves its list. DESIGN CHOICE: a notice that is not outstanding (log 9) and the expiry of a
request that is not in the list (log 4) change nothing. -/
def Obligations.WaitListsAreServedAndExpire : Prop :=
  (∀ (m : ModelId) (s : State), s.outOfReset = true →
    (m ∉ s.motion.freeNotices → exec (.modelFreeNotice m) s = .next (settle s)) ∧
    (m ∈ s.motion.freeNotices →
      let taken := { s with motion := { s.motion with freeNotices := s.motion.freeNotices.erase m } }
      (s.waits m = [] → exec (.modelFreeNotice m) s = .next (settle taken)) ∧
      (∀ r rest, s.waits m = r :: rest →
        let v := s.verdict m r.cue (.button r.key)
        (v = .notReady ∨ v = .busy ∨ v = .mode ∨ v = .blocked →
          exec (.modelFreeNotice m) s = .next (settle taken)) ∧
        (v = .cueInvalid → rest = [] → ∃ t, exec (.modelFreeNotice m) s = .next t ∧ t.motion = taken.motion ∧
          t.waits m = [] ∧ t.press.tallies = { s.press.tallies with
            flushed := min 4294967295 (s.press.tallies.flushed + 1) }) ∧
        (v = .cueInvalid → rest ≠ [] → exec (.modelFreeNotice m) s = exec (.modelFreeNotice m) { s with
          press := { s.press with
            waits := tput s.press.waits m rest
            tallies := { s.press.tallies with flushed := min 4294967295 (s.press.tallies.flushed + 1) } }
          modeCtl := { s.modeCtl with dozeTimer := none } }) ∧
        (v = .faultLatched → ∃ t, exec (.modelFreeNotice m) s = .next t ∧
          (t.marks (.model .driveReport m)).latched = true ∧
          ((s.marks (.model .driveReport m)).latched = true → t.motion = taken.motion ∧ t.waits m = s.waits m) ∧
          ((s.marks (.model .driveReport m)).latched = false → (t.model m).state = .faulted ∧ t.waits m = [])) ∧
        (v = .ok → s.MotionAgrees → ∃ t, exec (.modelFreeNotice m) s = .next t ∧
          t.press.waits = tput s.press.waits m rest ∧
          t.press.tallies = { s.press.tallies with started := min 4294967295 (s.press.tallies.started + 1) } ∧
          (∀ k, k ≠ m → t.model k = s.model k) ∧
          (∀ i b, s.entryOf r.key = some i → s.entry i = some b →
            t.press.buttons = tput s.press.buttons i (some (b.locked s.motion.clock)) ∧
            let x := { s.model m with
              owner := some (.button r.key)
              position := some (s.startPosition (s.model m).config r.cue (s.model m).lastSetpoint) }
            (b.mode = .hold ∧ s.isDown r.key = false → t.model m = { x with
              state := .holding, holdPause := true, target := some .cue,
              pauseTimer := some (x.config.pauseWindow * 1000) }) ∧
            (¬ (b.mode = .hold ∧ s.isDown r.key = false) → t.model m = { x with state := .running })) ∧
          t.sup = s.sup ∧ t.steady.alert = s.steady.alert ∧ t.steady.relay = s.steady.relay ∧
          t.press.recorded = s.press.recorded)))) ∧
  (∀ (m : ModelId) (k : Key) (s : State), s.running = true →
    ((∀ r ∈ s.waits m, r.key ≠ k) → exec (.requestExpiry m k) s = .next (settle s)) ∧
    ((∃ r ∈ s.waits m, r.key = k) → ∃ t, exec (.requestExpiry m k) s = .next t ∧
      t.press.waits = tput s.press.waits m ((s.waits m).filter fun r => r.key != k) ∧
      t.press.tallies = { s.press.tallies with expired := min 4294967295 (s.press.tallies.expired + 1) } ∧
      t.press.buttons = s.press.buttons ∧ t.motion = s.motion ∧ t.sup = s.sup ∧
      t.steady.alert = s.steady.alert ∧ t.steady.relay = s.steady.relay))

/-- R69, R70, R71, R85: a lockout that ends; a stuck timer that expires makes its button SUSPECT, reports BUTTON_STUCK
and flushes its request; a refresh timer that expires marks its panel dirty. DESIGN CHOICE (log 3): a stopped timer
has no effect. DEDUCED (log 28): a stuck timer is suspended while its HOLD button owns the cue of the model that its
entry maps, and then has none either. -/
def Obligations.ButtonAndPanelTimersExpire : Prop :=
  (∀ (k : Key) (s : State), s.running = true →
    (s.entryOf k = none →
      exec (.lockoutEnd k) s = .next (settle s) ∧ exec (.stuckTimerExpiry k) s = .next (settle s)) ∧
    (∀ i b, s.entryOf k = some i → s.entry i = some b →
      exec (.lockoutEnd k) s = .next (settle { s with press := { s.press with
        buttons := tput s.press.buttons i (some { b with lockoutTimer := none }) } }) ∧
      let suspended := b.mode = .hold ∧ s.ownsCue k b.modelId = true
      (b.stuckTimer = none ∨ suspended → exec (.stuckTimerExpiry k) s = .next (settle s)) ∧
      (b.stuckTimer.isSome = true → ¬ suspended → ∃ t, exec (.stuckTimerExpiry k) s = .next t ∧
        t.press.buttons = tput s.press.buttons i (some { b with stuckTimer := none, suspect := true }) ∧
        (t.marks (.buttonStuck k)).underlying = true ∧
        (t.marks (.buttonStuck k)).active = (s.route 6).detect ∧
        ((s.route 6).detect = true → (s.marks (.buttonStuck k)).active = false →
          (t.marks (.buttonStuck k)).latched = true ∧
          t.steady.alert = (raise (.fault (.buttonStuck k)) s).steady.alert) ∧
        t.press.waits = tput s.press.waits b.modelId ((s.waits b.modelId).filter fun r => r.key != k) ∧
        (s.isWaiting k b.modelId = true →
          t.press.tallies = { s.press.tallies with flushed := min 4294967295 (s.press.tallies.flushed + 1) }) ∧
        (s.isWaiting k b.modelId = false → t.press.tallies = s.press.tallies) ∧
        (∀ id, id ≠ .buttonStuck k → t.marks id = s.marks id) ∧
        t.motion = s.motion ∧ t.steady.relay = s.steady.relay))) ∧
  (∀ (n : NodeId) (s : State), s.running = true →
    (tget s.press.refresh n = none → exec (.refreshTimerExpiry n) s = .next (settle s)) ∧
    ((tget s.press.refresh n).isSome = true →
      exec (.refreshTimerExpiry n) s = .next (settle { s with press := { s.press with
        refresh := tput s.press.refresh n none
        dirty := if (s.node n).role = .panel then tput s.press.dirty n true else s.press.dirty } })))

/-- R117, R61, R89, R103, R118, R120: a node, a drive or the spine that falls silent makes its condition true: a
silent panel's recorded set is emptied and each of its buttons let go, a silent sensor's zones are occupied, a silent
drive trips its models. A bay-check window ends quiet or goes on, and an error of any form that reaches the threshold
makes BAY_CHECK true. DESIGN CHOICE: a window that ends at or above a threshold lowered within it makes nothing true
(log 36); a stopped timer has no effect (log 3). -/
def Obligations.SilencesAreReported : Prop :=
  (∀ (n : NodeId) (s : State), s.running = true →
    ((s.node n).silence = none → exec (.nodeSilenceExpiry n) s = .next (settle s)) ∧
    ((s.node n).silence.isSome = true → ∃ t, exec (.nodeSilenceExpiry n) s = .next t ∧
      t.node n = { s.node n with silence := none } ∧ (∀ k, k ≠ n → t.node k = s.node k) ∧
      (t.marks (.nodeSilent n)).underlying = true ∧ (t.marks (.nodeSilent n)).active = (s.route 5).detect ∧
      ((s.route 5).detect = true → (s.marks (.nodeSilent n)).active = false →
        (t.marks (.nodeSilent n)).latched = true) ∧
      tget t.press.recorded n = (if (s.node n).role = .panel then 0 else tget s.press.recorded n) ∧
      ((s.node n).role = .sensor → (s.route 5).detect = true → (s.marks (.nodeSilent n)).active = false →
        tget t.sup.reported n = (s.node n).zones ∧
        ∀ z, (s.node n).zones.getLsbD z.val = true → (tget t.sup.zones z).state = .occupied) ∧
      ((s.node n).role = .panel → ∀ k i b, k.node = n → s.entryOf k = some i → s.entry i = some b →
        s.Removed t k i b) ∧
      t.settings = s.settings ∧ t.pins = s.pins ∧ t.motion.clock = s.motion.clock)) ∧
  (∀ (m : ModelId) (s : State), s.running = true →
    ((s.watch m).driveSilence = none → exec (.driveSilenceExpiry m) s = .next (settle s)) ∧
    ((s.watch m).driveSilence.isSome = true → ∃ t, exec (.driveSilenceExpiry m) s = .next t ∧
      (t.watch m).driveSilence = none ∧ (t.marks (.model .driveSilent m)).underlying = true ∧
      (t.marks (.model .driveSilent m)).active = (s.route 4).detect ∧
      ((s.route 4).detect = true → (s.marks (.model .driveSilent m)).active = false →
        (t.marks (.model .driveSilent m)).latched = true ∧
        ((s.marks (.model .driveSilent m)).latched = false → (s.model m).state ≠ .disabled →
          (t.model m).state = .faulted)) ∧
      (∀ k, k ≠ m → t.model k = s.model k) ∧ t.sup.zones = s.sup.zones ∧ t.steady.relay = s.steady.relay)) ∧
  (∀ s : State, s.running = true →
    (s.relay.spineSilence = none → exec .spineSilenceExpiry s = .next (settle s)) ∧
    (s.relay.spineSilence.isSome = true → ∃ t, exec .spineSilenceExpiry s = .next t ∧
      t.relay.spineSilence = none ∧ (t.marks (.bay .spineSilent)).underlying = true ∧
      (t.marks (.bay .spineSilent)).active = (s.route 8).detect ∧
      (∀ id, id ≠ .bay .spineSilent → t.marks id = s.marks id) ∧ t.motion = s.motion ∧ t.press.waits = s.press.waits) ∧
    exec .bayCheckWindowEnd s = .next (settle { s with
      relay := { s.relay with windowCount := 0, windowTimer := 10000 }
      sup := if s.relay.windowCount < s.settings.bayThreshold then { s.sup with
        faults := s.sup.faults.modify (.bay .bayCheck) fun k => ⟨false, false, k.latched⟩ } else s.sup }) ∧
    (s.relay.rxBay ≠ .discarding → (s.route 10).detect = true →
      let errors := if s.relay.windowCount < 255 then s.relay.windowCount + 1 else s.relay.windowCount
      let framing := { s.relay.bayCounters with framingErrors := oneMore s.relay.bayCounters.framingErrors }
      let checks := { s.relay.bayCounters with checkErrors := oneMore s.relay.bayCounters.checkErrors }
      let reports := fun (i : Instr) (next : Receiver) (counted : BayCounters) => ∃ t, exec i s = .next t ∧
        t.relay.windowCount = errors ∧ t.relay.rxBay = next ∧ t.relay.bayCounters = counted ∧
        (t.marks (.bay .bayCheck)).underlying = true ∧ (t.marks (.bay .bayCheck)).active = true ∧
        ((s.marks (.bay .bayCheck)).active = false → (t.marks (.bay .bayCheck)).latched = true) ∧
        t.motion = s.motion ∧ t.press.waits = s.press.waits
      s.settings.bayThreshold ≤ errors →
        reports (.framingError .bay) .discarding framing ∧ reports (.receiverGapTimeout .bay) .waiting framing ∧
        ∀ f : Frame, (64 < f.payload.length → reports (.bayFrameReceived f) .discarding framing) ∧
          (f.payload.length ≤ 64 → checkGood f = false → reports (.bayFrameReceived f) .waiting checks)))

/-- R130, R131, R132, R137: what a raise does: an EVENT with detection off is dropped; a record of the same kind and
subject takes one more occurrence; otherwise a new record joins the tail, with the first free number after the one
assigned last, in place of the oldest acknowledged one where the queue is full, and with none of those the raise is
lost. R138, R145, R146: a deadline that expires escalates its record, a change of the showing state begins an
on-phase, and a phase of FLASH that ends begins the other. DESIGN CHOICE: a stopped timer has no effect (log 3), and
the end of a phase that such a change has cut short in the same millisecond has none either (log 35). -/
def Obligations.RaisesEscalateAndFlash : Prop :=
  (∀ (a : About) (s : State),
    let e := s.route a.kindCode
    let deadline : Timer := if e.escalation = 0 then none else some (e.escalation * 10000)
    let present := ∃ r ∈ s.alert.queue, r.about = a
    let dropped := a.isEvent = true ∧ e.detect = false
    let record := fun (n : Nat) => (⟨n, a, e.tier, 1, s.motion.clock, e.spine, e.beacon,
      if e.spine then .unsent else .awaiting, false, deadline, false, false⟩ : AlertRecord)
    let place := fun (n : Nat) => (n + 509 - s.alert.lastNumber) % 255
    let fresh := fun (l : List AlertRecord) (n : Nat) => 1 ≤ n ∧ n ≤ 255 ∧ (∀ r ∈ l, r.number ≠ n) ∧
      (s.alert.lastNumber ≤ 255 → ∀ j, 1 ≤ j → j ≤ 255 → place j < place n → ∃ r ∈ l, r.number = j)
    let t := raise a s
    (dropped → t = s) ∧
    (¬ dropped → t.ShowingTrue ∧
      (∀ tier, t.alert.showing = .flash tier → s.alert.showing ≠ .flash tier →
        t.alert.phaseOn = true ∧ t.alert.beacon = true ∧
        t.alert.phaseTimer = some ((tget s.alert.patterns (tierIndex tier)).onTime * 10) ∧
        t.alert.chime = if (tget s.alert.patterns (tierIndex tier)).chime then
          some (tget s.alert.patterns (tierIndex tier)).tone else none) ∧
      t.alert.phaseCut = (s.alert.phaseCut || (decide (t.alert.showing ≠ s.alert.showing) &&
        s.alert.phaseTimer.isSome))) ∧
    (¬ dropped → present → t.alert.queue = s.alert.queue.map (fun r =>
      if r.about ≠ a then r
      else
        let counted := { r with occurrences := if r.occurrences < 255 then r.occurrences + 1 else r.occurrences }
        if r.state = .acked then { counted with
          state := if r.spine then .unsent else .awaiting, deadline, resend := r.resend || (r.inFlight && r.spine) }
        else counted)) ∧
    (¬ dropped → ¬ present → e.spine = false → e.beacon = false → t.alert.queue = s.alert.queue) ∧
    (¬ dropped → ¬ present → (e.spine || e.beacon) = true → s.alert.queue.length < 24 →
      ∃ n, fresh s.alert.queue n ∧ t.alert.queue = s.alert.queue ++ [record n] ∧ t.alert.lastNumber = n) ∧
    (∀ before r after, ¬ dropped → ¬ present → (e.spine || e.beacon) = true →
      s.alert.queue = before ++ r :: after → s.alert.queue.length = 24 → r.state = .acked →
      (∀ q ∈ before, q.state ≠ .acked) →
      ∃ n, fresh (before ++ after) n ∧ t.alert.queue = before ++ after ++ [record n] ∧ t.alert.lastNumber = n) ∧
    (¬ dropped → ¬ present → (e.spine || e.beacon) = true → s.alert.queue.length = 24 →
      (∀ q ∈ s.alert.queue, q.state ≠ .acked) →
      t.alert.queue = s.alert.queue ∧ t.alert.overflow = true ∧ t.alert.reportPending = true ∧
      t.alert.lost = (if s.alert.lost < 255 then s.alert.lost + 1 else s.alert.lost) ∧
      t.alert.overflowSince = (if s.alert.overflow then s.alert.overflowSince else s.motion.clock)) ∧
    t.motion = s.motion ∧ t.press = s.press ∧ t.sup = s.sup ∧ t.relay = s.relay) ∧
  (∀ (n : Byte) (s : State), s.running = true → ∃ t, exec (.escalationDeadlineExpiry n) s = .next t ∧
    t.steady.alert.queue = s.steady.alert.queue.map (fun r =>
      let time := (s.route r.about.kindCode).escalation
      if r.number = n.toNat ∧ r.deadline.isSome = true then { r with
        tier := if r.tier < 3 then r.tier + 1 else r.tier, escalated := true,
        state := if r.spine then .unsent else r.state, deadline := if time = 0 then none else some (time * 10000) }
      else r) ∧
    t.ShowingTrue ∧ t.motion = s.motion ∧ t.sup = s.sup ∧ t.press.waits = s.press.waits ∧
    t.steady.relay = s.steady.relay) ∧
  (∀ s : State, s.running = true →
    (s.alert.phaseCut = true → exec .beaconPhaseEnd s =
      .next (settle { s with alert := { s.alert with phaseCut := false } })) ∧
    (s.alert.phaseCut = false →
      (s.alert.showing = .dark ∨ s.alert.showing = .steady ∨ s.alert.phaseTimer = none) →
      exec .beaconPhaseEnd s = .next (settle s)) ∧
    (∀ tier, s.alert.phaseCut = false → s.alert.showing = .flash tier → s.alert.phaseTimer.isSome = true →
      let p := tget s.alert.patterns (if tier ≤ 1 then 0 else if tier = 2 then 1 else 2)
      let on := !s.alert.phaseOn
      exec .beaconPhaseEnd s = .next (settle { s with alert := { s.alert with
        phaseOn := on, beacon := on, chime := if on && p.chime then some p.tone else none
        phaseTimer := some ((if on then p.onTime else p.offTime) * 10) } })))

/-- R155, R153, R158, R157, R152, R114: the doze timer takes the bay to DOZE; the wake limit reports the drives that
have not energised, whatever their detect enable says, and opens the bay; the last drive to energise ends the wake.
DESIGN CHOICE: a stopped timer has no effect (log 3); the wake ends when the whole axis entry has been taken (log 20).
-/
def Obligations.DozeAndWakeRunTheirCourse : Prop :=
  ∀ s : State, s.running = true →
    (s.modeCtl.dozeTimer = none → exec .dozeTimerExpiry s = .next (settle s)) ∧
    (s.modeCtl.dozeTimer.isSome = true → (∀ m, (s.model m).inPlay = false) →
      ∃ t, exec .dozeTimerExpiry s = .next t ∧ t.modeCtl = { s.modeCtl with mode := .doze, dozeTimer := none } ∧
        (∀ m, t.model m = if (s.model m).state = .idle then { s.model m with run := 0 } else s.model m) ∧
        t.press.waits = s.press.waits ∧ t.motion.schedule = s.motion.schedule ∧ t.steady.alert = s.steady.alert ∧
        t.steady.relay = s.steady.relay ∧ t.press.buttons = s.press.buttons) ∧
    (s.gallery ≠ .waking ∨ s.modeCtl.wakeTimer = none → exec .wakeLimitExpiry s = .next (settle s)) ∧
    (s.gallery = .waking → s.modeCtl.wakeTimer.isSome = true → ∃ t, exec .wakeLimitExpiry s = .next t ∧
      t.gallery = .opened ∧ t.modeCtl.wakeTimer = none ∧
      (∀ m, (s.model m).state ≠ .disabled → (s.watch m).energised = false →
        (t.marks (.model .driveReport m)).latched = true ∧
        ((s.marks (.model .driveReport m)).latched = false → (t.model m).state = .faulted ∧
          ((s.model m).state ≠ .faulted → t.waits m = []))) ∧
      (∀ m, (s.model m).state ≠ .idle → (s.model m).state = .disabled ∨ (s.watch m).energised = true →
        t.model m = s.model m)) ∧
    (∀ n e m, s.gallery = .waking → (s.node n).role = .drive → s.bindsOnly m n e.axis →
      (s.watch m).energised = false → e.flags.getLsbD 3 = true →
      ∃ t, exec (.feedback n [e]) s = .next t ∧
        ((∀ k, k ≠ m → (s.model k).state = .disabled ∨ (s.watch k).energised = true) →
          t.gallery = .opened ∧ t.modeCtl.wakeTimer = none) ∧
        (∀ k, k ≠ m → (s.model k).state ≠ .disabled → (s.watch k).energised = false →
          t.gallery = .waking ∧ t.modeCtl.wakeTimer = s.modeCtl.wakeTimer))

/-! ### Invariants -/

/-- R1, R2, R25, R27, R30, R49, R52, R61, R62, R72, R76, R79, R88, R106, R108, R125, R127, R129, R148, R161, R163, R167 to
R173, R180, R185: the values that the spec gives for reset; and the reset state meets every invariant below. -/
def Obligations.ResetStateIsAsTheSpecGives : Prop :=
  let s := State.reset
  (∀ m, (s.model m).config = .unconfigured ∧ (s.model m).state = .disabled ∧ (s.model m).owner = none ∧
    (s.model m).position = none ∧ (s.model m).lastSetpoint = 0 ∧ (s.model m).history = [0, 0, 0, 0, 0, 0, 0, 0] ∧
    (s.model m).fedBack = none ∧ (s.model m).loads = [] ∧ (s.model m).staged = none ∧
    (s.model m).commitPending = false ∧ (s.model m).pauseTimer = none ∧ s.waits m = [] ∧ s.watch m = .reset) ∧
  (∀ n, (s.node n).role = .empty ∧ (s.node n).lastHeard = none ∧ (s.node n).helloSeen = false ∧
    tget s.press.recorded n = 0 ∧ tget s.sup.reported n = 0 ∧ tget s.relay.slots n = none) ∧
  (∀ c, s.cue c = none) ∧ (∀ p, s.profile p = none) ∧ (∀ i, s.entry i = none) ∧ (∀ k, s.lamp k = .off) ∧
  (∀ z, tget s.sup.zones z = ⟨.clear, none⟩) ∧ (∀ id, s.marks id = .clear) ∧
  s.motion.schedule = [] ∧ s.motion.clock = 0 ∧ s.motion.sampleTimer = 10 ∧
  s.press.tallies = ⟨0, 0, 0, 0, 0⟩ ∧ s.alert.queue = [] ∧ s.alert.lastNumber = 0 ∧ s.alert.overflow = false ∧
  s.alert.lost = 0 ∧ s.alert.showing = .dark ∧ s.gallery = .closed ∧ s.modeCtl.dozeTimer = none ∧
  s.settings = ⟨10, 0, 30, 10, 0, 20⟩ ∧ s.relay.rxBay = .discarding ∧ s.relay.rxSpine = .discarding ∧
  s.relay.bayFifo = [] ∧ s.relay.spineFifo = [] ∧ s.relay.bayCounters = .zero ∧ s.relay.spineCounters = .zero ∧
  s.relay.missRun = 0 ∧ s.relay.ringRequest = true ∧ s.relay.spineSilence = none ∧ s.pending = [] ∧
  s.MotionAgrees ∧ s.MovesSafely ∧ s.WithinTravel ∧ s.ScheduleWf ∧ s.ListsWf ∧ s.Balanced ∧ s.FaultsAgree ∧
  s.KeysApart ∧ s.LampsTrue ∧ s.Bounded ∧ s.AlertsWf ∧ s.ShowingTrue ∧ s.OutputsTrue

/-- R4, R6, R11, R12, R13, R92, R94, R107, R150 to R153: every step keeps what makes motion safe: no model moves while a
zone of its mask is occupied, with the STOP key asserted, or for an owner that the mode does not allow. -/
def Obligations.StepKeepsMotionSafe : Prop :=
  ∀ s t : State, s.MotionAgrees → s.MovesSafely → step s = .next t → t.MotionAgrees ∧ t.MovesSafely

/-- R43, R14, R19, R22, R23, R176: every step keeps every model record in range and every model in service within its
travel, whatever cues play and whatever is written. -/
def Obligations.StepKeepsModelsWithinTravel : Prop :=
  ∀ s t : State, s.WithinTravel → step s = .next t → t.WithinTravel

/-- R52, R21, R66, R72, R75, R76: every step keeps the schedule list and the wait lists well formed, and the balance
of the tallies, where no tally has reached its largest value; and where every entry that the clock has reached is due,
it keeps the other entries in ascending order of their wait. -/
def Obligations.StepKeepsTheListsAndTheBalance : Prop :=
  ∀ s t : State, s.ScheduleWf → s.ListsWf → s.Balanced → step s = .next t →
    t.ScheduleWf ∧ t.ListsWf ∧ (t.TalliesBelowMax → t.Balanced) ∧
    (s.NoneOverdue → s.StartsInOrder → t.StartsInOrder)

/-- R112, R105, R106, R71, R119, R114, R115, R17, R18, R19: every step keeps the fault table true: conditions follow
their underlying states, those of STOP_KEY, BUTTON_STUCK and RING_OPEN are the key, the SUSPECT marks and the miss
run, and a model is FAULTED exactly for a trip-class latch. That no two map entries hold one key is kept by
StepKeepsTheLampsTrue. -/
def Obligations.StepKeepsTheFaultTableTrue : Prop :=
  ∀ s t : State, s.KeysApart → s.FaultsAgree → step s = .next t → t.FaultsAgree

/-- R80, R81: what the lamp of a TAP, TOGGLE or HOLD button and that of a CALL button are, by the first test that
applies. R62, R79, R82: every step leaves each lamp as the state derives it, and no two map entries with one key. -/
def Obligations.StepKeepsTheLampsTrue : Prop :=
  (∀ (s : State) (b : Button),
    let x := s.model b.modelId
    let owns := x.owner = some (.button b.key)
    let awake := s.gallery = .opened ∨ s.gallery = .waking
    (s.gallery = .closed → s.lampOf b = .off) ∧ (s.gallery = .service → s.lampOf b = .out) ∧
    (s.gallery = .doze → s.lampOf b = .wake) ∧ (awake → b.suspect = true → s.lampOf b = .out) ∧
    (awake → b.suspect = false → b.mode = .call →
      let called := ∃ r ∈ s.alert.queue, r.about = .visitorCall b.key ∧ r.state ≠ .acked
      (called → s.lampOf b = .running) ∧ (¬ called → b.lockoutTimer.isSome = true → s.lampOf b = .locked) ∧
      (¬ called → b.lockoutTimer = none → s.lampOf b = .ready)) ∧
    (awake → b.suspect = false → b.mode ≠ .call →
      let out := x.state = .disabled ∨ x.state = .enabling ∨ x.state = .stopped ∨ x.state = .faulted
      let waits := ∃ r ∈ s.waits b.modelId, r.key = b.key
      let ready := x.state = .idle ∧ s.maskOccupied x.config.zoneMask = false ∧ s.sup.stopAsserted = false ∧
        s.gallery = .opened
      (out → s.lampOf b = .out) ∧
      (¬ out → owns → x.state = .holding → x.holdPause = true → s.lampOf b = .paused) ∧
      (¬ out → owns → ¬ (x.state = .holding ∧ x.holdPause = true) → s.lampOf b = .running) ∧
      (¬ out → ¬ owns → waits → s.lampOf b = .wait) ∧
      (¬ out → ¬ owns → ¬ waits → b.lockoutTimer.isSome = true → s.lampOf b = .locked) ∧
      (¬ out → ¬ owns → ¬ waits → b.lockoutTimer = none → ready → s.lampOf b = .ready) ∧
      (¬ out → ¬ owns → ¬ waits → b.lockoutTimer = none → ¬ ready → s.lampOf b = .busy))) ∧
  ∀ s t : State, s.KeysApart → s.LampsTrue → step s = .next t → t.KeysApart ∧ t.LampsTrue

/-- R129, R131, R132, R119, R120, R167, R171: every step keeps the queues within their bounds and the alert records
apart. R145, R146: it leaves BEACON and CHIME showing what the alert queue gives: FLASH of the highest tier among the
unacknowledged beacon-routed records, and of tier 3 with the overflow flag set; STEADY where only acknowledged ones
remain; DARK otherwise. -/
def Obligations.StepKeepsTheQueuesAndTheBeacon : Prop :=
  ∀ s t : State, s.Bounded → s.AlertsWf → s.ShowingTrue → s.OutputsTrue → step s = .next t →
    t.Bounded ∧ t.AlertsWf ∧ t.ShowingTrue ∧ t.OutputsTrue
end

