-- ==== Sys2Proof/Laws/State.lean ====
section
/-!
SUPPORT. The small lemmas of the named reads and updates of Ops.lean: one per field per update, and one read after one
write for each table.
-/

namespace Sys2Proof.Machine

/-! ### Tables -/

@[simp] theorem tget_tput_self {α : Type} {n : Nat} (v : Vector α n) (i : Fin n) (x : α) : tget (tput v i x) i = x := by
  simp [tget, tput]

theorem tget_tput {α : Type} {n : Nat} (v : Vector α n) (i j : Fin n) (x : α) :
    tget (tput v i x) j = if j = i then x else tget v j := by
  by_cases h : j = i
  · subst h; simp
  · have : i.val ≠ j.val := fun e => h (Fin.ext e.symm)
    simp [tget, tput, h, this]

@[simp] theorem tget_tput_ne {α : Type} {n : Nat} {v : Vector α n} {i j : Fin n} {x : α} (h : j ≠ i) :
    tget (tput v i x) j = tget v j := by simp [tget_tput, h]

@[simp] theorem tput_tget {α : Type} {n : Nat} (v : Vector α n) (i : Fin n) : tput v i (tget v i) = v := by
  simp [tget, tput]

@[simp] theorem tget_tmod_self {α : Type} {n : Nat} (v : Vector α n) (i : Fin n) (f : α → α) :
    tget (tmod v i f) i = f (tget v i) := by simp [tmod]

theorem tget_tmod {α : Type} {n : Nat} (v : Vector α n) (i j : Fin n) (f : α → α) :
    tget (tmod v i f) j = if j = i then f (tget v i) else tget v j := by simp [tmod, tget_tput]

@[simp] theorem tget_tmod_ne {α : Type} {n : Nat} {v : Vector α n} {i j : Fin n} {f : α → α} (h : j ≠ i) :
    tget (tmod v i f) j = tget v j := by simp [tget_tmod, h]

@[simp] theorem tget_replicate {α : Type} {n : Nat} (x : α) (i : Fin n) : tget (Vector.replicate n x) i = x := by
  simp [tget]

@[simp] theorem tget_map {α β : Type} {n : Nat} (v : Vector α n) (f : α → β) (i : Fin n) :
    tget (v.map f) i = f (tget v i) := by simp [tget]

theorem table_ext {α : Type} {n : Nat} {v w : Vector α n} (h : ∀ i, tget v i = tget w i) : v = w := by
  apply Vector.ext; intro i hi; exact h ⟨i, hi⟩

/-! ### Runs over the subjects of a command -/

@[simp] theorem forEach_nil {α : Type} (op : α → State → State) (s : State) : forEach [] op s = s := rfl

@[simp] theorem forEach_cons {α : Type} (first : α) (rest : List α) (op : α → State → State) (s : State) :
    forEach (first :: rest) op s = forEach rest op (op first s) := rfl

/-- What the operation keeps for every subject, a run over the subjects keeps. -/
theorem forEach_keeps {α β : Type} (read : State → β) (op : α → State → State)
    (keeps : ∀ subject t, read (op subject t) = read t) (subjects : List α) (s : State) :
    read (forEach subjects op s) = read s := by
  induction subjects generalizing s with
  | nil => rfl
  | cons subject _ ih => rw [forEach_cons, ih, keeps]

/-- An invariant of the operation for every subject is an invariant of a run over the subjects. -/
theorem forEach_invariant {α : Type} {Good : State → Prop} {op : α → State → State}
    (good : ∀ subject t, Good t → Good (op subject t)) (subjects : List α) {s : State} (start : Good s) :
    Good (forEach subjects op s) := by
  induction subjects generalizing s with
  | nil => exact start
  | cons subject _ ih => exact ih (good subject s start)

/-! ### Blocks -/

@[simp] theorem State.onRelay_relay (s : State) (f : LineRelay → LineRelay) : (s.onRelay f).relay = f s.relay := rfl
@[simp] theorem State.onRelay_press (s : State) (f : LineRelay → LineRelay) : (s.onRelay f).press = s.press := rfl
@[simp] theorem State.onRelay_motion (s : State) (f : LineRelay → LineRelay) : (s.onRelay f).motion = s.motion := rfl
@[simp] theorem State.onRelay_sup (s : State) (f : LineRelay → LineRelay) : (s.onRelay f).sup = s.sup := rfl
@[simp] theorem State.onRelay_alert (s : State) (f : LineRelay → LineRelay) : (s.onRelay f).alert = s.alert := rfl
@[simp] theorem State.onRelay_modeCtl (s : State) (f : LineRelay → LineRelay) : (s.onRelay f).modeCtl = s.modeCtl := rfl
@[simp] theorem State.onRelay_settings (s : State) (f : LineRelay → LineRelay) : (s.onRelay f).settings = s.settings := rfl
@[simp] theorem State.onRelay_pins (s : State) (f : LineRelay → LineRelay) : (s.onRelay f).pins = s.pins := rfl
@[simp] theorem State.onRelay_pending (s : State) (f : LineRelay → LineRelay) : (s.onRelay f).pending = s.pending := rfl

@[simp] theorem State.onPress_relay (s : State) (f : PressArbiter → PressArbiter) : (s.onPress f).relay = s.relay := rfl
@[simp] theorem State.onPress_press (s : State) (f : PressArbiter → PressArbiter) : (s.onPress f).press = f s.press := rfl
@[simp] theorem State.onPress_motion (s : State) (f : PressArbiter → PressArbiter) : (s.onPress f).motion = s.motion := rfl
@[simp] theorem State.onPress_sup (s : State) (f : PressArbiter → PressArbiter) : (s.onPress f).sup = s.sup := rfl
@[simp] theorem State.onPress_alert (s : State) (f : PressArbiter → PressArbiter) : (s.onPress f).alert = s.alert := rfl
@[simp] theorem State.onPress_modeCtl (s : State) (f : PressArbiter → PressArbiter) : (s.onPress f).modeCtl = s.modeCtl := rfl
@[simp] theorem State.onPress_settings (s : State) (f : PressArbiter → PressArbiter) : (s.onPress f).settings = s.settings := rfl
@[simp] theorem State.onPress_pins (s : State) (f : PressArbiter → PressArbiter) : (s.onPress f).pins = s.pins := rfl
@[simp] theorem State.onPress_pending (s : State) (f : PressArbiter → PressArbiter) : (s.onPress f).pending = s.pending := rfl

@[simp] theorem State.onMotion_relay (s : State) (f : MotionSequencer → MotionSequencer) : (s.onMotion f).relay = s.relay := rfl
@[simp] theorem State.onMotion_press (s : State) (f : MotionSequencer → MotionSequencer) : (s.onMotion f).press = s.press := rfl
@[simp] theorem State.onMotion_motion (s : State) (f : MotionSequencer → MotionSequencer) : (s.onMotion f).motion = f s.motion := rfl
@[simp] theorem State.onMotion_sup (s : State) (f : MotionSequencer → MotionSequencer) : (s.onMotion f).sup = s.sup := rfl
@[simp] theorem State.onMotion_alert (s : State) (f : MotionSequencer → MotionSequencer) : (s.onMotion f).alert = s.alert := rfl
@[simp] theorem State.onMotion_modeCtl (s : State) (f : MotionSequencer → MotionSequencer) : (s.onMotion f).modeCtl = s.modeCtl := rfl
@[simp] theorem State.onMotion_settings (s : State) (f : MotionSequencer → MotionSequencer) : (s.onMotion f).settings = s.settings := rfl
@[simp] theorem State.onMotion_pins (s : State) (f : MotionSequencer → MotionSequencer) : (s.onMotion f).pins = s.pins := rfl
@[simp] theorem State.onMotion_pending (s : State) (f : MotionSequencer → MotionSequencer) : (s.onMotion f).pending = s.pending := rfl

@[simp] theorem State.onSup_relay (s : State) (f : Supervisor → Supervisor) : (s.onSup f).relay = s.relay := rfl
@[simp] theorem State.onSup_press (s : State) (f : Supervisor → Supervisor) : (s.onSup f).press = s.press := rfl
@[simp] theorem State.onSup_motion (s : State) (f : Supervisor → Supervisor) : (s.onSup f).motion = s.motion := rfl
@[simp] theorem State.onSup_sup (s : State) (f : Supervisor → Supervisor) : (s.onSup f).sup = f s.sup := rfl
@[simp] theorem State.onSup_alert (s : State) (f : Supervisor → Supervisor) : (s.onSup f).alert = s.alert := rfl
@[simp] theorem State.onSup_modeCtl (s : State) (f : Supervisor → Supervisor) : (s.onSup f).modeCtl = s.modeCtl := rfl
@[simp] theorem State.onSup_settings (s : State) (f : Supervisor → Supervisor) : (s.onSup f).settings = s.settings := rfl
@[simp] theorem State.onSup_pins (s : State) (f : Supervisor → Supervisor) : (s.onSup f).pins = s.pins := rfl
@[simp] theorem State.onSup_pending (s : State) (f : Supervisor → Supervisor) : (s.onSup f).pending = s.pending := rfl

@[simp] theorem State.onAlert_relay (s : State) (f : AlertUnit → AlertUnit) : (s.onAlert f).relay = s.relay := rfl
@[simp] theorem State.onAlert_press (s : State) (f : AlertUnit → AlertUnit) : (s.onAlert f).press = s.press := rfl
@[simp] theorem State.onAlert_motion (s : State) (f : AlertUnit → AlertUnit) : (s.onAlert f).motion = s.motion := rfl
@[simp] theorem State.onAlert_sup (s : State) (f : AlertUnit → AlertUnit) : (s.onAlert f).sup = s.sup := rfl
@[simp] theorem State.onAlert_alert (s : State) (f : AlertUnit → AlertUnit) : (s.onAlert f).alert = f s.alert := rfl
@[simp] theorem State.onAlert_modeCtl (s : State) (f : AlertUnit → AlertUnit) : (s.onAlert f).modeCtl = s.modeCtl := rfl
@[simp] theorem State.onAlert_settings (s : State) (f : AlertUnit → AlertUnit) : (s.onAlert f).settings = s.settings := rfl
@[simp] theorem State.onAlert_pins (s : State) (f : AlertUnit → AlertUnit) : (s.onAlert f).pins = s.pins := rfl
@[simp] theorem State.onAlert_pending (s : State) (f : AlertUnit → AlertUnit) : (s.onAlert f).pending = s.pending := rfl

@[simp] theorem State.onMode_relay (s : State) (f : ModeControl → ModeControl) : (s.onMode f).relay = s.relay := rfl
@[simp] theorem State.onMode_press (s : State) (f : ModeControl → ModeControl) : (s.onMode f).press = s.press := rfl
@[simp] theorem State.onMode_motion (s : State) (f : ModeControl → ModeControl) : (s.onMode f).motion = s.motion := rfl
@[simp] theorem State.onMode_sup (s : State) (f : ModeControl → ModeControl) : (s.onMode f).sup = s.sup := rfl
@[simp] theorem State.onMode_alert (s : State) (f : ModeControl → ModeControl) : (s.onMode f).alert = s.alert := rfl
@[simp] theorem State.onMode_modeCtl (s : State) (f : ModeControl → ModeControl) : (s.onMode f).modeCtl = f s.modeCtl := rfl
@[simp] theorem State.onMode_settings (s : State) (f : ModeControl → ModeControl) : (s.onMode f).settings = s.settings := rfl
@[simp] theorem State.onMode_pins (s : State) (f : ModeControl → ModeControl) : (s.onMode f).pins = s.pins := rfl
@[simp] theorem State.onMode_pending (s : State) (f : ModeControl → ModeControl) : (s.onMode f).pending = s.pending := rfl

@[simp] theorem State.onPins_relay (s : State) (f : Pins → Pins) : (s.onPins f).relay = s.relay := rfl
@[simp] theorem State.onPins_press (s : State) (f : Pins → Pins) : (s.onPins f).press = s.press := rfl
@[simp] theorem State.onPins_motion (s : State) (f : Pins → Pins) : (s.onPins f).motion = s.motion := rfl
@[simp] theorem State.onPins_sup (s : State) (f : Pins → Pins) : (s.onPins f).sup = s.sup := rfl
@[simp] theorem State.onPins_alert (s : State) (f : Pins → Pins) : (s.onPins f).alert = s.alert := rfl
@[simp] theorem State.onPins_modeCtl (s : State) (f : Pins → Pins) : (s.onPins f).modeCtl = s.modeCtl := rfl
@[simp] theorem State.onPins_settings (s : State) (f : Pins → Pins) : (s.onPins f).settings = s.settings := rfl
@[simp] theorem State.onPins_pins (s : State) (f : Pins → Pins) : (s.onPins f).pins = f s.pins := rfl
@[simp] theorem State.onPins_pending (s : State) (f : Pins → Pins) : (s.onPins f).pending = s.pending := rfl

@[simp] theorem State.withPending_relay (s : State) (q : List Instr) : (s.withPending q).relay = s.relay := rfl
@[simp] theorem State.withPending_press (s : State) (q : List Instr) : (s.withPending q).press = s.press := rfl
@[simp] theorem State.withPending_motion (s : State) (q : List Instr) : (s.withPending q).motion = s.motion := rfl
@[simp] theorem State.withPending_sup (s : State) (q : List Instr) : (s.withPending q).sup = s.sup := rfl
@[simp] theorem State.withPending_alert (s : State) (q : List Instr) : (s.withPending q).alert = s.alert := rfl
@[simp] theorem State.withPending_modeCtl (s : State) (q : List Instr) : (s.withPending q).modeCtl = s.modeCtl := rfl
@[simp] theorem State.withPending_settings (s : State) (q : List Instr) : (s.withPending q).settings = s.settings := rfl
@[simp] theorem State.withPending_pins (s : State) (q : List Instr) : (s.withPending q).pins = s.pins := rfl
@[simp] theorem State.withPending_pending (s : State) (q : List Instr) : (s.withPending q).pending = q := rfl

/-! ### Entries -/

@[simp] theorem State.modModel_relay (s : State) (m : ModelId) (f : Model → Model) : (s.modModel m f).relay = s.relay := rfl
@[simp] theorem State.modModel_press (s : State) (m : ModelId) (f : Model → Model) : (s.modModel m f).press = s.press := rfl
@[simp] theorem State.modModel_sup (s : State) (m : ModelId) (f : Model → Model) : (s.modModel m f).sup = s.sup := rfl
@[simp] theorem State.modModel_alert (s : State) (m : ModelId) (f : Model → Model) : (s.modModel m f).alert = s.alert := rfl
@[simp] theorem State.modModel_modeCtl (s : State) (m : ModelId) (f : Model → Model) : (s.modModel m f).modeCtl = s.modeCtl := rfl
@[simp] theorem State.modModel_settings (s : State) (m : ModelId) (f : Model → Model) : (s.modModel m f).settings = s.settings := rfl
@[simp] theorem State.modModel_pins (s : State) (m : ModelId) (f : Model → Model) : (s.modModel m f).pins = s.pins := rfl
@[simp] theorem State.modModel_pending (s : State) (m : ModelId) (f : Model → Model) : (s.modModel m f).pending = s.pending := rfl

@[simp] theorem State.modWatch_relay (s : State) (m : ModelId) (f : Watch → Watch) : (s.modWatch m f).relay = s.relay := rfl
@[simp] theorem State.modWatch_press (s : State) (m : ModelId) (f : Watch → Watch) : (s.modWatch m f).press = s.press := rfl
@[simp] theorem State.modWatch_motion (s : State) (m : ModelId) (f : Watch → Watch) : (s.modWatch m f).motion = s.motion := rfl
@[simp] theorem State.modWatch_alert (s : State) (m : ModelId) (f : Watch → Watch) : (s.modWatch m f).alert = s.alert := rfl
@[simp] theorem State.modWatch_modeCtl (s : State) (m : ModelId) (f : Watch → Watch) : (s.modWatch m f).modeCtl = s.modeCtl := rfl
@[simp] theorem State.modWatch_settings (s : State) (m : ModelId) (f : Watch → Watch) : (s.modWatch m f).settings = s.settings := rfl
@[simp] theorem State.modWatch_pins (s : State) (m : ModelId) (f : Watch → Watch) : (s.modWatch m f).pins = s.pins := rfl
@[simp] theorem State.modWatch_pending (s : State) (m : ModelId) (f : Watch → Watch) : (s.modWatch m f).pending = s.pending := rfl

@[simp] theorem State.modNode_press (s : State) (n : NodeId) (f : NodeEntry → NodeEntry) : (s.modNode n f).press = s.press := rfl
@[simp] theorem State.modNode_motion (s : State) (n : NodeId) (f : NodeEntry → NodeEntry) : (s.modNode n f).motion = s.motion := rfl
@[simp] theorem State.modNode_sup (s : State) (n : NodeId) (f : NodeEntry → NodeEntry) : (s.modNode n f).sup = s.sup := rfl
@[simp] theorem State.modNode_alert (s : State) (n : NodeId) (f : NodeEntry → NodeEntry) : (s.modNode n f).alert = s.alert := rfl
@[simp] theorem State.modNode_modeCtl (s : State) (n : NodeId) (f : NodeEntry → NodeEntry) : (s.modNode n f).modeCtl = s.modeCtl := rfl
@[simp] theorem State.modNode_settings (s : State) (n : NodeId) (f : NodeEntry → NodeEntry) : (s.modNode n f).settings = s.settings := rfl
@[simp] theorem State.modNode_pins (s : State) (n : NodeId) (f : NodeEntry → NodeEntry) : (s.modNode n f).pins = s.pins := rfl
@[simp] theorem State.modNode_pending (s : State) (n : NodeId) (f : NodeEntry → NodeEntry) : (s.modNode n f).pending = s.pending := rfl

@[simp] theorem State.modEntry_relay (s : State) (i : EntryIx) (f : Button → Button) : (s.modEntry i f).relay = s.relay := rfl
@[simp] theorem State.modEntry_motion (s : State) (i : EntryIx) (f : Button → Button) : (s.modEntry i f).motion = s.motion := rfl
@[simp] theorem State.modEntry_sup (s : State) (i : EntryIx) (f : Button → Button) : (s.modEntry i f).sup = s.sup := rfl
@[simp] theorem State.modEntry_alert (s : State) (i : EntryIx) (f : Button → Button) : (s.modEntry i f).alert = s.alert := rfl
@[simp] theorem State.modEntry_modeCtl (s : State) (i : EntryIx) (f : Button → Button) : (s.modEntry i f).modeCtl = s.modeCtl := rfl
@[simp] theorem State.modEntry_settings (s : State) (i : EntryIx) (f : Button → Button) : (s.modEntry i f).settings = s.settings := rfl
@[simp] theorem State.modEntry_pins (s : State) (i : EntryIx) (f : Button → Button) : (s.modEntry i f).pins = s.pins := rfl
@[simp] theorem State.modEntry_pending (s : State) (i : EntryIx) (f : Button → Button) : (s.modEntry i f).pending = s.pending := rfl

@[simp] theorem State.setWaits_relay (s : State) (m : ModelId) (l : List Request) : (s.setWaits m l).relay = s.relay := rfl
@[simp] theorem State.setWaits_motion (s : State) (m : ModelId) (l : List Request) : (s.setWaits m l).motion = s.motion := rfl
@[simp] theorem State.setWaits_sup (s : State) (m : ModelId) (l : List Request) : (s.setWaits m l).sup = s.sup := rfl
@[simp] theorem State.setWaits_alert (s : State) (m : ModelId) (l : List Request) : (s.setWaits m l).alert = s.alert := rfl
@[simp] theorem State.setWaits_modeCtl (s : State) (m : ModelId) (l : List Request) : (s.setWaits m l).modeCtl = s.modeCtl := rfl
@[simp] theorem State.setWaits_settings (s : State) (m : ModelId) (l : List Request) : (s.setWaits m l).settings = s.settings := rfl
@[simp] theorem State.setWaits_pins (s : State) (m : ModelId) (l : List Request) : (s.setWaits m l).pins = s.pins := rfl
@[simp] theorem State.setWaits_pending (s : State) (m : ModelId) (l : List Request) : (s.setWaits m l).pending = s.pending := rfl

@[simp] theorem State.onTallies_relay (s : State) (f : Tallies → Tallies) : (s.onTallies f).relay = s.relay := rfl
@[simp] theorem State.onTallies_motion (s : State) (f : Tallies → Tallies) : (s.onTallies f).motion = s.motion := rfl
@[simp] theorem State.onTallies_sup (s : State) (f : Tallies → Tallies) : (s.onTallies f).sup = s.sup := rfl
@[simp] theorem State.onTallies_alert (s : State) (f : Tallies → Tallies) : (s.onTallies f).alert = s.alert := rfl
@[simp] theorem State.onTallies_modeCtl (s : State) (f : Tallies → Tallies) : (s.onTallies f).modeCtl = s.modeCtl := rfl
@[simp] theorem State.onTallies_settings (s : State) (f : Tallies → Tallies) : (s.onTallies f).settings = s.settings := rfl
@[simp] theorem State.onTallies_pins (s : State) (f : Tallies → Tallies) : (s.onTallies f).pins = s.pins := rfl
@[simp] theorem State.onTallies_pending (s : State) (f : Tallies → Tallies) : (s.onTallies f).pending = s.pending := rfl

@[simp] theorem State.modMarks_relay (s : State) (id : FaultId) (f : Marks → Marks) : (s.modMarks id f).relay = s.relay := rfl
@[simp] theorem State.modMarks_press (s : State) (id : FaultId) (f : Marks → Marks) : (s.modMarks id f).press = s.press := rfl
@[simp] theorem State.modMarks_motion (s : State) (id : FaultId) (f : Marks → Marks) : (s.modMarks id f).motion = s.motion := rfl
@[simp] theorem State.modMarks_alert (s : State) (id : FaultId) (f : Marks → Marks) : (s.modMarks id f).alert = s.alert := rfl
@[simp] theorem State.modMarks_modeCtl (s : State) (id : FaultId) (f : Marks → Marks) : (s.modMarks id f).modeCtl = s.modeCtl := rfl
@[simp] theorem State.modMarks_settings (s : State) (id : FaultId) (f : Marks → Marks) : (s.modMarks id f).settings = s.settings := rfl
@[simp] theorem State.modMarks_pins (s : State) (id : FaultId) (f : Marks → Marks) : (s.modMarks id f).pins = s.pins := rfl
@[simp] theorem State.modMarks_pending (s : State) (id : FaultId) (f : Marks → Marks) : (s.modMarks id f).pending = s.pending := rfl

@[simp] theorem State.onBayCounters_press (s : State) (f : BayCounters → BayCounters) : (s.onBayCounters f).press = s.press := rfl
@[simp] theorem State.onBayCounters_motion (s : State) (f : BayCounters → BayCounters) : (s.onBayCounters f).motion = s.motion := rfl
@[simp] theorem State.onBayCounters_sup (s : State) (f : BayCounters → BayCounters) : (s.onBayCounters f).sup = s.sup := rfl
@[simp] theorem State.onBayCounters_alert (s : State) (f : BayCounters → BayCounters) : (s.onBayCounters f).alert = s.alert := rfl
@[simp] theorem State.onBayCounters_modeCtl (s : State) (f : BayCounters → BayCounters) : (s.onBayCounters f).modeCtl = s.modeCtl := rfl
@[simp] theorem State.onBayCounters_settings (s : State) (f : BayCounters → BayCounters) : (s.onBayCounters f).settings = s.settings := rfl
@[simp] theorem State.onBayCounters_pins (s : State) (f : BayCounters → BayCounters) : (s.onBayCounters f).pins = s.pins := rfl
@[simp] theorem State.onBayCounters_pending (s : State) (f : BayCounters → BayCounters) : (s.onBayCounters f).pending = s.pending := rfl

@[simp] theorem State.onSpineCounters_press (s : State) (f : SpineCounters → SpineCounters) : (s.onSpineCounters f).press = s.press := rfl
@[simp] theorem State.onSpineCounters_motion (s : State) (f : SpineCounters → SpineCounters) : (s.onSpineCounters f).motion = s.motion := rfl
@[simp] theorem State.onSpineCounters_sup (s : State) (f : SpineCounters → SpineCounters) : (s.onSpineCounters f).sup = s.sup := rfl
@[simp] theorem State.onSpineCounters_alert (s : State) (f : SpineCounters → SpineCounters) : (s.onSpineCounters f).alert = s.alert := rfl
@[simp] theorem State.onSpineCounters_modeCtl (s : State) (f : SpineCounters → SpineCounters) : (s.onSpineCounters f).modeCtl = s.modeCtl := rfl
@[simp] theorem State.onSpineCounters_settings (s : State) (f : SpineCounters → SpineCounters) : (s.onSpineCounters f).settings = s.settings := rfl
@[simp] theorem State.onSpineCounters_pins (s : State) (f : SpineCounters → SpineCounters) : (s.onSpineCounters f).pins = s.pins := rfl
@[simp] theorem State.onSpineCounters_pending (s : State) (f : SpineCounters → SpineCounters) : (s.onSpineCounters f).pending = s.pending := rfl

theorem State.modModel_model (s : State) (m k : ModelId) (f : Model → Model) :
    (s.modModel m f).model k = if k = m then f (s.model m) else s.model k := tget_tmod _ _ _ _

@[simp] theorem State.modModel_model_self (s : State) (m : ModelId) (f : Model → Model) :
    (s.modModel m f).model m = f (s.model m) := tget_tmod_self _ _ _

theorem State.modWatch_watch (s : State) (m k : ModelId) (f : Watch → Watch) :
    (s.modWatch m f).watch k = if k = m then f (s.watch m) else s.watch k := tget_tmod _ _ _ _

@[simp] theorem State.modWatch_watch_self (s : State) (m : ModelId) (f : Watch → Watch) :
    (s.modWatch m f).watch m = f (s.watch m) := tget_tmod_self _ _ _

/-- An update that changes nothing. -/
@[simp] theorem State.modWatch_id (s : State) (m : ModelId) : (s.modWatch m fun w => w) = s := by
  simp [State.modWatch, State.onSup, tmod]

theorem State.modNode_node (s : State) (n k : NodeId) (f : NodeEntry → NodeEntry) :
    (s.modNode n f).node k = if k = n then f (s.node n) else s.node k := tget_tmod _ _ _ _

@[simp] theorem State.modNode_node_self (s : State) (n : NodeId) (f : NodeEntry → NodeEntry) :
    (s.modNode n f).node n = f (s.node n) := tget_tmod_self _ _ _

theorem State.modEntry_entry (s : State) (i j : EntryIx) (f : Button → Button) :
    (s.modEntry i f).entry j = if j = i then (s.entry i).map f else s.entry j := tget_tmod _ _ _ _

theorem State.setWaits_waits (s : State) (m k : ModelId) (l : List Request) :
    (s.setWaits m l).waits k = if k = m then l else s.waits k := tget_tput _ _ _ _

@[simp] theorem State.setWaits_waits_self (s : State) (m : ModelId) (l : List Request) :
    (s.setWaits m l).waits m = l := tget_tput_self _ _ _

@[simp] theorem State.onTallies_waits (s : State) (f : Tallies → Tallies) (m : ModelId) :
    (s.onTallies f).waits m = s.waits m := rfl

/-- A key is its panel and its button. -/
theorem Key.ext_parts {k l : Key} (n : k.node = l.node) (b : k.button = l.button) : k = l := by
  rw [show k = ⟨k.node, k.button⟩ from rfl, n, b]

/-- A read of the fault table after an update of one entry. -/
theorem FaultTable.get_modify (t : FaultTable) (id k : FaultId) (f : Marks → Marks) :
    (t.modify id f).get k = if k = id then f (t.get id) else t.get k := by
  have inj : ∀ a b : ModelKind, a.index = b.index → a = b := by
    intro a b; cases a <;> cases b <;> simp [ModelKind.index]
  have injB : ∀ a b : BayKind, a.index = b.index → a = b := by
    intro a b; cases a <;> cases b <;> simp [BayKind.index]
  cases id <;> cases k <;> simp only [FaultTable.modify, FaultTable.get, tget_tmod, FaultId.model.injEq,
    FaultId.nodeSilent.injEq, FaultId.buttonStuck.injEq, FaultId.bay.injEq, reduceCtorEq, if_false]
  · rename_i a m b n
    by_cases h : b = a
    · subst h; by_cases e : n = m <;> simp [e]
    · have : b.index ≠ a.index := fun e => h (inj _ _ e)
      simp [this, h]
  · rename_i a b
    by_cases h : b = a
    · simp [h]
    · by_cases n : b.node = a.node
      · have : b.button ≠ a.button := fun e => h (Key.ext_parts n e)
        simp [n, this, h]
      · simp [n, h]
  · rename_i a b
    by_cases h : b = a
    · simp [h]
    · have : b.index ≠ a.index := fun e => h (injB _ _ e)
      simp [this, h]

theorem State.modMarks_marks (s : State) (id k : FaultId) (f : Marks → Marks) :
    (s.modMarks id f).marks k = if k = id then f (s.marks id) else s.marks k := FaultTable.get_modify _ _ _ _

@[simp] theorem State.modMarks_marks_self (s : State) (id : FaultId) (f : Marks → Marks) :
    (s.modMarks id f).marks id = f (s.marks id) := by simp [State.modMarks_marks]

theorem bump_le (largest n : Nat) (h : n ≤ largest) : bump largest n ≤ largest := by
  unfold bump; split <;> omega

end Sys2Proof.Machine
end

