-- ==== Sys2Proof/Laws/Frames.lean ====
section
/-!
SUPPORT. What the operations of the Alert Unit, the Motion Sequencer, the fault table, Mode Control and the Press
Arbiter leave alone: the Line Relay, the SETTINGS record, the pins and the queue of commands.
-/

namespace Sys2Proof.Machine

/-- The Line Relay, the SETTINGS record, the pins and the queue of commands. -/
def State.outer (s : State) : LineRelay × Settings × Pins × List Instr := (s.relay, s.settings, s.pins, s.pending)

theorem State.relay_of_outer {s t : State} (h : t.outer = s.outer) : t.relay = s.relay := congrArg Prod.fst h

theorem State.settings_of_outer {s t : State} (h : t.outer = s.outer) : t.settings = s.settings :=
  congrArg (fun x => x.2.1) h

theorem State.pins_of_outer {s t : State} (h : t.outer = s.outer) : t.pins = s.pins := congrArg (fun x => x.2.2.1) h

theorem State.pending_of_outer {s t : State} (h : t.outer = s.outer) : t.pending = s.pending :=
  congrArg (fun x => x.2.2.2) h

@[simp] theorem State.onPress_outer (s : State) (f : PressArbiter → PressArbiter) : (s.onPress f).outer = s.outer := rfl

@[simp] theorem State.onMotion_outer (s : State) (f : MotionSequencer → MotionSequencer) : (s.onMotion f).outer = s.outer := rfl

@[simp] theorem State.onSup_outer (s : State) (f : Supervisor → Supervisor) : (s.onSup f).outer = s.outer := rfl

@[simp] theorem State.onAlert_outer (s : State) (f : AlertUnit → AlertUnit) : (s.onAlert f).outer = s.outer := rfl

@[simp] theorem State.onMode_outer (s : State) (f : ModeControl → ModeControl) : (s.onMode f).outer = s.outer := rfl

@[simp] theorem State.modModel_outer (s : State) (m : ModelId) (f : Model → Model) : (s.modModel m f).outer = s.outer := rfl

@[simp] theorem State.modWatch_outer (s : State) (m : ModelId) (f : Watch → Watch) : (s.modWatch m f).outer = s.outer := rfl

@[simp] theorem State.modEntry_outer (s : State) (i : EntryIx) (f : Button → Button) : (s.modEntry i f).outer = s.outer := rfl

@[simp] theorem State.setWaits_outer (s : State) (m : ModelId) (l : List Request) : (s.setWaits m l).outer = s.outer := rfl

@[simp] theorem State.onTallies_outer (s : State) (f : Tallies → Tallies) : (s.onTallies f).outer = s.outer := rfl

@[simp] theorem State.modMarks_outer (s : State) (id : FaultId) (f : Marks → Marks) : (s.modMarks id f).outer = s.outer := rfl

@[simp] theorem deriveShowing_outer (s : State) : (deriveShowing s).outer = s.outer := by simp [deriveShowing]

@[simp] theorem addRecord_outer (a : About) (s : State) : (addRecord a s).outer = s.outer := by simp [addRecord]

@[simp] theorem discardAcked_outer (s : State) : (discardAcked s).outer = s.outer := by simp [discardAcked]

@[simp] theorem loseRaise_outer (s : State) : (loseRaise s).outer = s.outer := by simp [loseRaise]

@[simp] theorem makeRecord_outer (a : About) (s : State) : (makeRecord a s).outer = s.outer := by simp [makeRecord, apply_ite State.outer]

@[simp] theorem raise_outer (a : About) (s : State) : (raise a s).outer = s.outer := by simp [raise, apply_ite State.outer]

@[simp] theorem alertLeft_outer (s : State) : (alertLeft s).outer = s.outer := by simp [alertLeft]

@[simp] theorem escalate_outer (n : Nat) (s : State) : (escalate n s).outer = s.outer := by simp [escalate]

@[simp] theorem ackNumber_outer (n : Nat) (s : State) : (ackNumber n s).1.outer = s.outer := by
  unfold ackNumber; split <;> simp

@[simp] theorem ackOverflow_outer (s : State) : (ackOverflow s).1.outer = s.outer := by simp [ackOverflow]

@[simp] theorem ackFromFloor_outer (s : State) : (ackFromFloor s).outer = s.outer := by simp [ackFromFloor]

@[simp] theorem clearNotice_outer (id : FaultId) (s : State) : (clearNotice id s).outer = s.outer := by simp [clearNotice]

@[simp] theorem quietTest_outer (b : Bool) (s : State) : (quietTest b s).outer = s.outer := by simp [quietTest, apply_ite State.outer]

@[simp] theorem flushList_outer (m : ModelId) (s : State) : (flushList m s).outer = s.outer := by simp [flushList]

@[simp] theorem flushAll_outer (s : State) : (flushAll s).outer = s.outer := by
  exact forEach_keeps State.outer _ (fun m t => flushList_outer m t) _ _

@[simp] theorem trimList_outer (m : ModelId) (d : Nat) (s : State) : (trimList m d s).outer = s.outer := by simp [trimList]

@[simp] theorem flushKey_outer (k : Key) (m : ModelId) (s : State) : (flushKey k m s).outer = s.outer := by simp [flushKey, apply_ite State.outer]

@[simp] theorem quench_outer (id : FaultId) (s : State) : (quench id s).outer = s.outer := by simp [quench]

@[simp] theorem syncHoldLimit_outer (m : ModelId) (a b : Model) (s : State) : (syncHoldLimit m a b s).outer = s.outer := by simp [syncHoldLimit, apply_ite State.outer]

@[simp] theorem syncOutOfService_outer (m : ModelId) (a b : Model) (s : State) : (syncOutOfService m a b s).outer = s.outer := by simp [syncOutOfService, apply_ite State.outer]

@[simp] theorem syncQuiet_outer (a b : Model) (s : State) : (syncQuiet a b s).outer = s.outer := by simp [syncQuiet, apply_ite State.outer]

@[simp] theorem syncDriveWatch_outer (m : ModelId) (a b : Model) (s : State) : (syncDriveWatch m a b s).outer = s.outer := by simp [syncDriveWatch, apply_ite State.outer]

@[simp] theorem changeModel_outer (m : ModelId) (f : Model → Model) (s : State) : (changeModel m f s).outer = s.outer := by simp [changeModel]

@[simp] theorem cutModel_outer (m : ModelId) (s : State) : (cutModel m s).outer = s.outer := by simp [cutModel]

@[simp] theorem pauseModel_outer (m : ModelId) (s : State) : (pauseModel m s).outer = s.outer := by simp [pauseModel]

@[simp] theorem resumeModel_outer (m : ModelId) (s : State) : (resumeModel m s).outer = s.outer := by simp [resumeModel]

@[simp] theorem pauseWindowEnds_outer (m : ModelId) (s : State) : (pauseWindowEnds m s).outer = s.outer := by simp [pauseWindowEnds, apply_ite State.outer]

@[simp] theorem holdModel_outer (m : ModelId) (s : State) : (holdModel m s).outer = s.outer := by simp [holdModel]

@[simp] theorem stopModel_outer (m : ModelId) (s : State) : (stopModel m s).outer = s.outer := by simp [stopModel]

@[simp] theorem tripModel_outer (m : ModelId) (s : State) : (tripModel m s).outer = s.outer := by simp [tripModel]

@[simp] theorem reseat_outer (m : ModelId) (s : State) : (reseat m s).outer = s.outer := by
  unfold reseat; split <;> simp

@[simp] theorem firstFeedback_outer (m : ModelId) (p : Int) (s : State) : (firstFeedback m p s).outer = s.outer := by simp [firstFeedback]

@[simp] theorem resumeAll_outer (s : State) : (resumeAll s).outer = s.outer := by
  exact forEach_keeps State.outer _ (fun m t => by split <;> simp) _ _

@[simp] theorem releaseTrip_outer (m : ModelId) (s : State) : (releaseTrip m s).outer = s.outer := by simp [releaseTrip, apply_ite State.outer]

@[simp] theorem latchAndRaise_outer (id : FaultId) (s : State) : (latchAndRaise id s).outer = s.outer := by
  unfold latchAndRaise; (repeat' split) <;> simp_all [apply_ite State.outer]

@[simp] theorem activate_outer (id : FaultId) (s : State) : (activate id s).outer = s.outer := by simp [activate, apply_ite State.outer]

@[simp] theorem report_outer (id : FaultId) (v : Bool) (s : State) : (report id v s).outer = s.outer := by simp [report, apply_ite State.outer]

@[simp] theorem driveReport_outer (m : ModelId) (s : State) : (driveReport m s).outer = s.outer := by simp [driveReport]

@[simp] theorem redetect_outer (c : Fin 15) (s : State) : (redetect c s).outer = s.outer := by
  exact forEach_keeps State.outer _ (fun m t => by simp) _ _

@[simp] theorem clearLatches_outer (l : List FaultId) (s : State) : (clearLatches l s).outer = s.outer := by
  unfold clearLatches
  rw [forEach_keeps State.outer _ (fun x t => by simp), forEach_keeps State.outer _ (fun x t => by split <;> simp),
    forEach_keeps State.outer _ (fun x t => by simp)]

@[simp] theorem quenchModel_outer (m : ModelId) (s : State) : (quenchModel m s).outer = s.outer := by
  exact forEach_keeps State.outer _ (fun m t => by simp) _ _

@[simp] theorem startCue_outer (m : ModelId) (c : CueId) (o : Owner) (p : Bool) (s : State) : (startCue m c o p s).outer = s.outer := by simp [startCue]

@[simp] theorem startRequest_outer (m : ModelId) (c : CueId) (o : Owner) (p : Bool) (s : State) : (startRequest m c o p s).1.outer = s.outer := by
  unfold startRequest; split <;> simp

@[simp] theorem removeEntry_outer (m : ModelId) (s : State) : (removeEntry m s).outer = s.outer := by simp [removeEntry]

@[simp] theorem serveEntry_outer (m : ModelId) (c : CueId) (s : State) : (serveEntry m c s).1.outer = s.outer := by
  have h := startRequest_outer m c .control false s
  unfold serveEntry; split <;> simp_all

@[simp] theorem sendFreeNotice_outer (m : ModelId) (s : State) : (sendFreeNotice m s).outer = s.outer := by simp [sendFreeNotice]

@[simp] theorem becomeFree_outer (m : ModelId) (s : State) : (becomeFree m s).outer = s.outer := by
  unfold becomeFree
  split
  · simp
  · rename_i e _
    have h := serveEntry_outer m e.cue s
    split <;> simp_all

@[simp] theorem freeIfStartable_outer (m : ModelId) (s : State) : (freeIfStartable m s).outer = s.outer := by simp [freeIfStartable, apply_ite State.outer]

@[simp] theorem freeAll_outer (s : State) : (freeAll s).outer = s.outer := by
  exact forEach_keeps State.outer _ (fun m t => freeIfStartable_outer m t) _ _

@[simp] theorem releaseModel_outer (m : ModelId) (s : State) : (releaseModel m s).outer = s.outer := by simp [releaseModel, apply_ite State.outer]

@[simp] theorem updateMark_outer (m : ModelId) (s : State) : (updateMark m s).outer = s.outer := by simp [updateMark, apply_ite State.outer]

@[simp] theorem setZone_outer (z : ZoneId) (x : Zone) (s : State) : (setZone z x s).outer = s.outer := by
  unfold setZone
  dsimp only
  split
  · simp
  · rw [forEach_keeps State.outer _ (fun x t => by split <;> simp)]; simp

@[simp] theorem reviewZone_outer (z : ZoneId) (s : State) : (reviewZone z s).outer = s.outer := by
  unfold reviewZone
  dsimp only
  split
  · split <;> simp
  · split
    all_goals try simp
    split <;> simp

@[simp] theorem reviewZones_outer (s : State) : (reviewZones s).outer = s.outer := by
  exact forEach_keeps State.outer _ (fun m t => reviewZone_outer m t) _ _

@[simp] theorem settleEnds_outer (z : ZoneId) (s : State) : (settleEnds z s).outer = s.outer := by simp [settleEnds, apply_ite State.outer]

@[simp] theorem applyFields_outer (m : ModelId) (c : ModelConfig) (s : State) : (applyFields m c s).outer = s.outer := by simp [applyFields]

@[simp] theorem applyCommit_outer (m : ModelId) (c : ModelConfig) (s : State) : (applyCommit m c s).outer = s.outer := by simp [applyCommit]

@[simp] theorem deferredCommit_outer (m : ModelId) (s : State) : (deferredCommit m s).outer = s.outer := by
  unfold deferredCommit
  split
  · dsimp only
    split
    · simp
    · split <;> simp
  · rfl

@[simp] theorem enterIdle_outer (m : ModelId) (s : State) : (enterIdle m s).outer = s.outer := by simp [enterIdle]

@[simp] theorem cueEnds_outer (m : ModelId) (c : CueId) (s : State) : (cueEnds m c s).outer = s.outer := by
  unfold cueEnds; split <;> simp

@[simp] theorem repeatSetpoint_outer (m : ModelId) (s : State) : (repeatSetpoint m s).outer = s.outer := by simp [repeatSetpoint]

@[simp] theorem sampleModel_outer (m : ModelId) (s : State) : (sampleModel m s).1.outer = s.outer := by
  unfold sampleModel
  dsimp only
  split
  all_goals try simp
  · split <;> simp
  · split
    · simp
    · dsimp only; split <;> simp

@[simp] theorem setMode_outer (g : GalleryMode) (s : State) : (setMode g s).outer = s.outer := by simp [setMode]

@[simp] theorem stopWakeTimer_outer (s : State) : (stopWakeTimer s).outer = s.outer := by simp [stopWakeTimer]

@[simp] theorem cutAllInPlay_outer (s : State) : (cutAllInPlay s).outer = s.outer := by
  exact forEach_keeps State.outer _ (fun m t => by split <;> simp) _ _

@[simp] theorem cutVisitors_outer (s : State) : (cutVisitors s).outer = s.outer := by
  exact forEach_keeps State.outer _ (fun m t => by split <;> simp) _ _

@[simp] theorem relaxFollowing_outer (s : State) : (relaxFollowing s).outer = s.outer := by
  exact forEach_keeps State.outer _ (fun m t => by split <;> simp) _ _

@[simp] theorem enterClosed_outer (s : State) : (enterClosed s).outer = s.outer := by simp [enterClosed]

@[simp] theorem enterService_outer (s : State) : (enterService s).outer = s.outer := by simp [enterService]

@[simp] theorem enterOpen_outer (s : State) : (enterOpen s).outer = s.outer := by simp [enterOpen]

@[simp] theorem enterDoze_outer (s : State) : (enterDoze s).outer = s.outer := by simp [enterDoze]

@[simp] theorem endWakeTest_outer (s : State) : (endWakeTest s).outer = s.outer := by simp [endWakeTest, apply_ite State.outer]

@[simp] theorem beginWake_outer (s : State) : (beginWake s).outer = s.outer := by simp [beginWake]

/-- A wake request leaves alone what its continuation leaves alone. -/
@[simp] theorem sendWake_outer (s : State) : (sendWake s).outer = s.outer := by simp [sendWake, apply_ite State.outer]

theorem withEntryTest_outer {taking : State → State} (h : ∀ t, (taking t).outer = t.outer) (s : State) :
    (withEntryTest taking s).outer = s.outer := by
  unfold withEntryTest; split <;> simp [h]

@[simp] theorem requestWake_outer (s : State) : (requestWake s).outer = s.outer := withEntryTest_outer sendWake_outer s

@[simp] theorem dozeEnds_outer (s : State) : (dozeEnds s).outer = s.outer := by simp [dozeEnds, apply_ite State.outer]

@[simp] theorem wakeLimitEnds_outer (s : State) : (wakeLimitEnds s).outer = s.outer := by
  unfold wakeLimitEnds
  split
  · rw [enterOpen_outer, forEach_keeps State.outer _ (fun m t => driveReport_outer m t)]; simp
  · rfl

@[simp] theorem modeCommand_outer (g : GalleryMode) (s : State) : (modeCommand g s).1.outer = s.outer := by
  unfold modeCommand; (repeat' split) <;> simp_all

@[simp] theorem lateExpires_outer (m : ModelId) (s : State) : (lateExpires m s).outer = s.outer := by
  unfold lateExpires; split <;> simp

@[simp] theorem missAtOnce_outer (e : ScheduleEntry) (s : State) : (missAtOnce e s).outer = s.outer := by
  unfold missAtOnce; split <;> simp

@[simp] theorem becomeDue_outer (m : ModelId) (s : State) : (becomeDue m s).outer = s.outer := by
  unfold becomeDue
  split
  · rfl
  · dsimp only; split <;> simp [withEntryTest_outer]

@[simp] theorem nextDue_outer (s : State) : (nextDue s).outer = s.outer := by
  unfold nextDue; split <;> simp

@[simp] theorem syncClock_outer (v : Clock) (s : State) : (syncClock v s).outer = s.outer := by
  unfold syncClock
  dsimp only
  rw [forEach_keeps State.outer _ (fun m t => becomeDue_outer m t)]; simp

@[simp] theorem scheduleStart_outer (m : ModelId) (c : CueId) (w : Clock) (l : Nat) (s : State) : (scheduleStart m c w l s).1.outer = s.outer := by
  unfold scheduleStart
  dsimp only
  split
  · rfl
  · split
    · rfl
    · dsimp only
      split <;> split <;> simp

@[simp] theorem markDirty_outer (n : NodeId) (s : State) : (markDirty n s).outer = s.outer := by simp [markDirty, apply_ite State.outer]

@[simp] theorem setLamp_outer (k : Key) (l : Lamp) (s : State) : (setLamp k l s).outer = s.outer := by simp [setLamp, apply_ite State.outer]

@[simp] theorem deriveLamp_outer (i : EntryIx) (s : State) : (deriveLamp i s).outer = s.outer := by
  unfold deriveLamp; split <;> simp

@[simp] theorem deriveLamps_outer (s : State) : (deriveLamps s).outer = s.outer := by
  exact forEach_keeps State.outer _ (fun m t => deriveLamp_outer m t) _ _

@[simp] theorem beginLockout_outer (i : EntryIx) (s : State) : (beginLockout i s).outer = s.outer := by simp [beginLockout]

@[simp] theorem beginLockoutOf_outer (k : Key) (s : State) : (beginLockoutOf k s).outer = s.outer := by
  unfold beginLockoutOf; split <;> simp

@[simp] theorem lockoutEnds_outer (k : Key) (s : State) : (lockoutEnds k s).outer = s.outer := by
  unfold lockoutEnds; split <;> simp

@[simp] theorem stuckBookkeeping_outer (i : EntryIx) (e : Edge) (s : State) : (stuckBookkeeping i e s).outer = s.outer := by
  unfold stuckBookkeeping; split <;> simp

@[simp] theorem clearSuspect_outer (i : EntryIx) (k : Key) (s : State) : (clearSuspect i k s).outer = s.outer := by simp [clearSuspect]

@[simp] theorem stuckExpires_outer (k : Key) (s : State) : (stuckExpires k s).outer = s.outer := by
  unfold stuckExpires; (repeat' split) <;> simp_all

@[simp] theorem joinList_outer (b : Button) (s : State) : (joinList b s).outer = s.outer := by simp [joinList, apply_ite State.outer]

@[simp] theorem serveList_outer (m : ModelId) (n : Nat) (s : State) : (serveList m n s).outer = s.outer := by
  induction n generalizing s with
  | zero => rfl
  | succ n ih =>
    unfold serveList
    split
    · rfl
    · rename_i r rest _
      have h := startRequest_outer m r.cue (.button r.key) (s.startsPaused r.key) s
      split <;> simp_all

@[simp] theorem takeFreeNotice_outer (m : ModelId) (s : State) : (takeFreeNotice m s).outer = s.outer := by simp [takeFreeNotice, apply_ite State.outer]

@[simp] theorem requestExpires_outer (m : ModelId) (k : Key) (s : State) : (requestExpires m k s).outer = s.outer := by simp [requestExpires, apply_ite State.outer]

@[simp] theorem pressStart_outer (i : EntryIx) (b : Button) (s : State) : (pressStart i b s).outer = s.outer := by
  have h := startRequest_outer b.modelId b.cueId (.button b.key) false s
  unfold pressStart; split <;> simp_all

@[simp] theorem press_outer (i : EntryIx) (b : Button) (s : State) : (press i b s).outer = s.outer := by
  unfold press; (repeat' split) <;> simp_all [apply_ite State.outer]

@[simp] theorem callPress_outer (i : EntryIx) (b : Button) (s : State) : (callPress i b s).outer = s.outer := by
  unfold callPress
  split
  · rfl
  · split <;> simp

@[simp] theorem callEdge_outer (i : EntryIx) (b : Button) (s : State) : (callEdge i b s).outer = s.outer := by
  simp [callEdge]

@[simp] theorem edgeCases_outer (i : EntryIx) (b : Button) (e : Edge) (s : State) : (edgeCases i b e s).outer = s.outer := by
  unfold edgeCases; (repeat' split) <;> simp_all

@[simp] theorem takeEdge_outer (i : EntryIx) (e : Edge) (s : State) : (takeEdge i e s).outer = s.outer := by
  unfold takeEdge
  dsimp only
  split
  · simp
  · split <;> split <;> simp

@[simp] theorem recordButton_outer (k : Key) (d : Bool) (s : State) : (recordButton k d s).outer = s.outer := by simp [recordButton]

@[simp] theorem panelButton_outer (n : NodeId) (d : BitVec 16) (b : ButtonIx) (s : State) : (panelButton n d b s).outer = s.outer := by
  unfold panelButton
  dsimp only
  split
  · rfl
  · split <;> simp

@[simp] theorem takePanel_outer (n : NodeId) (d : BitVec 16) (h : Bool) (s : State) : (takePanel n d h s).outer = s.outer := by
  unfold takePanel
  split
  · dsimp only
    have h := withEntryTest_outer (forEach_keeps State.outer _ (fun b t => panelButton_outer n d b t) allButtons) s
    split <;> simp [h]
  · rfl

@[simp] theorem dropButton_outer (k : Key) (s : State) : (dropButton k s).outer = s.outer := by
  unfold dropButton
  split
  · rfl
  · dsimp only
    split
    · simp
    · split <;> split <;> simp

@[simp] theorem emptyRecorded_outer (n : NodeId) (s : State) : (emptyRecorded n s).outer = s.outer := by
  unfold emptyRecorded
  dsimp only
  rw [forEach_keeps State.outer _ (fun b t => by simp)]; simp

@[simp] theorem storeButton_outer (i : EntryIx) (b : Option Button) (s : State) : (storeButton i b s).outer = s.outer := by
  unfold storeButton
  dsimp only
  split
  · simp
  · split <;> simp

end Sys2Proof.Machine
end

