-- ==== Sys2Proof/Laws/Models.lean ====
section
/-!
SUPPORT. What a change of one model does and leaves alone (R3): the lemmas of `changeModel` and of the operations it is
made of.
-/

namespace Sys2Proof.Machine

/-! ### The doze timer's test touches Mode Control only -/

theorem quietTest_eq (b : Bool) (s : State) : ∃ q, quietTest b s = { s with modeCtl := q } ∧
    q.mode = s.modeCtl.mode ∧ q.wakeTimer = s.modeCtl.wakeTimer := by
  simp only [quietTest]
  (repeat' split) <;> first
    | exact ⟨s.modeCtl, rfl, rfl, rfl⟩
    | exact ⟨_, rfl, rfl, rfl⟩

@[simp] theorem quietTest_press (b : Bool) (s : State) : (quietTest b s).press = s.press := by
  obtain ⟨q, h, -⟩ := quietTest_eq b s; rw [h]

@[simp] theorem quietTest_motion (b : Bool) (s : State) : (quietTest b s).motion = s.motion := by
  obtain ⟨q, h, -⟩ := quietTest_eq b s; rw [h]

@[simp] theorem quietTest_sup (b : Bool) (s : State) : (quietTest b s).sup = s.sup := by
  obtain ⟨q, h, -⟩ := quietTest_eq b s; rw [h]

@[simp] theorem quietTest_alert (b : Bool) (s : State) : (quietTest b s).alert = s.alert := by
  obtain ⟨q, h, -⟩ := quietTest_eq b s; rw [h]

@[simp] theorem quietTest_gallery (b : Bool) (s : State) : (quietTest b s).gallery = s.gallery := by
  obtain ⟨q, h, hm, -⟩ := quietTest_eq b s; rw [h]; exact hm

@[simp] theorem quietTest_wakeTimer (b : Bool) (s : State) :
    (quietTest b s).modeCtl.wakeTimer = s.modeCtl.wakeTimer := by
  obtain ⟨q, h, -, hw⟩ := quietTest_eq b s; rw [h]; exact hw

/-! ### Flushing a list -/

@[simp] theorem flushList_motion (m : ModelId) (s : State) : (flushList m s).motion = s.motion := by simp [flushList]

@[simp] theorem flushList_sup (m : ModelId) (s : State) : (flushList m s).sup = s.sup := by simp [flushList]

@[simp] theorem flushList_alert (m : ModelId) (s : State) : (flushList m s).alert = s.alert := by simp [flushList]

@[simp] theorem flushList_gallery (m : ModelId) (s : State) : (flushList m s).gallery = s.gallery := by
  simp [flushList, State.gallery]; exact quietTest_gallery _ _

theorem flushList_press (m : ModelId) (s : State) : (flushList m s).press = { s.press with
    waits := tput s.press.waits m []
    tallies := { s.press.tallies with flushed := addTally (s.waits m).length s.press.tallies.flushed } } := by
  simp [flushList, State.setWaits, State.onTallies]

theorem flushList_waits (m k : ModelId) (s : State) : (flushList m s).waits k = if k = m then [] else s.waits k := by
  simp only [State.waits, flushList_press, tget_tput]

/-! ### One change

`changeModel` is the update of the model followed by the reports of R3. Each report is said once, as an update or by what
it keeps; the lemmas of `changeModel` cite these. -/

/-- Whether a change of a model takes it out of service (R3). -/
def Model.leaves (old new : Model) : Bool := new.state.outOfService && new.state != old.state

/-- R97: a model that enters STOPPED, FAULTED or DISABLED has a run count of 0. -/
def Model.settled (old new : Model) : Model := if old.leaves new then { new with run := 0 } else new

/-- R94: the hold-limit timer after a change of its model. -/
def Model.holdTimerAfter (old new : Model) (t : Timer) : Timer :=
  if new.zoneHeld && !old.zoneHeld then some (new.config.holdLimit * 1000)
  else if old.zoneHeld && !new.zoneHeld then none else t

theorem syncHoldLimit_eq (m : ModelId) (old new : Model) (s : State) :
    syncHoldLimit m old new s = s.modWatch m fun w => { w with holdTimer := old.holdTimerAfter new w.holdTimer } := by
  simp only [syncHoldLimit, Model.holdTimerAfter]
  (repeat' split) <;> simp

theorem syncDriveWatch_eq (m : ModelId) (old new : Model) (s : State) :
    syncDriveWatch m old new s = s.modWatch m fun w => { w with
      driveSilence := if new.state == .enabling && old.state != .enabling then s.driveTimeout new.config
        else w.driveSilence } := by
  simp only [syncDriveWatch]
  split <;> simp

theorem syncQuiet_eq (old new : Model) (s : State) : ∃ q, syncQuiet old new s = { s with modeCtl := q } ∧
    q.mode = s.modeCtl.mode := by
  simp only [syncQuiet]
  (repeat' split) <;> first
    | exact ⟨s.modeCtl, rfl, rfl⟩
    | (obtain ⟨q, eq, mode, -⟩ := quietTest_eq _ s; exact ⟨q, eq, mode⟩)

@[simp] theorem syncQuiet_press (old new : Model) (s : State) : (syncQuiet old new s).press = s.press := by
  obtain ⟨q, eq, -⟩ := syncQuiet_eq old new s; rw [eq]

@[simp] theorem syncQuiet_motion (old new : Model) (s : State) : (syncQuiet old new s).motion = s.motion := by
  obtain ⟨q, eq, -⟩ := syncQuiet_eq old new s; rw [eq]

@[simp] theorem syncQuiet_sup (old new : Model) (s : State) : (syncQuiet old new s).sup = s.sup := by
  obtain ⟨q, eq, -⟩ := syncQuiet_eq old new s; rw [eq]

@[simp] theorem syncQuiet_alert (old new : Model) (s : State) : (syncQuiet old new s).alert = s.alert := by
  obtain ⟨q, eq, -⟩ := syncQuiet_eq old new s; rw [eq]

@[simp] theorem syncQuiet_gallery (old new : Model) (s : State) : (syncQuiet old new s).gallery = s.gallery := by
  obtain ⟨q, eq, mode⟩ := syncQuiet_eq old new s; rw [eq]; exact mode

/-- R3, R75, R97: what going out of service does to each block. -/
theorem syncOutOfService_eq (m : ModelId) (old new : Model) (s : State) :
    (syncOutOfService m old new s).alert = s.alert ∧ (syncOutOfService m old new s).gallery = s.gallery ∧
    (syncOutOfService m old new s).press = (if old.leaves new then (flushList m s).press else s.press) ∧
    (syncOutOfService m old new s).motion =
      (if old.leaves new then s.modModel m fun x => { x with run := 0 } else s).motion ∧
    (syncOutOfService m old new s).sup = { s.sup with
      faults := (if old.leaves new then quench (.model .follow m) s else s).sup.faults } := by
  by_cases leaves : old.leaves new = true
  · have eq : syncOutOfService m old new s =
        flushList m (quench (.model .follow m) (s.modModel m fun x => { x with run := 0 })) := if_pos leaves
    simp only [eq, leaves, if_true, flushList_alert, flushList_gallery, flushList_motion, flushList_sup, flushList_press]
    exact ⟨rfl, rfl, rfl, rfl, rfl⟩
  · have eq : syncOutOfService m old new s = s := if_neg leaves
    simp [eq, leaves]

/-- The state that `changeModel` hands to the tests of being out of service and quiet: the model changed, and its watch
record with it. -/
def State.changed (s : State) (m : ModelId) (new : Model) : State :=
  syncDriveWatch m (s.model m) new (syncHoldLimit m (s.model m) new (s.modModel m fun _ => new))

theorem State.changed_eq (s : State) (m : ModelId) (new : Model) : ∃ w, s.changed m new = { s with
    motion := (s.modModel m fun _ => new).motion, sup := { s.sup with watch := w } } := by
  simp only [State.changed, syncHoldLimit_eq, syncDriveWatch_eq]
  exact ⟨_, rfl⟩

@[simp] theorem State.changed_motion (s : State) (m : ModelId) (new : Model) :
    (s.changed m new).motion = (s.modModel m fun _ => new).motion := by obtain ⟨w, eq⟩ := s.changed_eq m new; rw [eq]

@[simp] theorem State.changed_press (s : State) (m : ModelId) (new : Model) : (s.changed m new).press = s.press := by
  obtain ⟨w, eq⟩ := s.changed_eq m new; rw [eq]

@[simp] theorem State.changed_alert (s : State) (m : ModelId) (new : Model) : (s.changed m new).alert = s.alert := by
  obtain ⟨w, eq⟩ := s.changed_eq m new; rw [eq]

@[simp] theorem State.changed_gallery (s : State) (m : ModelId) (new : Model) :
    (s.changed m new).gallery = s.gallery := by obtain ⟨w, eq⟩ := s.changed_eq m new; rw [eq]; rfl

@[simp] theorem State.changed_marks (s : State) (m : ModelId) (new : Model) (id : FaultId) :
    (s.changed m new).marks id = s.marks id := by obtain ⟨w, eq⟩ := s.changed_eq m new; rw [eq]; rfl

/-- `changeModel` in its two parts. -/
theorem changeModel_eq (m : ModelId) (f : Model → Model) (s : State) : changeModel m f s =
    syncQuiet (s.model m) (f (s.model m)) (syncOutOfService m (s.model m) (f (s.model m)) (s.changed m (f (s.model m)))) :=
  rfl

theorem changeModel_model (m k : ModelId) (f : Model → Model) (s : State) :
    (changeModel m f s).model k = if k = m then (s.model m).settled (f (s.model m)) else s.model k := by
  have one : ∀ j, (s.changed m (f (s.model m))).model j = if j = m then f (s.model m) else s.model j := fun j => by
    rw [← State.modModel_model s m j fun _ => f (s.model m)]; simp only [State.model, State.changed_motion]
  have out : (changeModel m f s).model k = State.model (if (s.model m).leaves (f (s.model m)) then
      (s.changed m (f (s.model m))).modModel m fun x => { x with run := 0 } else s.changed m (f (s.model m))) k := by
    rw [State.model, changeModel_eq, syncQuiet_motion, (syncOutOfService_eq _ _ _ _).2.2.2.1]; rfl
  rw [out, Model.settled]
  split
  · rw [State.modModel_model, one, one]
    split <;> simp_all
  · exact one k

theorem changeModel_model_self (m : ModelId) (f : Model → Model) (s : State) :
    (changeModel m f s).model m = (s.model m).settled (f (s.model m)) := by simp [changeModel_model]

theorem changeModel_model_ne {m k : ModelId} (h : k ≠ m) (f : Model → Model) (s : State) :
    (changeModel m f s).model k = s.model k := by simp [changeModel_model, h]

/-- A change of a model keeps the tables, the schedule list, the show clock and the notices. -/
theorem changeModel_motion (m : ModelId) (f : Model → Model) (s : State) :
    (changeModel m f s).motion = { s.motion with models := (changeModel m f s).motion.models } := by
  rw [changeModel_eq, syncQuiet_motion, (syncOutOfService_eq _ _ _ _).2.2.2.1]
  split <;> simp [State.modModel, State.onMotion]

@[simp] theorem changeModel_alert (m : ModelId) (f : Model → Model) (s : State) :
    (changeModel m f s).alert = s.alert := by simp [changeModel_eq, (syncOutOfService_eq _ _ _ _).1]

@[simp] theorem changeModel_gallery (m : ModelId) (f : Model → Model) (s : State) :
    (changeModel m f s).gallery = s.gallery := by simp [changeModel_eq, (syncOutOfService_eq _ _ _ _).2.1]

/-- The Press Arbiter sees a change of a model only where it goes out of service: its list is flushed (R75). -/
theorem changeModel_press (m : ModelId) (f : Model → Model) (s : State) :
    (changeModel m f s).press = if (s.model m).leaves (f (s.model m)) then (flushList m s).press else s.press := by
  rw [changeModel_eq, syncQuiet_press, (syncOutOfService_eq _ _ _ _).2.2.1]
  simp only [flushList_press, State.waits, State.changed_press]

theorem changeModel_waits (m k : ModelId) (f : Model → Model) (s : State) :
    (changeModel m f s).waits k =
      if k = m ∧ (s.model m).leaves (f (s.model m)) = true then [] else s.waits k := by
  have flushed := flushList_waits m k s
  simp only [State.waits, changeModel_press] at flushed ⊢
  by_cases h : (s.model m).leaves (f (s.model m)) = true <;> simp [h, flushed]

/-- R97: the marks after a change of a model. -/
theorem changeModel_marks (m : ModelId) (f : Model → Model) (s : State) (id : FaultId) :
    (changeModel m f s).marks id =
      if (s.model m).leaves (f (s.model m)) = true ∧ id = .model .follow m then
        { s.marks id with underlying := false, active := false } else s.marks id := by
  have out : (changeModel m f s).marks id = State.marks (if (s.model m).leaves (f (s.model m)) then
      quench (.model .follow m) (s.changed m (f (s.model m))) else s.changed m (f (s.model m))) id := by
    rw [State.marks, changeModel_eq, syncQuiet_sup, (syncOutOfService_eq _ _ _ _).2.2.2.2]
    rfl
  rw [out]
  by_cases leaves : (s.model m).leaves (f (s.model m)) = true
  · by_cases e : id = .model .follow m <;> simp [leaves, e, quench, State.modMarks_marks]
  · simp [leaves]

/-- What a change of a model keeps of the Supervisor besides its own watch record and the fault table. -/
theorem changeModel_sup (m : ModelId) (f : Model → Model) (s : State) :
    (changeModel m f s).sup = { s.sup with
      watch := (changeModel m f s).sup.watch, faults := (changeModel m f s).sup.faults } := by
  obtain ⟨w, eq⟩ := s.changed_eq m (f (s.model m))
  rw [changeModel_eq, syncQuiet_sup, (syncOutOfService_eq _ _ _ _).2.2.2.2, eq]

/-- R94, R103: the watch record of the changed model: its hold-limit timer follows ZONE in the hold-cause set, and its
drive silence timer starts on entry into ENABLING. The other records are kept. -/
theorem changeModel_watch (m k : ModelId) (f : Model → Model) (s : State) :
    (changeModel m f s).watch k =
      let old := s.model m
      let new := f old
      if k = m then { s.watch m with
        holdTimer := old.holdTimerAfter new (s.watch m).holdTimer
        driveSilence := if new.state == .enabling && old.state != .enabling then s.driveTimeout new.config
          else (s.watch m).driveSilence }
      else s.watch k := by
  have same : (changeModel m f s).watch k = (s.changed m (f (s.model m))).watch k := by
    simp only [State.watch, changeModel_eq, syncQuiet_sup, (syncOutOfService_eq _ _ _ _).2.2.2.2]
  rw [same, State.changed, syncDriveWatch_eq, syncHoldLimit_eq, State.modWatch_watch, State.modWatch_watch,
    State.modWatch_watch]
  simp only [if_true]
  split <;> rfl

theorem changeModel_watch_ne {m k : ModelId} (h : k ≠ m) (f : Model → Model) (s : State) :
    (changeModel m f s).watch k = s.watch k := by simp [changeModel_watch, h]

theorem changeModel_watch_self (m : ModelId) (f : Model → Model) (s : State) :
    (changeModel m f s).watch m =
      let old := s.model m
      let new := f old
      { s.watch m with
        holdTimer := old.holdTimerAfter new (s.watch m).holdTimer
        driveSilence := if new.state == .enabling && old.state != .enabling then s.driveTimeout new.config
          else (s.watch m).driveSilence } := by simp [changeModel_watch]

end Sys2Proof.Machine
end

