-- ==== Sys2Proof/Laws/Alerts.lean ====
section
/-!
SUPPORT. What the Alert Unit's operations and the reports to the fault table touch (R112, R114, R130).
-/

namespace Sys2Proof.Machine

/-! ### The Alert Unit's operations touch the Alert Unit only -/

theorem deriveShowing_eq (s : State) : deriveShowing s = { s with alert := (deriveShowing s).alert } := rfl

theorem makeRecord_eq (a : About) (s : State) : makeRecord a s = { s with alert := (makeRecord a s).alert } := by
  simp only [makeRecord]
  (repeat' split) <;> rfl

theorem raise_eq (a : About) (s : State) : raise a s = { s with alert := (raise a s).alert } := by
  simp only [raise]
  (repeat' split) <;> first | rfl | rw [deriveShowing_eq, makeRecord_eq]

@[simp] theorem raise_press (a : About) (s : State) : (raise a s).press = s.press := by rw [raise_eq]

@[simp] theorem raise_motion (a : About) (s : State) : (raise a s).motion = s.motion := by rw [raise_eq]

@[simp] theorem raise_sup (a : About) (s : State) : (raise a s).sup = s.sup := by rw [raise_eq]

@[simp] theorem raise_modeCtl (a : About) (s : State) : (raise a s).modeCtl = s.modeCtl := by rw [raise_eq]

@[simp] theorem raise_marks (a : About) (s : State) (id : FaultId) : (raise a s).marks id = s.marks id := by
  simp [State.marks]

/-- A state with the given Alert Unit and show clock; everything else is as at reset. -/
def alertView (u : AlertUnit) (c : Clock) : State :=
  { State.reset with alert := u, motion := { State.reset.motion with clock := c } }

/-- A raise reads the Alert Unit and the show clock only. -/
theorem raise_alert_view (a : About) (s : State) :
    (raise a s).alert = (raise a (alertView s.alert s.clock)).alert := by
  unfold raise makeRecord
  simp only [apply_ite State.alert, apply_ite deriveShowing]
  rfl

theorem raise_alert_congr (a : About) {s t : State} (ha : s.alert = t.alert) (hc : s.clock = t.clock) :
    (raise a s).alert = (raise a t).alert := by
  rw [raise_alert_view, ha, hc, ← raise_alert_view]

/-! ### The route of a kind -/

@[simp] theorem deriveShowing_routes (s : State) : (deriveShowing s).alert.routes = s.alert.routes := by
  simp only [deriveShowing, State.onAlert, showAs]
  (repeat' split) <;> rfl

@[simp] theorem makeRecord_routes (a : About) (s : State) : (makeRecord a s).alert.routes = s.alert.routes := by
  simp only [makeRecord]
  (repeat' split) <;> rfl

theorem raise_routes (a : About) (s : State) : (raise a s).alert.routes = s.alert.routes := by
  simp only [raise]
  (repeat' split) <;> simp

@[simp] theorem raise_route (a : About) (s : State) (c : Fin 15) : (raise a s).route c = s.route c := by
  simp [State.route, raise_routes]

end Sys2Proof.Machine
end

