-- ==== Sys2Proof/Laws/Exec.lean ====
section
/-!
SUPPORT. One lemma for each command: the operation that its meaning runs, and how (always, out of reset, or in a running
part).
-/

namespace Sys2Proof.Machine

/-- A running part is out of reset. -/
theorem State.outOfReset_of_running {s : State} (h : s.running = true) : s.outOfReset = true := by
  simp only [State.running, Bool.and_eq_true] at h
  simp [State.outOfReset, h.1.1, h.1.2]

theorem act_of_running {op : State → State} {s : State} (h : s.running = true) : act op s = .next (settle (op s)) := by
  simp [act, h]

theorem actOutOfReset_of_running {op : State → State} {s : State} (h : s.running = true) :
    actOutOfReset op s = .next (settle (op s)) := by simp [actOutOfReset, s.outOfReset_of_running h]

theorem exec_hardReset (bayStraps : BitVec 5) (rateStraps : BitVec 2) (stopOpen ackClosed : Bool) (s : State) :
    exec (.hardReset bayStraps rateStraps stopOpen ackClosed) s = actAlways (hardReset bayStraps rateStraps stopOpen ackClosed) s := rfl

theorem exec_softReset (stopOpen ackClosed : Bool) (s : State) :
    exec (.softReset stopOpen ackClosed) s = act (fun s => softReset (s.onPins fun p => { p with stopOpen, ackClosed })) s := rfl

theorem exec_stopKeyAsserted (s : State) :
    exec (.stopKeyAsserted) s = actOutOfReset stopAsserts s := rfl

theorem exec_stopKeyReleased (s : State) :
    exec (.stopKeyReleased) s = act stopReleases s := rfl

theorem exec_ackKeyPressed (s : State) :
    exec (.ackKeyPressed) s = act ackPressed s := rfl

theorem exec_ackKeyLetGo (s : State) :
    exec (.ackKeyLetGo) s = act ackLetGo s := rfl

theorem exec_ackPressTimerExpiry (s : State) :
    exec (.ackPressTimerExpiry) s = act ackHeld s := rfl

theorem exec_receiverGapTimeout (p : Port) (s : State) :
    exec (.receiverGapTimeout p) s = act (abandon p .waiting) s := rfl

theorem exec_framingError (p : Port) (s : State) :
    exec (.framingError p) s = act (abandon p .discarding) s := rfl

theorem exec_receiverIdleTimeout (p : Port) (s : State) :
    exec (.receiverIdleTimeout p) s = act (lineIdle p) s := rfl

theorem exec_bayFrameReceived (f : Frame) (s : State) :
    exec (.bayFrameReceived f) s = act (receive .bay classifyBay f) s := rfl

theorem exec_panel (node : NodeId) (downSet : BitVec 16) (hello : Bool) (s : State) :
    exec (.panel node downSet hello) s = act (takePanel node downSet hello) s := rfl

theorem exec_feedback (node : NodeId) (entries : List AxisEntry) (s : State) :
    exec (.feedback node entries) s = act (takeFeedback node entries) s := rfl

theorem exec_presence (node : NodeId) (occupiedSet : BitVec 8) (s : State) :
    exec (.presence node occupiedSet) s = act (takePresence node occupiedSet) s := rfl

theorem exec_ringCheckReturn (s : State) :
    exec (.ringCheckReturn) s = act ringReturn s := rfl

theorem exec_spineFrameReceived (f : Frame) (s : State) :
    exec (.spineFrameReceived f) s = act (receive .spine classifySpine f) s := rfl

theorem exec_nodeWrite (c : Sender) (index : Byte) (record : List Byte) (s : State) :
    exec (.nodeWrite c index record) s = act (nodeWrite c index record) s := rfl

theorem exec_buttonWrite (c : Sender) (index : Byte) (record : List Byte) (s : State) :
    exec (.buttonWrite c index record) s = act (buttonWrite c index record) s := rfl

theorem exec_cueWrite (c : Sender) (index : Byte) (record : List Byte) (s : State) :
    exec (.cueWrite c index record) s = act (cueWrite c index record) s := rfl

theorem exec_profileWrite (c : Sender) (index : Byte) (record : List Byte) (s : State) :
    exec (.profileWrite c index record) s = act (profileWrite c index record) s := rfl

theorem exec_modelWrite (c : Sender) (index : Byte) (record : List Byte) (s : State) :
    exec (.modelWrite c index record) s = act (modelWrite c index record) s := rfl

theorem exec_routeWrite (c : Sender) (index : Byte) (record : List Byte) (s : State) :
    exec (.routeWrite c index record) s = act (routeWrite c index record) s := rfl

theorem exec_patternWrite (c : Sender) (index : Byte) (record : List Byte) (s : State) :
    exec (.patternWrite c index record) s = act (patternWrite c index record) s := rfl

theorem exec_settingsWrite (c : Sender) (index : Byte) (record : List Byte) (s : State) :
    exec (.settingsWrite c index record) s = act (settingsWrite c index record) s := rfl

theorem exec_badTable (c : Sender) (payload : List Byte) (s : State) :
    exec (.badTable c payload) s = act (badTable c payload) s := rfl

theorem exec_tableRead (c : Sender) (payload : List Byte) (s : State) :
    exec (.tableRead c payload) s = act (tableRead c payload) s := rfl

theorem exec_enable (c : Sender) (args : List Byte) (s : State) :
    exec (.enable c args) s = act (enable c args) s := rfl

theorem exec_disable (c : Sender) (args : List Byte) (s : State) :
    exec (.disable c args) s = act (disable c args) s := rfl

theorem exec_commit (c : Sender) (args : List Byte) (s : State) :
    exec (.commit c args) s = act (commit c args) s := rfl

theorem exec_cueStart (c : Sender) (args : List Byte) (s : State) :
    exec (.cueStart c args) s = act (cueStart c args) s := rfl

theorem exec_cueStartScheduled (c : Sender) (args : List Byte) (s : State) :
    exec (.cueStartScheduled c args) s = act (cueStartScheduled c args) s := rfl

theorem exec_cueStop (c : Sender) (args : List Byte) (s : State) :
    exec (.cueStop c args) s = act (cueStop c args) s := rfl

theorem exec_mode (c : Sender) (args : List Byte) (s : State) :
    exec (.mode c args) s = act (modeChange c args) s := rfl

theorem exec_showSync (c : Sender) (args : List Byte) (s : State) :
    exec (.showSync c args) s = act (showSync c args) s := rfl

theorem exec_clearFault (c : Sender) (args : List Byte) (s : State) :
    exec (.clearFault c args) s = act (clearFault c args) s := rfl

theorem exec_resume (c : Sender) (args : List Byte) (s : State) :
    exec (.resume c args) s = act (resume c args) s := rfl

theorem exec_statusQuery (c : Sender) (args : List Byte) (s : State) :
    exec (.statusQuery c args) s = act (statusQuery c args) s := rfl

theorem exec_statusQueryClear (c : Sender) (args : List Byte) (s : State) :
    exec (.statusQueryClear c args) s = act (statusQueryClear c args) s := rfl

theorem exec_restart (c : Sender) (args : List Byte) (s : State) :
    exec (.restart c args) s = act (restart c args) s := rfl

theorem exec_alertAck (c : Sender) (payload : List Byte) (s : State) :
    exec (.alertAck c payload) s = act (alertAck c payload) s := rfl

theorem exec_bayOutFrameSent (s : State) :
    exec (.bayOutFrameSent) s = act bayLeft s := rfl

theorem exec_spineOutFrameSent (s : State) :
    exec (.spineOutFrameSent) s = act spineLeft s := rfl

theorem exec_sampleTimerExpiry (s : State) :
    exec (.sampleTimerExpiry) s = act sampleExpiry s := rfl

theorem exec_modelFreeNotice (m : ModelId) (s : State) :
    exec (.modelFreeNotice m) s = actOutOfReset (takeFreeNotice m) s := rfl

theorem exec_scheduleEntryDue (s : State) :
    exec (.scheduleEntryDue) s = act nextDue s := rfl

theorem exec_lateCountdownExpiry (m : ModelId) (s : State) :
    exec (.lateCountdownExpiry m) s = act (lateExpires m) s := rfl

theorem exec_pauseWindowExpiry (m : ModelId) (s : State) :
    exec (.pauseWindowExpiry m) s = act (pauseWindowEnds m) s := rfl

theorem exec_holdLimitExpiry (m : ModelId) (s : State) :
    exec (.holdLimitExpiry m) s = act (holdLimitEnds m) s := rfl

theorem exec_stuckTimerExpiry (k : Key) (s : State) :
    exec (.stuckTimerExpiry k) s = act (stuckExpires k) s := rfl

theorem exec_lockoutEnd (k : Key) (s : State) :
    exec (.lockoutEnd k) s = act (lockoutEnds k) s := rfl

theorem exec_requestExpiry (m : ModelId) (k : Key) (s : State) :
    exec (.requestExpiry m k) s = act (requestExpires m k) s := rfl

theorem exec_refreshTimerExpiry (n : NodeId) (s : State) :
    exec (.refreshTimerExpiry n) s = act (refreshEnds n) s := rfl

theorem exec_nodeSilenceExpiry (n : NodeId) (s : State) :
    exec (.nodeSilenceExpiry n) s = act (nodeSilenceEnds n) s := rfl

theorem exec_driveSilenceExpiry (m : ModelId) (s : State) :
    exec (.driveSilenceExpiry m) s = act (driveSilenceEnds m) s := rfl

theorem exec_zoneSettleExpiry (z : ZoneId) (s : State) :
    exec (.zoneSettleExpiry z) s = act (settleEnds z) s := rfl

theorem exec_spineSilenceExpiry (s : State) :
    exec (.spineSilenceExpiry) s = act spineSilenceEnds s := rfl

theorem exec_ringCheckTimerExpiry (s : State) :
    exec (.ringCheckTimerExpiry) s = act ringTimerEnds s := rfl

theorem exec_ringCheckMiss (s : State) :
    exec (.ringCheckMiss) s = act ringMiss s := rfl

theorem exec_bayCheckWindowEnd (s : State) :
    exec (.bayCheckWindowEnd) s = act windowEnds s := rfl

theorem exec_escalationDeadlineExpiry (number : Byte) (s : State) :
    exec (.escalationDeadlineExpiry number) s = act (escalate number.toNat) s := rfl

theorem exec_beaconPhaseEnd (s : State) :
    exec (.beaconPhaseEnd) s = act (fun s => s.onAlert phaseEnd) s := rfl

theorem exec_dozeTimerExpiry (s : State) :
    exec (.dozeTimerExpiry) s = act dozeEnds s := rfl

theorem exec_wakeLimitExpiry (s : State) :
    exec (.wakeLimitExpiry) s = act wakeLimitEnds s := rfl

theorem exec_resetNLow (s : State) :
    exec (.resetNLow) s = actAlways (fun s => hardResetHolds (s.onPins fun p => { p with resetNHigh := false, resetEdge := false })) s := rfl

theorem exec_clkStop (s : State) :
    exec (.clkStop) s = actAlways (fun s => s.onPins fun p => { p with clkRunning := false }) s := rfl

theorem exec_clkResume (s : State) :
    exec (.clkResume) s = actAlways clkResumes s := rfl

theorem exec_badCommand (c : Sender) (payload : List Byte) (s : State) :
    exec (.badCommand c payload) s = act (badCommand c payload) s := rfl

end Sys2Proof.Machine
end

