-- ==== Sys2Proof/Laws/Settle.lean ====
section
/-!
SUPPORT. The parts of a settling: deriving the lamps, BAY_OUT taking up a frame, SPINE_OUT taking up a frame. Each lemma
says what its part leaves alone.
-/

namespace Sys2Proof.Machine

/-! ### Lamps -/

theorem markDirty_unlit (n : NodeId) (s : State) : (markDirty n s).unlit = s.unlit := by
  unfold markDirty; split <;> rfl

theorem setLamp_unlit (k : Key) (l : Lamp) (s : State) : (setLamp k l s).unlit = s.unlit := by
  unfold setLamp; split
  · rfl
  · rw [markDirty_unlit]; rfl

theorem deriveLamp_unlit (i : EntryIx) (s : State) : (deriveLamp i s).unlit = s.unlit := by
  unfold deriveLamp; split
  · exact setLamp_unlit _ _ _
  · rfl

theorem deriveLamps_unlit (s : State) : (deriveLamps s).unlit = s.unlit :=
  forEach_keeps State.unlit _ (fun i t => deriveLamp_unlit i t) _ _

/-- Where two states differ in their lamps only, they differ in what a settling may change only. -/
theorem steady_of_unlit {s t : State} (h : t.unlit = s.unlit) : t.steady = s.steady := by
  have : t.unlit.steady = s.unlit.steady := congrArg State.steady h
  exact this

theorem deriveLamps_steady (s : State) : (deriveLamps s).steady = s.steady := steady_of_unlit (deriveLamps_unlit s)

/-! ### The transmitters -/

theorem takeBay_steady (s : State) : (takeBay s).steady = s.steady := by
  simp only [takeBay]
  (repeat' split) <;> rfl

theorem takeOffer_steady (s : State) : (takeOffer s).1.steady = s.steady := by
  simp only [takeOffer]
  (repeat' split) <;> try rfl
  simp only [State.steady, State.onAlert, List.map_map]
  congr 2
  apply List.map_congr_left
  intro r _
  simp only [Function.comp]
  split <;> rfl

theorem takeOffer_outer (s : State) : (takeOffer s).1.outer = s.outer := by
  simp only [takeOffer]
  (repeat' split) <;> rfl

theorem takeSpine_steady (s : State) : (takeSpine s).steady = s.steady := by
  unfold takeSpine
  split
  · rfl
  · split
    · rfl
    · have h := takeOffer_steady s
      split
      · rename_i t f heq
        have : t.steady = s.steady := by
          revert heq; split
          · intro e; rw [← h, e]
          · intro e; cases e
        rw [← this]; rfl
      · split <;> rfl

/-- A transmitter that sends takes nothing up. -/
theorem takeBay_of_sending {s : State} (h : s.relay.bayOut.isSome = true) : takeBay s = s := by simp [takeBay, h]

/-- A transmitter that sends takes nothing up. -/
theorem takeSpine_of_sending {s : State} (h : s.relay.spineOut.isSome = true) : takeSpine s = s := by
  simp [takeSpine, h]

/-! ### What equal steady states agree in -/

theorem State.motion_of_steady {s t : State} (h : t.steady = s.steady) : t.motion = s.motion :=
  congrArg (fun u => u.motion) h

theorem State.sup_of_steady {s t : State} (h : t.steady = s.steady) : t.sup = s.sup := congrArg (fun u => u.sup) h

theorem State.modeCtl_of_steady {s t : State} (h : t.steady = s.steady) : t.modeCtl = s.modeCtl :=
  congrArg (fun u => u.modeCtl) h

theorem State.settings_of_steady {s t : State} (h : t.steady = s.steady) : t.settings = s.settings :=
  congrArg (fun u => u.settings) h

theorem State.pins_of_steady {s t : State} (h : t.steady = s.steady) : t.pins = s.pins := congrArg (fun u => u.pins) h

theorem State.pending_of_steady {s t : State} (h : t.steady = s.steady) : t.pending = s.pending :=
  congrArg (fun u => u.pending) h

theorem State.nodes_of_steady {s t : State} (h : t.steady = s.steady) : t.relay.nodes = s.relay.nodes :=
  congrArg (fun u => u.relay.nodes) h

theorem State.buttons_of_steady {s t : State} (h : t.steady = s.steady) : t.press.buttons = s.press.buttons :=
  congrArg (fun u => u.press.buttons) h

theorem State.waits_of_steady {s t : State} (h : t.steady = s.steady) : t.press.waits = s.press.waits :=
  congrArg (fun u => u.press.waits) h

theorem State.tallies_of_steady {s t : State} (h : t.steady = s.steady) : t.press.tallies = s.press.tallies :=
  congrArg (fun u => u.press.tallies) h

theorem State.recorded_of_steady {s t : State} (h : t.steady = s.steady) : t.press.recorded = s.press.recorded :=
  congrArg (fun u => u.press.recorded) h

end Sys2Proof.Machine
end

