-- ==== Sys2Proof/Tests/Slice0.lean ====
section
/-!
SUPPORT. Tests. Part 1: operands that are not of their row. Part 2: single steps, whose expected results are the worked
examples and the plain values of spec/ (each test names its source). Part 3: for each statement with hypotheses, states
and operands that meet them, clause by clause, at the ends of their ranges.
-/

namespace Sys2Proof.Tests

open Sys2Proof Sys2Proof.Machine

/- One declaration is checked at a time, so that few threads run. -/
set_option Elab.async false

/-! ### A small bay -/

/-- The state after a command that is answered with a next state. -/
def after (o : Host.Outcome State Fault Refusal) : State :=
  match o with
  | .next s => s
  | _ => .reset

/-- A sender to bay 31, and one to the own bay. -/
def toAll : Sender := ⟨true, 0, 0⟩
def toOwn : Sender := ⟨false, 3, 7⟩

/-- A model record of the sizes of spec/02 section 2.9, on axis 0 of drive node 40, with zone 0 in its mask. -/
def sampleConfig : ModelConfig :=
  { ModelConfig.unconfigured with
    driveNode := some 39, travelMin := -100, travelMax := 1000, rateLimit := 50, returnRate := 50, leadOffset := -10,
    dwellOffset := 20, tailOffset := 5, followLimit := 40, followCount := 3, loadAlarm := 650, loadTrip := 800,
    loadRelease := 500, zoneMask := 1, holdLimit := 30, pauseWindow := 10, waitDepth := 2, maxWaitAge := 30 }

/-- A model at rest in IDLE. -/
def idleModel : Model := { Model.reset with config := sampleConfig, state := .idle, fedBack := some 0 }

/-- The cue of the bay starts at last setpoint 0 in its first segment. -/
def firstPosition : CuePosition := ⟨0, 1, 0, 0, 0, 0, 200, 0, 1200⟩

/-- Button 0 of panel 5. -/
def key : Key := ⟨4, 0⟩

/-- A model that plays the cue for button 0 of panel 5. -/
def runningModel : Model :=
  { idleModel with state := .running, owner := some (.button key), position := some firstPosition }

/-- A model held by its zone, or paused by its button, in that cue. -/
def zoneHeldModel : Model := { runningModel with state := .holding, holdZone := true, target := some .cue }
def pausedModel : Model :=
  { runningModel with state := .holding, holdPause := true, target := some .cue, pauseTimer := some 10000 }

/-- An entry of the button map for button 0 of panel 5. -/
def button (mode : ButtonMode) : Button := ⟨key, mode, .down, 0, 0, 3, 10, none, none, none, none, false⟩

/-- An open bay: model 0 as given, panel 5, sensor 20 with zone 0, drive 40, one button, one cue of one profile. -/
def bay (x : Model) (b : ButtonMode) : State :=
  { State.reset with
    relay := { LineRelay.reset with
      nodes := ((LineRelay.reset.nodes.set 4 { NodeEntry.reset with role := .panel, timeout := 10 }).set 19
        { NodeEntry.reset with role := .sensor, timeout := 25, zones := 1 }).set 39
        { NodeEntry.reset with role := .drive, timeout := 10 }
      rxBay := .waiting, rxSpine := .waiting, replyFifo := [], ringRequest := false }
    press := { PressArbiter.reset with buttons := PressArbiter.reset.buttons.set 0 (some (button b)) }
    motion := { MotionSequencer.reset with
      models := MotionSequencer.reset.models.set 0 x
      cues := MotionSequencer.reset.cues.set 0 (some ⟨[.play 0], 1, .goHome⟩)
      profiles := MotionSequencer.reset.profiles.set 0
        (some ⟨.abs, [⟨300, 1200, .lead⟩, ⟨500, 1200, .dwell⟩, ⟨250, 0, .tail⟩]⟩) }
    modeCtl := ⟨.opened, none, none⟩ }

/-- The bay with an IDLE model and a TAP button. -/
def quietBay : State := bay idleModel .tap

/-- The bay with zone 0 OCCUPIED or SETTLING. -/
def withZone (z : ZoneState) (s : State) : State :=
  { s with sup := { s.sup with
      zones := s.sup.zones.set 0 ⟨z, if z = .settling then some 1000 else none⟩
      watch := s.sup.watch.set 0 { s.sup.watch[0] with maskOccupied := z != .clear } } }

/-- The bay with the marks of one fault. -/
def withMarks (id : FaultId) (k : Marks) (s : State) : State := s.modMarks id fun _ => k

/-- The bay with another model 0. -/
def withModel (s : State) (f : Model → Model) : State := s.modModel 0 f

/-- The bay with a frame in progress on both transmitters. -/
def busyBay : State :=
  { quietBay with relay := { quietBay.relay with
      bayOut := some ⟨mkFrame 32 40 1 0 0x21 [], false⟩, spineOut := some ⟨mkFrame 0 0 1 0 0x41 [], .plain⟩ } }

/-- The bay with the STOP key asserted. -/
def stoppedBay : State :=
  withMarks (.bay .stopKey) ⟨true, true, true⟩
    { quietBay with
      sup := { quietBay.sup with stopAsserted := true }
      motion := { quietBay.motion with models := quietBay.motion.models.set 0 { idleModel with state := .stopped } }
      pins := { quietBay.pins with stopOpen := true } }

/-- An alert record. -/
def record (n : Nat) (a : About) (st : AlertState) : AlertRecord :=
  ⟨n, a, 2, 1, 0, true, true, st, false, none, false, false⟩

/-- The bay with an alert queue. -/
def withQueue (l : List AlertRecord) (s : State) : State := { s with alert := { s.alert with queue := l } }

/-- The bay with a waiting request. -/
def withWaits (l : List Request) (s : State) : State := s.setWaits 0 l

/-- The bay with a button down, with another entry for it, and with its drive energised. -/
def pressed (s : State) : State := { s with press := { s.press with recorded := s.press.recorded.set 4 1 } }
def mapped (b : Button) (s : State) : State :=
  { s with press := { s.press with buttons := s.press.buttons.set 0 (some b) } }
def energised (s : State) : State := s.modWatch 0 fun w => { w with energised := true }

/-- The bay in a mode. -/
def inMode (g : GalleryMode) (s : State) : State := { s with modeCtl := { s.modeCtl with mode := g } }

/-- An entry of the schedule list for a model. -/
def entryFor (m : ModelId) (due : Timer) : ScheduleEntry := ⟨m, 0, 100, 5, due⟩

/-- The bay with a schedule list. -/
def withSchedule (l : List ScheduleEntry) (s : State) : State := { s with motion := { s.motion with schedule := l } }

/-- The bay at a time of the show clock. -/
def atClock (v : Clock) (s : State) : State := { s with motion := { s.motion with clock := v } }

/-- The bay without a cue. -/
def withoutCues (s : State) : State := { s with motion := { s.motion with cues := MotionSequencer.reset.cues } }

/-- The request of button 0 of panel 5. -/
def request : Request := ⟨key, 0, 0, 30000⟩

/-! ### Part 1: operands that are not of their row -/

/-- A frame of this payload. -/
def frameOf (kind : Byte) (payload : List Byte) : Frame := mkFrame 1 0 0 5 kind payload

/-- One ill-formed term for each check of `Instr.wellFormed`, refused. -/
theorem test_wellFormed_refuses :
    [Instr.bayFrameReceived ⟨1, 0, 0, 5, 0x11, List.replicate 65 0, 0⟩,
      .spineFrameReceived ⟨1, 0, 0, 5, 0x31, List.replicate 65 0, 0⟩,
      .feedback 0 [], .feedback 0 [⟨1, 0, 0, 0⟩, ⟨0, 0, 0, 0⟩],
      .nodeWrite toAll 1 (List.replicate 63 0), .buttonWrite toAll 1 (List.replicate 63 0),
      .cueWrite toAll 1 (List.replicate 63 0), .profileWrite toAll 1 (List.replicate 63 0),
      .modelWrite toAll 1 (List.replicate 63 0), .routeWrite toAll 1 (List.replicate 63 0),
      .patternWrite toAll 1 (List.replicate 63 0), .settingsWrite toAll 0 (List.replicate 63 0),
      .badTable toAll (List.replicate 65 0), .badTable toAll [1, 1, 0], .tableRead toAll (List.replicate 65 0),
      .enable toAll (List.replicate 64 0), .disable toAll (List.replicate 64 0), .commit toAll (List.replicate 64 0),
      .cueStart toAll (List.replicate 64 0), .cueStart toAll (List.replicate 7 0),
      .cueStartScheduled toAll [0, 0, 0], .cueStop toAll (List.replicate 64 0), .mode toAll (List.replicate 64 0),
      .showSync toAll (List.replicate 64 0), .clearFault toAll (List.replicate 64 0),
      .resume toAll (List.replicate 64 0), .statusQuery toAll (List.replicate 64 0), .statusQuery toAll [1],
      .statusQueryClear toAll [0], .statusQueryClear toAll [], .restart toAll (List.replicate 64 0),
      .alertAck toAll (List.replicate 65 0), .badCommand toAll (List.replicate 65 0), .badCommand toAll [0x0B]].all
      (fun i => !i.wellFormed) = true := by decide +kernel

/-- Operands of their rows, at the ends of the ranges, accepted. -/
theorem test_wellFormed_accepts :
    [Instr.bayFrameReceived ⟨1, 0, 0, 5, 0x11, List.replicate 64 0, 0⟩, .feedback 0 [⟨0, 0, 0, 0⟩, ⟨1, 0, 0, 0⟩],
      .nodeWrite toAll 1 (List.replicate 62 0), .badTable toAll [9, 0, 0], .badTable toAll [],
      .enable toAll (List.replicate 63 0), .cueStart toAll [0, 0, 0], .cueStartScheduled toAll (List.replicate 7 0),
      .statusQuery toAll [0], .statusQueryClear toAll [1], .badCommand toAll [], .badCommand toAll [0x0C]].all
      Instr.wellFormed = true := by decide +kernel

/-! ### Part 2: single steps -/

/-- R162: "For the nine bytes 31h to 39h, the computation gives 29B1h." -/
theorem test_check_of_nine_bytes : crc16 [0x31, 0x32, 0x33, 0x34, 0x35, 0x36, 0x37, 0x38, 0x39] = 0x29B1 := by decide +kernel

/-- Section 2.9, truncation: raw targets -2 and -4 down, 2 and 4 up. -/
theorem test_interpolate_truncates :
    interpolate ⟨0, 1, 0, 0, 10, 0, 30, 0, -7⟩ = -2 ∧ interpolate ⟨0, 1, 0, 0, 20, 0, 30, 0, -7⟩ = -4 ∧
    interpolate ⟨0, 1, 0, 0, 10, 0, 30, 0, 7⟩ = 2 ∧ interpolate ⟨0, 1, 0, 0, 20, 0, 30, 0, 7⟩ = 4 := by decide

/-- Section 2.9, the stretched profile: D′ is 200 ms, and sample 1 records the setpoint 50 by the rate clamp. -/
theorem test_sample_first :
    let t := after (exec .sampleTimerExpiry (bay runningModel .tap))
    (t.model 0).lastSetpoint = 50 ∧ (t.model 0).position.map (·.elapsed) = some 10 ∧
      quietBay.startPosition sampleConfig 0 0 = firstPosition := by decide +kernel

/-- The same, sample 20: segment 1 ends at 200 ms and segment 2 begins at 0; the setpoint is the travel limit 1000. -/
theorem test_sample_crosses_a_segment_end :
    let x := { runningModel with lastSetpoint := 950, position := some { firstPosition with elapsed := 190 } }
    let y := (after (exec .sampleTimerExpiry (bay x .tap))).model 0
    y.lastSetpoint = 1000 ∧ y.position.map (fun p => (p.segment, p.elapsed, p.duration)) = some (1, 0, 700) := by
  decide +kernel

/-- The same, sample 120: the cue ends at setpoint 0 and the model goes home (R7). -/
theorem test_cue_ends :
    let p : CuePosition := ⟨0, 1, 0, 2, 290, 0, 300, 1200, 0⟩
    let y := (after (exec .sampleTimerExpiry
      (bay { runningModel with lastSetpoint := 40, position := some p } .tap))).model 0
    y.lastSetpoint = 0 ∧ y.state = .returning ∧ y.owner = none ∧ y.position = none := by decide +kernel

/-- Section 2.9, REL repeats of zero length: all three in one sample, each from 500; the final setpoint is 800, and STAY
leaves the model IDLE. -/
theorem test_rel_repeats_of_zero_length :
    let c := { sampleConfig with rateLimit := 1000, leadOffset := -2 }
    let s := { quietBay with motion := { quietBay.motion with
      cues := quietBay.motion.cues.set 7 (some ⟨[.play 5], 3, .stay⟩)
      profiles := quietBay.motion.profiles.set 5 (some ⟨.rel, [⟨20, 300, .lead⟩]⟩) } }
    let y := (after (exec .sampleTimerExpiry (withModel s fun x => { x with
      config := c, state := .running, owner := some .control, lastSetpoint := 500
      position := some (s.startPosition c 7 500) }))).model 0
    y.lastSetpoint = 800 ∧ y.state = .idle := by decide +kernel

/-- Section 4.11, the chattering TOGGLE button, 0 ms: press, OK; lockout of 300 ms, tallies 1, 1. Table 5-1: the lamp shows
RUNNING, for the press's own cue. -/
theorem test_toggle_press_starts :
    let t := after (exec (.panel 4 1 false) (bay idleModel .toggle))
    (t.model 0).state = .running ∧ (t.model 0).owner = some (.button key) ∧
      t.press.tallies = ⟨1, 1, 0, 0, 0⟩ ∧ (t.entry 0).map (·.lockoutTimer) = some (some 300) ∧
      t.lamp key = .running := by decide +kernel

/-- Section 12.2, 5 s: the HOLD button's UP pauses the cue for a window of 10 s. -/
theorem test_hold_release_pauses :
    let s := bay runningModel .hold
    let t := after (exec (.panel 4 0 false) { s with press := { s.press with recorded := s.press.recorded.set 4 1 } })
    (t.model 0).state = .holding ∧ (t.model 0).holdPause = true ∧ (t.model 0).holdZone = false ∧
      (t.model 0).pauseTimer = some 10000 ∧ t.lamp key = .paused := by decide +kernel

/-- Section 12.2, 23 s: the pause window ends with ZONE in the set: the cue is cut and the model stays HOLDING. -/
theorem test_pause_window_cuts :
    let y := (after (exec (.pauseWindowExpiry 0)
      (withZone .occupied (bay { pausedModel with holdZone := true } .hold)))).model 0
    y.state = .holding ∧ y.target = some .home ∧ y.owner = none ∧ y.holdPause = false := by decide +kernel

/-- Section 6.6, 0.0 s: a report occupies the zone and holds the model, and the hold-limit timer starts at 30 s. -/
theorem test_presence_holds :
    let t := after (exec (.presence 19 1) (bay runningModel .tap))
    (t.model 0).state = .holding ∧ (t.model 0).target = some .cue ∧ (t.watch 0).holdTimer = some 30000 ∧
      tget t.sup.zones 0 = ⟨.occupied, none⟩ := by decide +kernel

/-- Section 6.6, 4.0 s and 6.0 s: a clear report starts the settle time of 1 s; at its end the cue goes on. -/
theorem test_zone_settles_and_releases :
    tget (after (exec (.presence 19 0) (withZone .occupied (bay zoneHeldModel .tap)))).sup.zones 0 = ⟨.settling, some 1000⟩ ∧
    ((after (exec (.zoneSettleExpiry 0) (withZone .settling (bay zoneHeldModel .tap)))).model 0).state = .running := by
  decide +kernel

/-- Section 6.6, the jammed axis, frame 7: error 149 against history[2], run count 3: FOLLOW latches, FAULTED, and the
run count is 0 again. -/
theorem test_jammed_axis_trips :
    let c := { sampleConfig with feedbackLag := 2 }
    let x := { runningModel with config := c, history := [650, 600, 550, 500, 450, 400, 350, 300], run := 2 }
    let t := after (exec (.feedback 39 [⟨0, 401, 0, 8⟩]) (bay x .tap))
    (t.model 0).state = .faulted ∧ (t.model 0).run = 0 ∧ t.marks (.model .follow 0) = ⟨false, false, true⟩ := by
  decide +kernel

/-- Section 7.6, clearing a tripped model: the first CLEAR_FAULT ALL of its subject answers STILL_ACTIVE, detail 2. -/
theorem test_clear_fault_still_active :
    let s := withMarks (.model .loadAlarm 0) ⟨true, true, true⟩ (withMarks (.model .loadTrip 0) ⟨true, true, true⟩
      (withMarks (.model .driveSilent 0) ⟨false, false, true⟩ (bay { idleModel with state := .faulted } .tap)))
    let t := after (exec (.clearFault toOwn [0xFF, 0, 0xFE]) s)
    t.relay.spineOut.map (·.frame.payload) = some [0x33, 0x08, 0x1F, 2, 0] ∧ (t.model 0).state = .faulted ∧
      (t.marks (.model .driveSilent 0)).latched = false := by decide +kernel

/-- Section 7.6, a bay-check window: the 20th error latches BAY_CHECK. -/
theorem test_bay_check_latches :
    let t := after (exec (.framingError .bay) { quietBay with relay := { quietBay.relay with windowCount := 19 } })
    t.relay.windowCount = 20 ∧ t.marks (.bay .bayCheck) = ⟨true, true, true⟩ ∧ t.relay.rxBay = .discarding := by
  decide +kernel

/-- Section 8.10, the full queue: a raise takes the place of record 4, the oldest ACKED, under number 25. -/
theorem test_raise_discards_oldest_acked :
    let l := ((List.range 24).map fun i => record (i + 1) (.visitorCall ⟨0, Fin.ofNat 16 i⟩)
      (if i + 1 = 4 then .acked else .awaiting))
    let s := { withQueue l quietBay with alert := { (withQueue l quietBay).alert with lastNumber := 24 } }
    let t := raise (.fault (.model .driveSilent 7)) s
    t.alert.lastNumber = 25 ∧ t.alert.queue.length = 24 ∧ t.alert.overflow = false ∧
      t.alert.queue.all (fun r => r.number != 4) = true ∧ t.alert.queue.getLast?.map (·.number) = some 25 := by
  decide +kernel

/-- Section 8.10, the beacon through a stop: STOP_KEY latches at tier 3 with a deadline of 30 s, FLASH 3, BEACON on with
2.9 kHz for 250 ms. -/
theorem test_stop_key_flashes :
    let t := after (exec .stopKeyAsserted quietBay)
    (t.model 0).state = .stopped ∧ t.alert.showing = .flash 3 ∧ t.alert.beacon = true ∧
      t.alert.chime = some .khz29 ∧ t.alert.phaseTimer = some 250 ∧
      t.alert.queue.map (fun r => (r.tier, r.deadline)) = [(3, some 30000)] := by decide +kernel

/-- The same, a short press: the record is ACKED and stays, for its latch is set; STEADY, silent. -/
theorem test_short_press_acknowledges :
    let s := { withQueue [record 1 (.fault (.bay .stopKey)) .awaiting] stoppedBay with
      sup := { stoppedBay.sup with ack := .timing, ackTimer := some 3000 } }
    let t := after (exec .ackKeyLetGo s)
    t.alert.queue.map (·.state) = [.acked] ∧ t.alert.showing = .steady ∧ t.alert.beacon = true ∧
      t.alert.chime = none := by decide +kernel

/-- Section 9.7, 912 s: a press in DOZE wakes the bay and its request waits; the wake limit is 3 s (Table 11-2). -/
theorem test_press_wakes :
    let t := after (exec (.panel 4 1 false) { quietBay with modeCtl := ⟨.doze, none, none⟩ })
    t.modeCtl = ⟨.waking, none, some 3000⟩ ∧ (t.waits 0).map (·.key) = [key] ∧ t.press.tallies.taken = 1 := by
  decide +kernel

/-- A bay in DOZE with its drive energised, and a second button of panel 5 for model 0. -/
def twoButtons : State :=
  let s := energised (inMode .doze quietBay)
  { s with press := { s.press with buttons := s.press.buttons.set 1 (some { button .tap with key := ⟨4, 1⟩ }) } }

/-- R65: a later edge of the frame that wakes the bay finds WAKING: its press joins the list behind the waking press, and
the bay opens with both waiting. -/
theorem test_later_edge_of_a_waking_frame_waits :
    let t := after (exec (.panel 4 3 false) twoButtons)
    t.gallery = .opened ∧ (t.waits 0).map (·.key) = [key, ⟨4, 1⟩] ∧ (t.model 0).state = .idle ∧
      t.press.tallies.started = 0 := by decide +kernel

/-- Section 9.7, 915 s: the wake limit opens the bay and trips the model whose drive has not energised. -/
theorem test_wake_limit_opens :
    let t := after (exec .wakeLimitExpiry { quietBay with modeCtl := ⟨.waking, none, some 1⟩ })
    t.gallery = .opened ∧ (t.model 0).state = .faulted ∧ (t.marks (.model .driveReport 0)).latched = true := by
  decide +kernel

/-- R14, R16: a RESUME reseats a STOPPED model, whose latest position is known, and answers OK with one model. -/
theorem test_resume_reseats :
    let s := bay { idleModel with state := .stopped, fedBack := some 2000 } .tap
    let t := after (exec (.resume toOwn []) s)
    (t.model 0).state = .returning ∧ (t.model 0).lastSetpoint = 1000 ∧
      t.relay.spineOut.map (·.frame.payload) = some [0x33, 0x09, 0, 1, 0] := by decide +kernel

/-- R19: ENABLE takes a DISABLED model with a DRIVE node into ENABLING at its home. -/
theorem test_enable :
    let t := after (exec (.enable toAll [0]) (bay { idleModel with state := .disabled } .tap))
    (t.model 0).state = .enabling ∧ (t.watch 0).driveSilence = some 1000 := by decide +kernel

/-- R182: a full reply FIFO turns a command away and counts it overrun. -/
theorem test_full_reply_fifo :
    let r : ReplyFrame := ⟨mkFrame 0 0 1 0 0x41 [], false⟩
    let s := { busyBay with relay := { busyBay.relay with replyFifo := [r, r, r, r] } }
    let t := after (exec (.cueStart toOwn [0, 0, 0]) s)
    (t.model 0).state = .idle ∧ t.relay.spineCounters.overrun = 1 ∧ t.relay.replyFifo.length = 4 := by decide +kernel

/-- Table 10-8: an accepted NODE record is stored; its silence timer is started (R117). -/
theorem test_node_write :
    let t := after (exec (.nodeWrite toAll 9 [1, 20, 1, 0]) quietBay)
    (t.node 8).role = .panel ∧ (t.node 8).policy = .mirror ∧ (t.node 8).silence = some 2000 := by decide +kernel

/-- R53: a start not yet reached is listed, and answered OK with its place in the list. -/
theorem test_scheduled_start :
    let t := after (exec (.cueStartScheduled toOwn [0, 0, 5, 10, 0, 0, 0]) quietBay)
    t.motion.schedule = [⟨0, 0, 10, 5, none⟩] ∧
      t.relay.spineOut.map (·.frame.payload) = some [0x33, 0x04, 0, 1, 0] := by decide +kernel

/-- R164 line 5, R165: a PANEL frame from panel 5 to the controller runs the press. -/
theorem test_bay_frame_runs_panel :
    let t := after (exec (.bayFrameReceived (mkFrame 32 0 1 5 0x11 [1, 0, 0])) quietBay)
    (t.model 0).state = .running ∧ t.relay.bayCounters.good = 1 ∧ (t.node 4).lastHeard = some 0 := by decide +kernel

/-! ### Part 3: the hypotheses of the statements are met -/

/-- The bay with CLK stopped. -/
def unclockedBay : State := { quietBay with pins := { quietBay.pins with clkRunning := false } }

/-- The bay held by RESET_N. -/
def heldBay : State := { quietBay with pins := { quietBay.pins with resetNHigh := false } }

/-- The bay with another Line Relay. -/
def withRelay (f : LineRelay → LineRelay) : State := quietBay.onRelay f

theorem test_StepRunsTheFrontCommand_met : (quietBay.withPending [.clkStop]).pending = [.clkStop] := rfl

theorem test_TimeRunsOnlyInARunningPart_met :
    quietBay.pending = [] ∧ quietBay.running = true ∧ unclockedBay.pending = [] ∧ unclockedBay.running = false ∧
    isPinCommand .sampleTimerExpiry = false ∧ heldBay.outOfReset = false ∧
    unclockedBay.pins.clkRunning = false ∧ needsNoClock .sampleTimerExpiry = false := by decide +kernel

theorem test_SettlingTouchesOnlyLampsAndTransmitters_met :
    busyBay.busy = true ∧ busyBay.running = true ∧ unclockedBay.running = false := by decide +kernel

/-- Two slots and two dirty panels, with the search starting again at 1 after node 62, and after node 0. -/
def slotBay (last : Nat) : State :=
  withRelay fun q => { q with
    slots := (q.slots.set 0 (some (frameOf 0x21 []))).set 39 (some (frameOf 0x21 [])), lastDrive := last }

def dirtyBay (last : Nat) : State :=
  { withRelay (fun q => { q with lastPanel := last }) with
    press := { quietBay.press with dirty := quietBay.press.dirty.set 4 true } }

theorem test_TransmittersServeTheirClassesInOrder_met :
    (busyBay.running = true ∧ busyBay.relay.bayOut.isSome = true ∧ busyBay.relay.spineOut.isSome = true) ∧
    (∀ last ∈ [0, 40, 62], (slotBay last).relay.bayOut = none ∧ (slotBay last).relay.lastDrive ≤ 62 ∧
      tget (slotBay last).relay.slots 0 = some (frameOf 0x21 []) ∧
      ∀ k : NodeId, k ≠ 0 → (tget (slotBay last).relay.slots k).isSome = true →
        distanceAfter (slotBay last).relay.lastDrive 0 < distanceAfter (slotBay last).relay.lastDrive k) ∧
    (let s := withRelay fun q => { q with ringRequest := true };
      s.relay.bayOut = none ∧ (∀ n, tget s.relay.slots n = none) ∧ s.relay.ringRequest = true) ∧
    (∀ last ∈ [0, 62], let s := dirtyBay last
      s.relay.bayOut = none ∧ s.relay.lastPanel ≤ 62 ∧ (∀ n, tget s.relay.slots n = none) ∧
      s.relay.ringRequest = false ∧ (s.node 4).role = .panel ∧ tget s.press.dirty 4 = true ∧
      ∀ k : NodeId, k ≠ 4 → (s.node k).role = .panel → tget s.press.dirty k = true →
        distanceAfter s.relay.lastPanel 4 < distanceAfter s.relay.lastPanel k) ∧
    (quietBay.relay.bayOut = none ∧ (∀ n, tget quietBay.relay.slots n = none) ∧
      quietBay.relay.ringRequest = false ∧ (∀ k, (quietBay.node k).role = .panel → tget quietBay.press.dirty k = false) ∧
      quietBay.relay.bayFifo = [] ∧
      (withRelay fun q => { q with bayFifo := [frameOf 0x80 []] }).relay.bayFifo = [frameOf 0x80 []]) := by
  decide +kernel

/-- Three UNSENT records, of which the middle one is of the highest tier. -/
def unsentBay : State :=
  withQueue [record 1 (.holdLimit 0) .unsent, { record 2 (.holdLimit 1) .unsent with tier := 3 },
    { record 3 (.holdLimit 2) .unsent with tier := 3 }] quietBay

theorem test_SpineOutTakesAlerts_met :
    (quietBay.relay.spineOut = none ∧ quietBay.relay.replyFifo = [] ∧ quietBay.relay.spineFifo = [] ∧
      (quietBay.marks (.bay .spineSilent)).active = false ∧ quietBay.alert.reportPending = false ∧
      ∀ q ∈ quietBay.alert.queue, q.state = .unsent → q.inFlight = true) ∧
    (let s := { quietBay with alert := { quietBay.alert with reportPending := true } };
      s.relay.replyFifo = [] ∧ (s.marks (.bay .spineSilent)).active = false ∧ s.alert.reportPending = true) ∧
    (let r := { record 2 (.holdLimit 1) .unsent with tier := 3 };
      unsentBay.relay.replyFifo = [] ∧ unsentBay.alert.reportPending = false ∧
      unsentBay.alert.queue = [record 1 (.holdLimit 0) .unsent] ++ r ::
        [{ record 3 (.holdLimit 2) .unsent with tier := 3 }] ∧
      (∀ q ∈ [record 1 (.holdLimit 0) .unsent], q.tier < r.tier) ∧
      ∀ q ∈ [{ record 3 (.holdLimit 2) .unsent with tier := 3 }], q.tier ≤ r.tier) ∧
    (let s := withMarks (.bay .spineSilent) ⟨true, true, true⟩ (withRelay fun q => { q with
        spineFifo := [frameOf 0x80 []] });
      s.relay.spineOut = none ∧ s.relay.replyFifo = [] ∧ (s.marks (.bay .spineSilent)).active = true ∧
      s.relay.spineFifo = [frameOf 0x80 []]) ∧
    (withRelay fun q => { q with replyFifo := [⟨frameOf 0x41 [], true⟩] }).relay.replyFifo =
      [⟨frameOf 0x41 [], true⟩] := by decide +kernel

/-- The bay with a frame of this builder on SPINE_OUT. -/
def sending (b : SpineBuilder) (pending waiting : Bool) : State :=
  withRelay fun q => { q with
    spineOut := some ⟨frameOf 0x41 [], b⟩, softPending := pending, softWaiting := waiting }

theorem test_SpineFrameSentTellsItsBuilder_met :
    (∀ b ∈ [SpineBuilder.plain, .restart, .alert], ∀ p ∈ [false, true], ∀ w ∈ [false, true],
      (sending b p w).running = true ∧ (sending b p w).relay.spineOut = some ⟨frameOf 0x41 [], b⟩ ∧
      (sending b p w).relay.softPending = p ∧ (sending b p w).relay.softWaiting = w) := by decide +kernel

theorem test_Resets_met :
    quietBay.pins.clkRunning = true ∧ quietBay.running = true ∧ quietBay.pins.resetEdge = false ∧
    unclockedBay.pins.clkRunning = false := by decide +kernel

theorem test_StopKeyStopsAndFreesModels_met :
    (stoppedBay.outOfReset = true ∧ stoppedBay.running = true ∧ stoppedBay.sup.stopAsserted = true ∧
      ∀ e ∈ stoppedBay.motion.schedule, e.due = none) ∧
    (quietBay.outOfReset = true ∧ quietBay.sup.stopAsserted = false ∧
      (quietBay.marks (.bay .stopKey)).active = false ∧ (quietBay.route 7).detect = true) := by decide +kernel

/-- The ACK key in one state of its sensing. -/
def acking (a : AckState) (t : Timer) (s : State) : State := { s with sup := { s.sup with ack := a, ackTimer := t } }

theorem test_AckKeyAcknowledgesAndResumes_met :
    quietBay.running = true ∧ quietBay.sup.ack ≠ .timing ∧ quietBay.sup.stopAsserted = false ∧
    (acking .timing (some 3000) quietBay).sup.ack = .timing ∧
    (acking .timing (some 3000) quietBay).sup.ackTimer.isSome = true ∧
    (acking .timing (some 3000) stoppedBay).sup.stopAsserted = true ∧
    (acking .timing (some 3000) stoppedBay).running = true ∧ quietBay.carriesOut toOwn = true ∧
    stoppedBay.carriesOut toAll = true ∧ ([0] : List Byte) ≠ [] := by decide +kernel

/-- A frame of a bad check, and one that is one byte too long. -/
def badCheck : Frame := { frameOf 0x31 (List.replicate 64 0) with check := 0 }
def tooLong : Frame := frameOf 0x31 (List.replicate 65 0)

theorem test_ReceiversCountAndAbandon_met :
    (let s := withRelay fun q => { q with rxBay := .discarding, rxSpine := .discarding };
      s.running = true ∧ s.relay.rxSpine = .discarding ∧ s.relay.rxBay = .discarding) ∧
    (quietBay.relay.rxSpine ≠ .discarding ∧ quietBay.relay.rxBay ≠ .discarding ∧ 64 < tooLong.payload.length ∧
      badCheck.payload.length ≤ 64 ∧ checkGood badCheck = false) ∧
    (let s := withRelay fun q => { q with windowCount := 18 };
      (if s.relay.windowCount < 255 then s.relay.windowCount + 1 else s.relay.windowCount) <
        s.settings.bayThreshold) := by decide +kernel

/-- The bay with panel 5 of another policy. -/
def policyBay (p : Policy) : State := quietBay.modNode 4 fun e => { e with policy := p }

/-- A good frame from a node of the bay. -/
def fromNode (dstBay dstNode srcNode kind : Byte) : Frame := mkFrame dstBay dstNode 1 srcNode kind [0, 0]

theorem test_FramesAreRelayed_met :
    (∀ f ∈ [fromNode 32 0 0 0x11, fromNode 32 0 0 0x23, fromNode 32 0 63 0x11, fromNode 32 0 1 0x11,
        fromNode 32 1 5 0x80, fromNode 1 63 5 0x80, fromNode 0 9 5 0x11, fromNode 9 1 5 0x11, fromNode 1 64 5 0x11,
        fromNode 32 1 5 0x05], takenAt quietBay.relay.rxBay f = true) ∧
    (quietBay.node 0).role = .empty ∧ (quietBay.node 4).role ≠ .empty ∧ (quietBay.node 4).policy ≠ .pass ∧
    ((policyBay .pass).node 4).policy = .pass ∧ listedKind 0x05 = false ∧ listedKind 0x80 = true ∧
    listedKind 0x11 = true ∧ quietBay.relay.ownBay = 1 ∧ quietBay.marks (.bay .spineSilent) = .clear ∧
    (∀ f ∈ [mkFrame 1 1 0 9 0x80 [], mkFrame 31 63 0 9 0x31 [], mkFrame 9 0 0 9 0x31 [], mkFrame 1 64 0 9 0x31 [],
        mkFrame 1 0 0 9 0x11 []], takenAt quietBay.relay.rxSpine f = true) := by decide +kernel

theorem test_FramesRunTheirRow_met :
    (∀ f ∈ [mkFrame 32 0 1 5 0x11 [1, 0, 1], mkFrame 32 0 1 20 0x13 [1, 0], mkFrame 32 0 1 40 0x12 [0, 0, 5, 0, 1, 0, 8],
        mkFrame 32 0 1 40 0x12 [0, 0, 5, 0, 1, 0, 8, 1, 5, 0, 1, 0, 8], mkFrame 32 0 1 5 0x11 [1, 0]],
      takenAt quietBay.relay.rxBay f = true ∧ f.dstBay = 32 ∧ f.dstNode = 0) ∧
    ((quietBay.node 4).role = .panel ∧ (quietBay.node 19).role = .sensor ∧ (quietBay.node 39).role = .drive ∧
      (quietBay.node 4).policy ≠ .pass ∧ (quietBay.node 19).policy ≠ .pass ∧ (quietBay.node 39).policy ≠ .pass ∧
      (feedbackEntries [0, 0, 5, 0, 1, 0, 8]).isSome = true ∧
      (feedbackEntries [0, 0, 5, 0, 1, 0, 8, 1, 5, 0, 1, 0, 8]).isSome = true) ∧
    (∀ f ∈ [mkFrame 1 0 0 9 0x31 [1, 1, 0], mkFrame 31 0 0 9 0x31 [1, 62, 0], mkFrame 1 0 0 9 0x31 [2, 127, 0],
        mkFrame 1 0 0 9 0x31 [3, 31, 0], mkFrame 1 0 0 9 0x31 [4, 63, 0], mkFrame 1 0 0 9 0x31 [5, 11, 0],
        mkFrame 1 0 0 9 0x31 [6, 14, 0], mkFrame 1 0 0 9 0x31 [7, 2, 0], mkFrame 1 0 0 9 0x31 [8, 0, 0]],
      takenAt quietBay.relay.rxSpine f = true ∧ tableAddressFault false f.payload = none) ∧
    (∀ p ∈ [[0, 0, 0], [9, 0, 0], [1, 0, 0], [1, 63, 0], [2, 128, 0], [8, 1, 0], [], [1, 1]],
      takenAt quietBay.relay.rxSpine (mkFrame 1 0 0 9 0x31 p) = true ∧ (tableAddressFault false p).isSome = true) ∧
    (∀ p ∈ [[0x01, 0], [0x02, 0], [0x03, 0], [0x04, 0, 0, 0, 0, 0, 0, 0], [0x04, 0, 0, 0], [0x05, 0], [0x06, 0],
        [0x07, 0, 0, 0, 0], [0x08, 0, 0, 0], [0x09], [0x0A, 1], [0x0A, 0], [0x0A], [0x0B], [0x0C], [0x00], [0xFF], []],
      takenAt quietBay.relay.rxSpine (mkFrame 1 0 0 9 0x33 p) = true) := by decide +kernel

theorem test_HearingANodeRestartsItsTimers_met :
    (quietBay.marks (.nodeSilent 39)).active = false ∧ (quietBay.node 39).role = .drive ∧
    (quietBay.model 0).state ≠ .disabled ∧ (quietBay.model 0).config.driveNode = some 39 := by decide +kernel

theorem test_PanelFrameIsRecorded_met :
    quietBay.running = true ∧ (quietBay.node 39).role ≠ .panel ∧ (quietBay.node 4).role = .panel ∧
    busyBay.relay.bayOut.isSome = true ∧ (busyBay.node 4).role = .panel ∧
    tget quietBay.press.recorded 4 = 0 := by decide +kernel

/-- What `State.AnyEdge` asks, as one question. -/
theorem anyEdge_of {s : State} {k : Key} {i : EntryIx} {b : Button} {down : Bool}
    (h : (s.running && (s.node k.node).role == .panel && s.entryOf k == some i && s.entry i == some b &&
      s.isDown k == !down) = true) : s.AnyEdge k i b down := by
  simp only [Bool.and_eq_true, beq_iff_eq] at h
  exact { running := h.1.1.1.1, role := h.1.1.1.2, mapped := h.1.1.2, entry := h.1.2, edge := h.2 }

def suspectButton : Button := { button .tap with suspect := true, downSince := some 0 }
def lockedButton : Button := { button .tap with lockoutTimer := some 300 }
def letGoButton : Button := { button .tap with acting := .up }
def callButton : Button := { button .call with acting := .up }

theorem test_edges_that_are_no_press_met :
    (mapped suspectButton quietBay).AnyEdge key 0 suspectButton true ∧
    (pressed (mapped suspectButton quietBay)).AnyEdge key 0 suspectButton false ∧
    (mapped lockedButton quietBay).AnyEdge key 0 lockedButton true ∧
    (inMode .closed quietBay).AnyEdge key 0 (button .tap) true ∧
    (inMode .service quietBay).AnyEdge key 0 (button .tap) true ∧
    (pressed (inMode .doze (mapped letGoButton quietBay))).AnyEdge key 0 letGoButton false := by
  repeat' apply And.intro
  all_goals exact anyEdge_of (by decide +kernel)

theorem test_edges_that_wake_met :
    (inMode .doze quietBay).AnyEdge key 0 (button .tap) true ∧
    (energised (inMode .doze quietBay)).AnyEdge key 0 (button .tap) true ∧
    (pressed (energised (inMode .doze (mapped callButton quietBay)))).AnyEdge key 0 callButton false := by
  repeat' apply And.intro
  all_goals exact anyEdge_of (by decide +kernel)

theorem test_later_edges_that_wait_met :
    (twoButtons.AnyEdge key 0 (button .tap) true ∧
      twoButtons.AnyEdge ⟨4, 1⟩ 1 { button .tap with key := ⟨4, 1⟩ } true) ∧
    twoButtons.gallery = .doze ∧ (∀ k ∈ [key, ⟨4, 1⟩], twoButtons.ownsCue k 0 = false) ∧
    twoButtons.isWaiting ⟨4, 1⟩ 0 = false ∧
    (∀ m, (twoButtons.model m).state = .disabled ∨ (twoButtons.watch m).energised = true) ∧
    twoButtons.motion.schedule = [] ∧ (twoButtons.model 0).state = .idle ∧ twoButtons.cueValid 0 = true ∧
    (twoButtons.waits 0).length + 1 < (twoButtons.model 0).config.waitDepth := by
  refine ⟨?_, by decide +kernel⟩
  constructor <;> exact anyEdge_of (by decide +kernel)

theorem test_wakes_met :
    ((quietBay.model 0).state ≠ .disabled ∧ (quietBay.watch 0).energised = false) ∧
    (∀ m, ((energised quietBay).model m).state = .disabled ∨ ((energised quietBay).watch m).energised = true) ∧
    quietBay.motion.schedule = [] ∧ quietBay.ownsCue key 0 = false ∧ quietBay.isWaiting key 0 = false ∧
    quietBay.cueValid 0 = true ∧ (withoutCues quietBay).cueValid 0 = false ∧
    (quietBay.waits 0).length < (quietBay.model 0).config.waitDepth ∧
    ¬ ((withWaits [⟨⟨4, 1⟩, 0, 0, 1⟩, ⟨⟨4, 2⟩, 0, 0, 1⟩] quietBay).waits 0).length < (quietBay.model 0).config.waitDepth ∧
    ((bay { idleModel with state := .faulted } .tap).model 0).state = .faulted := by decide +kernel

theorem bay_down (m : ButtonMode) :
    (bay idleModel m).OneEdge key 0 (button m) true ∧ (bay runningModel m).OneEdge key 0 (button m) true ∧
    (bay pausedModel m).OneEdge key 0 (button m) true ∧ (bay zoneHeldModel m).OneEdge key 0 (button m) true := by
  cases m <;> repeat' apply And.intro
  all_goals exact { toAnyEdge := anyEdge_of (by decide +kernel), suspect := rfl }

theorem bay_up (m : ButtonMode) :
    (pressed (bay idleModel m)).OneEdge key 0 (button m) false ∧
    (pressed (bay runningModel m)).OneEdge key 0 (button m) false ∧
    (pressed (bay zoneHeldModel m)).OneEdge key 0 (button m) false := by
  cases m <;> repeat' apply And.intro
  all_goals exact { toAnyEdge := anyEdge_of (by decide +kernel), suspect := rfl }

theorem test_StartingPressStartsItsCue_met :
    (∀ m ∈ [ButtonMode.tap, .toggle, .hold], let s := bay idleModel m
      (button m).mode ≠ .call ∧ (button m).lockoutTimer = none ∧ s.gallery = .opened ∧
      s.ownsCue key 0 = false ∧ s.isWaiting key 0 = false ∧ (s.model 0).state = .idle ∧ s.cueValid 0 = true ∧
      s.maskOccupied (s.model 0).config.zoneMask = false ∧ s.sup.stopAsserted = false ∧
      (s.model 0).flagSeen = false) ∧ (button .tap).modelId = 0 ∧ (button .tap).cueId = 0 := by decide +kernel

theorem test_pressedBy_met : (button .tap).pressedBy true ∧ { button .tap with key := ⟨4, 1⟩ }.pressedBy true ∧ (button .hold).pressedBy true ∧ letGoButton.pressedBy false ∧
    lockedButton.pressedBy true ∧ callButton.pressedBy false := by
  unfold Button.pressedBy
  decide

/-- The bay with one request waiting, or with the wait list full. -/
def other (i : ButtonIx) : Request := ⟨⟨4, i⟩, 0, 0, 30000⟩

theorem test_PressThatCannotStartWaitsOrIsRefused_met :
    (let s := withWaits [other 1] (bay { runningModel with owner := some .control } .tap);
      s.verdict 0 0 (.button key) = .busy ∧ s.cueValid 0 = true ∧ s.gallery = .opened ∧
      s.ownsCue key 0 = false ∧ s.isWaiting key 0 = false ∧ (s.waits 0).length < (s.model 0).config.waitDepth) ∧
    (let s := withWaits [other 1, other 2] (bay { runningModel with owner := some .control } .tap);
      s.verdict 0 0 (.button key) = .busy ∧ s.cueValid 0 = true ∧
      (s.model 0).config.waitDepth ≤ (s.waits 0).length) ∧
    (withZone .occupied quietBay).verdict 0 0 (.button key) = .blocked ∧
    { quietBay with modeCtl := ⟨.waking, none, some 1⟩ }.verdict 0 0 (.button key) = .mode ∧
    (bay { idleModel with state := .faulted } .tap).verdict 0 0 (.button key) = .notReady ∧
    quietBay.verdict 0 1 (.button key) = .cueInvalid ∧
    (bay { idleModel with flagSeen := true } .tap).verdict 0 0 (.button key) = .faultLatched ∧
    ((bay runningModel .tap).verdict 0 1 (.button key) = .busy ∧ (bay runningModel .tap).cueValid 1 = false) := by
  decide +kernel

/-- The owned models of the small bay agree with themselves. -/
theorem test_MotionAgrees_met (m : ButtonMode) :
    (bay runningModel m).MotionAgrees ∧ (bay pausedModel m).MotionAgrees ∧ (bay zoneHeldModel m).MotionAgrees ∧
    (bay { pausedModel with holdZone := true } m).MotionAgrees ∧ (bay idleModel m).MotionAgrees := by
  cases m <;> repeat' apply And.intro
  all_goals constructor <;> decide +kernel

theorem test_OwnerEdgesAndCalls_met :
    (∀ x ∈ [runningModel, zoneHeldModel, pausedModel, { pausedModel with holdZone := true }],
      (bay x .toggle).gallery = .opened ∧ (bay x .toggle).ownsCue key 0 = true ∧ (bay x .hold).ownsCue key 0 = true ∧
      (pressed (bay x .hold)).ownsCue key 0 = true) ∧
    zoneHeldModel.pauseTimer = none ∧ zoneHeldModel.target = some .cue ∧ pausedModel.holdZone = false ∧
    (pressed (bay idleModel .hold)).ownsCue key 0 = false ∧ (button .tap).acting ≠ .up ∧
    (button .call).mode = .call := by decide +kernel

/-- Axis 0 of node 40 is bound to model 0 alone. -/
theorem test_bindsOnly_met :
    (∀ x ∈ [idleModel, runningModel, { idleModel with state := .enabling }], ∀ m ∈ [ButtonMode.tap],
      (bay x m).bindsOnly 0 39 0) := by
  unfold State.bindsOnly
  decide +kernel

theorem test_FirstFeedbackSeatsTheModel_met :
    let s := bay { idleModel with state := .enabling } .tap
    s.running = true ∧ (s.node 39).role = .drive ∧ (s.model 0).state = .enabling ∧ s.gallery ≠ .waking ∧
      s.sup.stopAsserted = false ∧ { s with sup := { s.sup with stopAsserted := true } }.sup.stopAsserted = true := by
  decide +kernel

theorem test_FeedbackIsChecked_met :
    (quietBay.running = true ∧ (quietBay.node 4).role ≠ .drive ∧ (quietBay.node 39).role = .drive ∧
      (∀ m, ¬ ((quietBay.model m).state ≠ .disabled ∧ (quietBay.model m).config.driveNode = some 39 ∧
        (quietBay.model m).config.axis = 1)) ∧ (quietBay.model 0).state ≠ .enabling) ∧
    (let s := bay { runningModel with run := 2 } .tap
     (s.route 0).detect = true ∧ (s.route 2).detect = true ∧
      (s.marks (.model .follow 0)).active = false ∧ (s.marks (.model .follow 0)).latched = false ∧
      (s.model 0).state = .running ∧ (s.model 0).config.followCount = 3 ∧ (s.model 0).config.followLimit = 40 ∧
      (s.model 0).history.getD 0 0 = 0) := by decide +kernel

theorem test_ZonesFollowTheirReports_met :
    quietBay.running = true ∧ (quietBay.node 4).role ≠ .sensor ∧ (quietBay.node 19).role = .sensor ∧
    (tget quietBay.sup.zones 0).state ≠ .settling ∧
    (tget (withZone .settling quietBay).sup.zones 0).state = .settling ∧
    (tget (withZone .settling quietBay).sup.zones 0).settle.isSome = true := by decide +kernel

theorem test_OccupiedZonesHoldTheirModels_met :
    (∀ x ∈ [runningModel, { idleModel with state := .returning }, pausedModel], let s := bay x .tap
      s.running = true ∧ (s.node 19).role = .sensor ∧ (s.node 19).zones.getLsbD 0 = true ∧
      (1 : BitVec 8).getLsbD 0 = true ∧ (s.model 0).config.zoneMask.getLsbD 0 = true ∧
      (s.watch 0).maskOccupied = false ∧ s.maskOccupied (s.model 0).config.zoneMask = false) ∧
    (∀ x ∈ [zoneHeldModel, { pausedModel with holdZone := true },
        { idleModel with state := .holding, holdZone := true, target := some .home }],
      let s := withZone .settling (bay x .tap)
      s.running = true ∧ (tget s.sup.zones 0).state = .settling ∧ (tget s.sup.zones 0).settle.isSome = true ∧
      (∀ y : ZoneId, y ≠ 0 → (s.model 0).config.zoneMask.getLsbD y.val = true → (tget s.sup.zones y).state = .clear) ∧
      (s.watch 0).maskOccupied = true ∧ (s.model 0).state = .holding) := by decide +kernel

theorem test_RingChecksFindAnOpenRing_met :
    (quietBay.running = true ∧ (quietBay.marks (.bay .ringOpen)).active = false ∧
      quietBay.relay.ringOutstanding = false ∧ (quietBay.route 9).detect = true) ∧
    (withMarks (.bay .ringOpen) ⟨true, true, true⟩ quietBay).running = true ∧
    ((withMarks (.bay .ringOpen) ⟨true, true, true⟩ quietBay).marks (.bay .ringOpen)).active = true ∧
    (∀ n ∈ [0, 1, 2, 3], let s := withRelay fun q => { q with ringOutstanding := true, missRun := n };
      s.relay.ringOutstanding = true ∧ s.relay.missRun = n) := by decide +kernel

/-- Whether a written record is accepted as it stands. -/
def taken {α : Type} (r : Except Half (α × Bool)) : Bool :=
  match r with
  | .ok (_, false) => true
  | _ => false

/-- Whether a written record is refused. -/
def refused {α : Type} (r : Except Half (α × Bool)) : Bool :=
  match r with
  | .error _ => true
  | _ => false

/-- A MODEL record of the small bay, byte for byte (Table 10-8): node 40, axis 0, travel -100 to 1000, home 0. -/
def modelRecord : List Byte :=
  [40, 0, 0x9C, 0xFF, 0xE8, 0x03, 0, 0, 50, 0, 50, 0, 0xF6, 20, 5, 40, 0, 3, 0, 1, 0x8A, 2, 0x20, 3, 0xF4, 1, 1, 30, 10,
    2, 30]

/-- Records that are accepted with no field clamped, among them the least and the largest of each table. -/
theorem test_records_taken :
    ([[0, 0, 0, 0], [1, 255, 2, 0], [3, 25, 1, 0xFF], [4, 0, 0, 0]].all fun r => taken (readNode r)) ∧
    ([[0], [1, 5, 0, 1, 0, 11, 31, 3, 120], [1, 62, 15, 3, 1, 0xAA, 0xBB, 0, 1]].all fun r => taken (readButton r)) ∧
    ([[0], [1, 1, 1, 0, 0, 63], [1, 1, 15, 1, 1, 255]].all fun r => taken (readCue r)) ∧
    ([[0], [1, 0, 1, 0, 0, 0, 0, 0], [1, 1, 1, 0x10, 0x27, 0xFF, 0x7F, 3]].all fun r => taken (readProfile r)) ∧
    taken (readModel (fun n => n == 39) modelRecord) = true ∧
    ([[0, 1, 0], [7, 3, 255]].all fun r => taken (readRoute 0 r)) = true ∧
    ([[1, 1, 0, 0], [255, 255, 1, 3]].all fun r => taken (readPattern r)) ∧
    ([[5, 0, 5, 0, 0, 1], [20, 60, 100, 100, 255, 255]].all fun r => taken (readSettings r)) := by decide +kernel

/-- The record of the bay's model is its configured fields. -/
theorem test_model_record_reads :
    (match readModel (fun n => n == 39) modelRecord with
      | .ok (c, _) => c == sampleConfig
      | .error _ => false) = true := by decide +kernel

/-- Whether a written record is accepted with a field clamped. -/
def clamped {α : Type} (r : Except Half (α × Bool)) : Bool :=
  match r with
  | .ok (_, true) => true
  | _ => false

/-- Whether a written record is refused for the field at this offset. -/
def refusedAt {α : Type} (r : Except Half (α × Bool)) (o : Half) : Bool :=
  match r with
  | .error p => p == o
  | _ => false

/-- R176: the least and the largest values outside the ranges of Table 10-8 are clamped. -/
theorem test_records_clamped :
    clamped (readNode [2, 0, 0, 0]) = true ∧ clamped (readButton [1, 5, 0, 0, 0, 11, 31, 3, 0]) = true ∧
    ([[1, 1, 0, 0, 0, 63], [1, 1, 16, 0, 0, 63], [1, 1, 1, 0, 1, 0]].all fun r => clamped (readCue r)) ∧
    clamped (readProfile [1, 0, 1, 0x11, 0x27, 0, 0, 0]) = true ∧
    ([[0, 1, 0, 0], [1, 0, 0, 0]].all fun r => clamped (readPattern r)) ∧
    ([(0, [7, 0, 0]), (0, [7, 4, 0]), (4, [6, 1, 0]), (7, [6, 1, 0])].all fun r => clamped (readRoute r.1 r.2)) ∧
    ([[5, 61, 5, 0, 0, 1], [5, 0, 4, 0, 0, 1], [5, 0, 101, 0, 0, 1], [5, 0, 5, 101, 0, 1], [5, 0, 5, 0, 0, 0]].all
      fun r => clamped (readSettings r)) ∧
    ([(8, 0), (9, 0x10), (10, 0), (15, 0), (16, 0x80), (17, 0), (17, 16), (18, 8), (19, 0), (19, 3), (19, 9), (23, 4),
        (27, 0), (28, 0), (28, 61), (29, 5), (30, 4)].all fun f =>
      clamped (readModel (fun n => n == 39) (modelRecord.set f.1 f.2))) := by decide +kernel

/-- R177: the offset of the first field at fault, next to the ends of its range. -/
theorem test_records_refused_at :
    ([([5, 0, 0, 0], 0), ([1, 0, 3, 0], 2), ([1, 0, 0, 1], 3)].all fun r => refusedAt (readNode r.1) r.2) ∧
    ([([2], 0), ([1, 5, 0, 4, 0, 0, 0, 0, 1], 3), ([1, 5, 0, 0, 2, 0, 0, 0, 1], 4), ([1, 0, 0, 0, 0, 0, 0, 0, 1], 1),
      ([1, 63, 0, 0, 0, 0, 0, 0, 1], 1), ([1, 5, 16, 0, 0, 0, 0, 0, 1], 2), ([1, 5, 0, 0, 0, 12, 0, 0, 1], 5),
      ([1, 5, 0, 0, 0, 0, 32, 0, 1], 6), ([0, 0], 0xFFFF)].all fun r => refusedAt (readButton r.1) r.2) ∧
    ([([2], 0), ([1, 0, 1, 0], 1), ([1, 9, 1, 0], 1), ([1, 1, 1, 2], 3), ([1, 1, 1, 0, 2, 0], 4), ([1, 1, 1, 0, 0, 64], 5),
      ([0, 0], 0xFFFF)].all fun r => refusedAt (readCue r.1) r.2) ∧
    ([([2], 0), ([1, 2, 1], 1), ([1, 0, 0], 2), ([1, 0, 12], 2), ([1, 0, 1, 0, 0, 0, 0, 4], 7), ([0, 0], 0xFFFF)].all
      fun r => refusedAt (readProfile r.1) r.2) ∧
    ([([1, 1, 2, 0], 2), ([1, 1, 1, 4], 3)].all fun r => refusedAt (readPattern r.1) r.2) ∧
    refusedAt (readRoute 0 [7, 1]) 0xFFFF = true ∧ refusedAt (readSettings [6, 0, 5, 0, 0, 1]) 0 = true ∧
    refusedAt (readSettings []) 0xFFFF = true ∧ refusedAt (readModel (fun n => n == 39) []) 0xFFFF = true ∧
    ([((0, 5), 0), ((1, 2), 1), ((3, 4), 2), ((7, 4), 6), ((21, 3), 20), ((25, 3), 24)].all fun f =>
      refusedAt (readModel (fun n => n == 39) (modelRecord.set f.1.1 f.1.2)) f.2) := by decide +kernel

theorem test_ReadsAndRefusalsChangeNothing_met :
    quietBay.carriesOut toOwn = true ∧ quietBay.carriesOut toAll = true ∧
    ([[1, 0, 0], [1, 63, 0], [2, 128, 0], [3, 32, 0], [4, 64, 0], [5, 12, 0], [6, 15, 0], [7, 3, 0], [8, 1, 0], [1, 1],
      [0, 0, 0], [9, 0, 0]].all fun p => (tableAddressFault false p).isSome) ∧
    ([[1, 1, 0], [1, 62, 0], [2, 0, 0], [2, 127, 0], [3, 31, 0], [4, 63, 0], [5, 11, 0], [6, 14, 0], [7, 2, 0],
      [8, 0, 0]].all fun p => (tableAddressFault false p).isNone) ∧
    ([[1], [1, 0], [1, 63], [1, 1, 0], [9, 0], []].all fun p => (tableAddressFault true p).isSome) ∧
    refused (readNode [5, 0, 0, 0]) ∧ refused (readButton [2]) ∧ refused (readCue [1, 9]) ∧
    refused (readProfile [1, 0, 12]) ∧ refused (readModel (fun _ => true) [1]) ∧ refused (readRoute 0 [1]) ∧
    refused (readPattern [1]) ∧ refused (readSettings [1]) := by decide +kernel

/-- The bay with a full reply FIFO. -/
def fullBay : State :=
  withRelay fun q => { q with replyFifo := List.replicate 4 ⟨frameOf 0x41 [], false⟩ }

theorem test_FullReplyFifoTurnsCommandsAway_met :
    fullBay.running = true ∧ toOwn.all = false ∧ 4 ≤ fullBay.relay.replyFifo.length ∧
    (tableAddressFault false [9, 0, 0]).isSome = true := by decide +kernel

theorem test_CueProfileAndPatternWritesStore_met :
    (quietBay.carriesOut toAll = true ∧
      ∀ m : ModelId, (quietBay.model m).inPlay = false) ∧
    (let s := bay runningModel .tap
     (s.model 0).inPlay = true ∧ (s.model 0).position = some firstPosition ∧ firstPosition.cue = 0 ∧
      s.cue 0 = some ⟨[.play 0], 1, .goHome⟩) := by decide +kernel

/-- The accepted fields of NODE records: one that keeps the role DRIVE, one that takes it away. -/
theorem test_NodeWriteSetsUpTheNode_met :
    quietBay.carriesOut toAll = true ∧ taken (readNode [2, 10, 0, 0]) ∧ taken (readNode [0, 0, 0, 0]) ∧
    (quietBay.node 39).role = .drive ∧ (quietBay.model 0).state ≠ .disabled ∧
    (quietBay.model 0).config.driveNode = some 39 ∧ (quietBay.node 4).role ≠ .drive := by decide +kernel

/-- The panel's buttons that are let go: one that is up, a SUSPECT one, and one that owns a HOLD cue. -/
theorem test_Removed_met :
    quietBay.isDown key = false ∧ quietBay.entryOf key = some 0 ∧
    (let s := pressed (mapped suspectButton quietBay)
     s.isDown key = true ∧ s.entryOf key = some 0 ∧ s.entry 0 = some suspectButton) ∧
    (∀ x ∈ [runningModel, zoneHeldModel], let s := pressed (bay x .hold)
      s.isDown key = true ∧ s.ownsCue key 0 = true ∧ s.entry 0 = some (button .hold) ∧
      ((s.model 0).state = .running ∨
        ((s.model 0).state = .holding ∧ (s.model 0).target = some .cue ∧ (s.model 0).pauseTimer = none))) := by
  decide +kernel

theorem test_ButtonWriteReplacesTheEntry_met :
    (match readButton [1, 5, 0, 0, 0, 0, 0, 3, 10] with
      | .ok (some b, false) => b.key == key
      | _ => false) = true ∧
    (∀ i : EntryIx, (quietBay.entry i).isSome = true → i = 0) ∧ (quietBay.entry 0).map (·.key) = some key ∧
    ((bay runningModel .tap).model 0).owner = some (.button key) ∧
    (∀ m, (quietBay.model m).owner = none ∧ quietBay.waits m = []) := by decide +kernel

theorem test_RouteWriteReplacesTheRoute_met :
    (match readRoute 5 [6, 2, 30] with
      | .ok (r, false) => r.detect == false
      | _ => false) = true ∧ (quietBay.route 5).detect = true ∧
    (match readRoute 14 [7, 2, 9] with
      | .ok (r, false) => r.detect == (quietBay.route 14).detect
      | _ => false) = true ∧ alwaysDetected 4 = true ∧ taken (readRoute 4 [7, 1, 0]) := by decide +kernel

theorem test_SettingsWriteTakesEffect_met :
    quietBay.carriesOut toAll = true ∧ taken (readSettings [20, 0, 30, 10, 0, 20]) ∧
    taken (readSettings [10, 5, 30, 10, 60, 20]) ∧ quietBay.settings.samplePeriod = 10 ∧
    (quietBay.model 0).state ≠ .disabled ∧ (∀ m, (State.reset.model m).state = .disabled) ∧
    State.reset.carriesOut toAll = true := by decide +kernel

theorem test_ModelWriteStoresOrStages_met :
    (let s := bay { idleModel with state := .disabled } .tap
     s.carriesOut toAll = true ∧ (s.model 0).state = .disabled ∧
      taken (readModel (fun n => (s.node n).role == .drive) modelRecord)) ∧
    (let s := quietBay
     (s.model 0).state ≠ .disabled ∧ taken (readModel (fun n => (s.node n).role == .drive) modelRecord) ∧
      taken (readModel (fun n => (s.node n).role == .drive) (modelRecord.set 1 1)) ∧
      refused (readModel (fun n => (s.node n).role == .drive) (modelRecord.set 0 5))) := by decide +kernel

theorem test_EnableSetsUpTheModel_met :
    quietBay.carriesOut toOwn = true ∧ (quietBay.model 0).state ≠ .disabled ∧
    (∀ k : ModelId, ([] : List Byte) ≠ [byteOf k.val]) ∧ (∀ k : ModelId, [12] ≠ [byteOf k.val]) ∧
    ((quietBay.model 11).state = .disabled ∧ (quietBay.model 11).config.driveNode = none) ∧
    (let s := bay { idleModel with state := .disabled } .tap
     (s.model 0).state = .disabled ∧ (s.node 39).role = .drive ∧ (s.model 0).config.driveNode = some 39 ∧
      (∀ k : ModelId, k ≠ 0 → (s.model k).state = .disabled) ∧ s.gallery ≠ .waking) := by decide +kernel

/-- No latch of any kind keeps model 0 of that bay out of service. -/
theorem test_EnableSetsUpTheModel_latches_met (k : ModelKind) :
    ((bay { idleModel with state := .disabled } .tap).marks (.model k 0)).latched = false := by
  cases k <;> decide +kernel

theorem test_DisableTakesTheModelOutOfService_met :
    quietBay.carriesOut toOwn = true ∧ (quietBay.model 0).state ≠ .disabled ∧ quietBay.gallery ≠ .waking ∧
    (quietBay.model 11).state = .disabled := by decide +kernel

theorem test_CommitAppliesAtIdle_met :
    (let s := bay { idleModel with staged := some sampleConfig } .tap
     s.carriesOut toOwn = true ∧ (s.model 0).staged = some sampleConfig ∧ (s.model 0).state = .idle ∧
      sampleConfig.travelMin ≤ (s.model 0).lastSetpoint ∧ (s.model 0).lastSetpoint ≤ sampleConfig.travelMax ∧
      sampleConfig.travelMin ≤ sampleConfig.home ∧ sampleConfig.home ≤ sampleConfig.travelMax ∧
      s.maskOccupied sampleConfig.zoneMask = (s.watch 0).maskOccupied) ∧
    (let f := { sampleConfig with travelMin := 1, home := 5 }
     let s := bay { idleModel with staged := some f } .tap
     (s.model 0).staged = some f ∧ ¬ f.travelMin ≤ (s.model 0).lastSetpoint) ∧
    (let s := bay { runningModel with staged := some sampleConfig } .tap
     (s.model 0).staged = some sampleConfig ∧ (s.model 0).state ≠ .idle) ∧
    (quietBay.model 0).staged = none := by decide +kernel

theorem test_CueStartIsDecidedAtOnce_met :
    quietBay.carriesOut toOwn = true ∧ (quietBay.model 11).state = .disabled ∧
    ((bay runningModel .tap).model 0).state = .running ∧
    ((quietBay.model 0).state = .idle ∧ quietBay.gallery = .opened ∧ quietBay.sup.stopAsserted = false ∧
      quietBay.cue 0 = some ⟨[.play 0], 1, .goHome⟩ ∧ (quietBay.profile 0).isSome = true ∧ quietBay.cue 1 = none ∧
      quietBay.maskOccupied (quietBay.model 0).config.zoneMask = false ∧ (quietBay.model 0).flagSeen = false) ∧
    ((withZone .settling quietBay).model 0).state = .idle ∧
    (withZone .settling quietBay).maskOccupied sampleConfig.zoneMask = true ∧
    ((bay { idleModel with flagSeen := true } .tap).model 0).flagSeen = true ∧ (State.reset.gallery = .closed) ∧
    (12 ≤ natAt [12, 0, 0] 0 ∧ 32 ≤ natAt [0, 32, 0] 1) := by decide +kernel

theorem test_SegmentsBeginWithTheirWorkingValues_met :
    quietBay.profile 0 = some ⟨.abs, [⟨300, 1200, .lead⟩, ⟨500, 1200, .dwell⟩, ⟨250, 0, .tail⟩]⟩ ∧
    (quietBay.profile 0).bind (·.segments[0]?) = some ⟨300, 1200, .lead⟩ ∧
    (0 < (300 : Int) + 10 * (-29) ∧ (300 : Int) + 10 * (-30) ≤ 0) ∧
    quietBay.cue 0 = some ⟨[.play 0], 1, .goHome⟩ := by decide +kernel

theorem test_ScheduledStartIsListed_met :
    quietBay.carriesOut toOwn = true ∧ (quietBay.model 11).state = .disabled ∧ (quietBay.model 0).state ≠ .disabled ∧
    (let s := withSchedule ((List.range 8).map fun i => entryFor (Fin.ofNat 12 (i + 1)) none) quietBay
     (∀ e ∈ s.motion.schedule, e.model ≠ 0) ∧ 8 ≤ s.motion.schedule.length) ∧
    (let s := withSchedule [entryFor 1 none] quietBay
     (∀ e ∈ s.motion.schedule, e.model ≠ 0) ∧ s.motion.schedule.length < 8 ∧
      ¬ (s.motion.clock - 100).toNat < 2 ^ 31 ∧ ¬ (s.motion.clock - 2 ^ 31).toNat < 2 ^ 31 ∧
      (s.motion.clock - 0).toNat < 2 ^ 31 ∧
      (∀ e ∈ [entryFor 1 none], e.due.isSome = true ∨
        (e.start - s.motion.clock).toNat ≤ (100 - s.motion.clock : Clock).toNat)) ∧
    (∃ e ∈ (withSchedule [entryFor 0 none] quietBay).motion.schedule, e.model = 0) := by decide +kernel

/-- An entry that is reached as it is placed: it starts its cue, is missed, or waits for a blocked model. -/
theorem test_ScheduledStartIsReached_met :
    (∀ s ∈ [quietBay, withSchedule [entryFor 0 none] quietBay], (s.model 0).state ≠ .disabled ∧
      s.motion.schedule.length < 8 ∧ (s.motion.clock - 0).toNat < 2 ^ 31 ∧
      (s.motion.clock - (2 ^ 31 + 1)).toNat < 2 ^ 31 ∧ s.startable 0 .control = true ∧ s.cueValid 0 = true ∧
      (s.model 0).flagSeen = false) ∧
    (withoutCues quietBay).cueValid 0 = false ∧ (withoutCues quietBay).startable 0 .control = true ∧
    (withZone .occupied quietBay).startable 0 .control = false ∧ (withZone .occupied quietBay).gallery ≠ .doze := by
  decide +kernel

theorem test_CutsEndTheCue_met :
    quietBay.running = true ∧ quietBay.carriesOut toOwn = true ∧ (quietBay.model 0).pauseTimer = none ∧
    (quietBay.watch 0).holdTimer = none ∧ ((bay pausedModel .tap).model 0).pauseTimer.isSome = true ∧
    ((bay pausedModel .tap).model 0).state = .holding ∧
    (let s := (bay zoneHeldModel .tap).modWatch 0 fun w => { w with holdTimer := some 1 }
     (s.watch 0).holdTimer.isSome = true ∧ (s.model 0).state = .holding ∧ (s.model 0).holdZone = true) := by
  decide +kernel

theorem test_ModeCommandChangesTheMode_met :
    quietBay.carriesOut toOwn = true ∧ quietBay.gallery = .opened ∧
    (∀ g ∈ [GalleryMode.closed, .service, .doze, .waking], (inMode g quietBay).gallery = g) ∧
    (quietBay.model 0).state ≠ .disabled ∧ (quietBay.watch 0).energised = false ∧
    (∀ m, ((energised quietBay).model m).state = .disabled ∨ ((energised quietBay).watch m).energised = true) ∧
    (∀ m, (quietBay.model m).flagSeen = false) ∧ quietBay.sup.stopAsserted = false ∧ quietBay.motion.schedule = [] ∧
    (quietBay.model 0).state = .idle ∧ quietBay.maskOccupied sampleConfig.zoneMask = false ∧
    (withZone .occupied quietBay).maskOccupied sampleConfig.zoneMask = true ∧
    ((bay runningModel .tap).model 0).owner = some (.button key) ∧
    (∀ code ∈ [3, 5, 255], code = 3 ∨ 4 < (code : Byte).toNat) := by decide +kernel

/-- The schedule list of the bay with one entry for model 0, due or not, is well formed. -/
theorem test_ScheduleWf_met :
    quietBay.ScheduleWf ∧
    (withSchedule [entryFor 0 none] quietBay).ScheduleWf ∧ (withSchedule [entryFor 0 (some 1)] quietBay).ScheduleWf ∧
    (withSchedule [entryFor 0 none] (withZone .occupied quietBay)).ScheduleWf := by
  repeat' apply And.intro
  all_goals constructor <;> decide +kernel

theorem test_ScheduleEntriesComeDue_met :
    (let s := withSchedule [entryFor 0 none] (atClock 100 quietBay)
     s.running = true ∧ s.carriesOut toOwn = true ∧
      (∀ e ∈ s.motion.schedule, e.due = none → ¬ ((99 : Clock) - e.start).toNat < 2 ^ 31) ∧
      (s.motion.clock - (entryFor 0 none).start).toNat < 2 ^ 31 ∧ (entryFor 0 none).lateLimit ≠ 0 ∧
      s.startable 0 .control = true ∧ s.cueValid 0 = true ∧ (s.model 0).flagSeen = false ∧
      (withoutCues s).startable 0 .control = true ∧ (withoutCues s).cueValid 0 = false ∧
      (∀ e ∈ s.motion.schedule, e.model = 0 → e.due = none)) ∧
    (let s := atClock 100 (bay { idleModel with flagSeen := true } .tap)
     s.startable 0 .control = true ∧ s.cueValid 0 = true ∧ (s.model 0).flagSeen = true) ∧
    (let s := withSchedule [entryFor 0 none] (withZone .occupied quietBay)
     s.gallery ≠ .doze ∧ s.startable 0 .control = false) ∧
    (let s := inMode .doze quietBay
     s.gallery = .doze ∧ (s.model 0).state ≠ .disabled ∧ (s.watch 0).energised = false ∧
      ∀ k, ((energised s).model k).state = .disabled ∨ ((energised s).watch k).energised = true) ∧
    { entryFor 0 none with lateLimit := 0 }.lateLimit = 0 ∧
    (let s := withSchedule [entryFor 0 (some 1)] quietBay
     (∀ e ∈ s.motion.schedule, e.due.isSome = true) ∧ ∃ e ∈ s.motion.schedule, e.model = 0 ∧ e.due.isSome = true) := by
  decide +kernel

/-- With nothing reached, or all that is reached due, no entry is overdue. -/
theorem test_NoneOverdue_met :
    (withSchedule [entryFor 0 none] (atClock 99 quietBay)).NoneOverdue ∧
    (withSchedule [entryFor 0 (some 1)] (atClock 100 quietBay)).NoneOverdue := by
  unfold State.NoneOverdue
  decide +kernel

theorem test_ClearFaultClearsInactiveLatches_met :
    quietBay.carriesOut toOwn = true ∧ (namedFaults 0xFF 0xFF 0xFF).isSome = true ∧
    (namedFaults 0 0 0).isSome = true ∧ (namedFaults 0 11 0).isSome = true ∧ (namedFaults 0 12 0).isNone = true ∧
    (namedFaults 5 62 0).isSome = true ∧ (namedFaults 5 63 0).isNone = true ∧ (namedFaults 5 0 0).isNone = true ∧
    (namedFaults 10 9 9).isSome = true ∧ (namedFaults 11 0 0).isNone = true ∧
    ([(0xFF, 11, 0xFE), (0xFF, 62, 0xFD), (0xFF, 62, 15), (6, 1, 15), (6, 0xFF, 0xFF), (7, 0, 1)].all
      fun n => (namedFaults n.1 n.2.1 n.2.2).isSome) ∧
    ([(0xFF, 12, 0xFE), (0xFF, 63, 0xFD), (0xFF, 0, 0), (0xFF, 1, 16), (0xFF, 0, 0xFF), (0, 0, 1), (5, 1, 1), (6, 1, 16),
      (0xFE, 0xFF, 0xFF)].all fun n => (namedFaults n.1 n.2.1 n.2.2).isNone) ∧
    (let s := withMarks (.model .follow 0) ⟨false, false, true⟩ (bay { idleModel with state := .faulted } .tap)
     (s.model 0).state = .faulted ∧ (s.marks (.model .follow 0)).latched = true ∧
      (s.marks (.model .follow 0)).active = false) := by decide +kernel

theorem test_StatusQueryReportsTheState_met :
    quietBay.carriesOut toOwn = true ∧ (0xFE : Byte).getLsbD 0 = false ∧ (0xFF : Byte).getLsbD 0 = true := by
  decide +kernel

theorem test_RestartBringsTheSoftReset_met :
    quietBay.carriesOut toOwn = true ∧ toOwn.all = false ∧ toAll.all = true ∧ quietBay.relay.spineOut = none ∧
    busyBay.relay.spineOut.isSome = true ∧ busyBay.carriesOut toAll = true := by decide +kernel

theorem test_AlertAckAcknowledges_met :
    quietBay.carriesOut toOwn = true ∧ (∀ r ∈ quietBay.alert.queue, r.number ≠ (1 : Byte).toNat) ∧
    (let r := record 255 (.fault (.bay .stopKey)) .awaiting
     let s := withQueue [record 1 (.holdLimit 0) .unsent, r] stoppedBay
     s.carriesOut toAll = true ∧ s.alert.queue = [record 1 (.holdLimit 0) .unsent] ++ r :: [] ∧
      r.number = (255 : Byte).toNat ∧ (∀ q ∈ [record 1 (.holdLimit 0) .unsent], q.number ≠ (255 : Byte).toNat) ∧
      (s.marks (.bay .stopKey)).latched = true) ∧
    fullBay.running = true ∧ 4 ≤ fullBay.relay.replyFifo.length := by decide +kernel

theorem test_SetpointsFollowThePath_met :
    (firstPosition.elapsed < firstPosition.duration) ∧
    ({ firstPosition with elapsed := 200 }.duration ≤ { firstPosition with elapsed := 200 }.elapsed) ∧
    (quietBay.nextPlace sampleConfig 0 { firstPosition with elapsed := 0 }).isSome = true ∧
    quietBay.nextPlace sampleConfig 0 { firstPosition with segment := 2, elapsed := 0 } = none ∧
    quietBay.segmentCount (.play 0) = 3 ∧
    (quietBay.cue 0).bind (·.steps[0]?) = some (.play 0) := by decide +kernel

theorem test_Samples_met :
    quietBay.running = true ∧ busyBay.relay.bayOut.isSome = true ∧ busyBay.running = true ∧
    (∀ m, (busyBay.model m).staged = none) ∧ ((bay runningModel .tap).model 0).position = some firstPosition ∧
    (∀ e ∈ quietBay.motion.schedule, e.model = 0 → e.due = none) ∧ (quietBay.model 0).commitPending = false ∧
    clampRate 50 100 0 = 50 ∧ clampRate 50 50 0 = 0 := by decide +kernel

/-- A model that comes home, with a record to commit that fits or does not, and with a due entry. -/
def homeModel : Model := { idleModel with state := .returning }

theorem test_Samples_come_to_rest_met :
    clampRate homeModel.config.returnRate homeModel.lastSetpoint homeModel.config.home = homeModel.config.home ∧
    quietBay.motion.schedule = [] ∧ homeModel.commitPending = false ∧
    (quietBay.maskOccupied sampleConfig.zoneMask = false ∧ quietBay.sup.stopAsserted = false ∧
      quietBay.gallery = .opened) ∧
    (∀ k, k ≠ 0 → ((bay homeModel .tap).model k).state ≠ .running ∧ ((bay homeModel .tap).model k).state ≠ .returning) ∧
    (let f := { sampleConfig with travelMin := 1, home := 5 }
     let x := { homeModel with commitPending := true, staged := some f }
     x.commitPending = true ∧ x.staged = some f ∧ ¬ f.travelMin ≤ homeModel.lastSetpoint) ∧
    (let x := { homeModel with commitPending := true, staged := some sampleConfig }
     x.staged = some sampleConfig ∧ sampleConfig.travelMin ≤ x.lastSetpoint ∧ x.lastSetpoint ≤ sampleConfig.travelMax ∧
      sampleConfig.travelMin ≤ sampleConfig.home ∧ sampleConfig.home ≤ sampleConfig.travelMax) ∧
    (let s := withSchedule [entryFor 0 (some 1)] (bay homeModel .tap)
     entryFor 0 (some 1) ∈ s.motion.schedule ∧ s.cueValid 0 = true ∧ (withoutCues s).cueValid 0 = false) ∧
    (let s := bay { runningModel with position := some ⟨0, 1, 0, 2, 290, 0, 300, 1200, 0⟩ } .tap
     (s.playSample (s.model 0) ⟨0, 1, 0, 2, 290, 0, 300, 1200, 0⟩).1 = true ∧
      s.cue 0 = some ⟨[.play 0], 1, .goHome⟩ ∧ (s.model 0).state = .running) := by decide +kernel

theorem test_homeBay_wf : (withSchedule [entryFor 0 (some 1)] (bay homeModel .tap)).ScheduleWf := by
  constructor <;> decide +kernel

/-- Node 40 has one model, on its axis 0; node 5 has none. -/
theorem test_Slots_met :
    (∀ m, ((busyBay.model m).state ≠ .disabled ∧ (busyBay.model m).config.driveNode = some 39) ↔ m = 0) ∧
    (busyBay.model 0).config.axis ≠ 1 ∧
    (∀ m, ¬ ((busyBay.model m).state ≠ .disabled ∧ (busyBay.model m).config.driveNode = some 4)) := by decide +kernel

/-- The bay with a model-free notice for model 0 and its button's request waiting. -/
def noticed (s : State) : State := { withWaits [request] s with motion := { s.motion with freeNotices := [0] } }

theorem test_WaitListsAreServedAndExpire_met :
    (quietBay.outOfReset = true ∧ 0 ∉ quietBay.motion.freeNotices) ∧
    ((noticed quietBay).outOfReset = true ∧ 0 ∈ (noticed quietBay).motion.freeNotices ∧
      (noticed quietBay).waits 0 = request :: [] ∧ (noticed quietBay).verdict 0 request.cue (.button request.key) = .ok ∧
      (noticed quietBay).entryOf request.key = some 0 ∧ (noticed quietBay).running = true ∧
      ∃ r ∈ (noticed quietBay).waits 0, r.key = key) ∧
    (noticed (bay runningModel .tap)).verdict 0 0 (.button key) = .busy ∧
    (noticed (withoutCues quietBay)).verdict 0 0 (.button key) = .cueInvalid ∧
    (let s := noticed (bay { idleModel with flagSeen := true } .tap)
     s.verdict 0 0 (.button key) = .faultLatched ∧ (s.marks (.model .driveReport 0)).latched = false ∧
      ((withMarks (.model .driveReport 0) ⟨false, false, true⟩ s).marks (.model .driveReport 0)).latched = true ∧
      (withMarks (.model .driveReport 0) ⟨false, false, true⟩ s).verdict 0 0 (.button key) = .faultLatched) ∧
    ([request, other 1].tail ≠ []) ∧ [request].tail = [] ∧
    (∀ r ∈ quietBay.waits 0, r.key ≠ key) := by decide +kernel

theorem test_noticed_agrees : (noticed quietBay).MotionAgrees := by
  constructor <;> decide +kernel

/-- The bay with the button's stuck timer running. -/
def stuckBay (x : Model) (m : ButtonMode) : State :=
  { bay x m with press := { (bay x m).press with
      buttons := (bay x m).press.buttons.set 0 (some { button m with stuckTimer := some 1 }) } }

theorem test_ButtonAndPanelTimersExpire_met :
    quietBay.running = true ∧ quietBay.entryOf ⟨61, 15⟩ = none ∧ quietBay.entryOf key = some 0 ∧
    (button .tap).stuckTimer = none ∧ (stuckBay idleModel .tap).entryOf key = some 0 ∧
    (stuckBay runningModel .hold).ownsCue key 0 = true ∧ (stuckBay idleModel .hold).ownsCue key 0 = false ∧
    (quietBay.route 6).detect = true ∧ (quietBay.marks (.buttonStuck key)).active = false ∧
    (noticed quietBay).isWaiting key 0 = true ∧ tget quietBay.press.refresh 4 = none ∧
    (tget (quietBay.press.refresh.set 4 (some 1)) 4).isSome = true := by decide +kernel

theorem test_SilencesAreReported_met :
    quietBay.running = true ∧ (quietBay.node 4).silence = none ∧ (quietBay.route 5).detect = true ∧
    ((quietBay.modNode 4 fun e => { e with silence := some 1 }).node 4).silence.isSome = true ∧
    (quietBay.marks (.nodeSilent 4)).active = false ∧ (quietBay.watch 0).driveSilence = none ∧
    ((quietBay.modWatch 0 fun w => { w with driveSilence := some 1 }).watch 0).driveSilence.isSome = true ∧
    (quietBay.route 4).detect = true ∧ (quietBay.marks (.model .driveSilent 0)).latched = false ∧
    quietBay.relay.spineSilence = none ∧ (withRelay fun q => { q with spineSilence := some 1 }).running = true ∧
    (∀ n ∈ [19, 254, 255], let s := withRelay fun q => { q with windowCount := n };
      s.relay.rxBay ≠ .discarding ∧ (s.route 10).detect = true ∧
      s.settings.bayThreshold ≤ if s.relay.windowCount < 255 then s.relay.windowCount + 1 else s.relay.windowCount) ∧
    64 < tooLong.payload.length ∧ badCheck.payload.length ≤ 64 ∧ checkGood badCheck = false := by decide +kernel

theorem test_RaisesEscalateAndFlash_met :
    (let s := { quietBay with alert := { quietBay.alert with
        routes := quietBay.alert.routes.set 12 ⟨false, true, true, 1, 0⟩ } };
      (About.startMissed 0).isEvent = true ∧ (s.route (About.startMissed 0).kindCode).detect = false) ∧
    quietBay.alert.queue.length < 24 ∧
    (∀ st ∈ [AlertState.acked, .awaiting],
      let l := (List.range 24).map fun i => record (i + 1) (.visitorCall ⟨0, Fin.ofNat 16 i⟩) st
      (withQueue l quietBay).alert.queue.length = 24 ∧ l.head?.map (·.state) = some st) ∧
    quietBay.alert.showing = .dark ∧ (after (exec .stopKeyAsserted quietBay)).alert.showing = .flash 3 ∧
    (after (exec .stopKeyAsserted quietBay)).alert.phaseTimer.isSome = true ∧
    (after (exec .stopKeyAsserted quietBay)).alert.phaseCut = false ∧
    (let s := raise (.fault (.bay .stopKey)) (raise (.fault (.model .driveReport 0)) quietBay)
     s.alert.showing = .flash 3 ∧ s.alert.phaseCut = true) ∧
    quietBay.alert.lastNumber ≤ 255 ∧
    { quietBay with alert := { quietBay.alert with lastNumber := 255 } }.alert.lastNumber ≤ 255 := by decide +kernel

/-- R131: after record 255 the numbers go on at 1, past one that is held. -/
theorem test_numbers_go_round :
    let s := { withQueue [record 1 (.holdLimit 0) .awaiting] quietBay with
      alert := { (withQueue [record 1 (.holdLimit 0) .awaiting] quietBay).alert with lastNumber := 255 } }
    (raise (.fault (.bay .stopKey)) s).alert.lastNumber = 2 := by decide +kernel

theorem test_DozeAndWakeRunTheirCourse_met :
    quietBay.running = true ∧ quietBay.modeCtl.dozeTimer = none ∧ (∀ m, (quietBay.model m).inPlay = false) ∧
    { quietBay with modeCtl := ⟨.opened, some 1, none⟩ }.modeCtl.dozeTimer.isSome = true ∧
    quietBay.gallery ≠ .waking ∧
    (let s := { quietBay with modeCtl := ⟨.waking, none, some 1⟩ }
     s.gallery = .waking ∧ s.modeCtl.wakeTimer.isSome = true ∧ (s.watch 0).energised = false ∧
      (s.model 0).state ≠ .disabled ∧ (s.node 39).role = .drive ∧
      (8 : Byte).getLsbD 3 = true ∧ ∀ k : ModelId, k ≠ 0 → (s.model k).state = .disabled) := by decide +kernel

/-! ### States that meet the invariants, and a step from each -/

/-- A bay in which a cue plays, one request waits and STOP_KEY's alert shows; with the clock running it idles. -/
def liveBay : State :=
  { bay runningModel .tap with
    press := { (bay runningModel .tap).press with
      waits := (bay runningModel .tap).press.waits.set 0 [other 1], tallies := ⟨2, 1, 0, 0, 0⟩
      lamps := (bay runningModel .tap).press.lamps.set 4 (Vector.ofFn fun i => if i = 0 then .running else .off) } }

/-- The bay stopped, with its alert showing. Only the kernel evaluates it. -/
@[irreducible] def alertBay : State := after (exec .stopKeyAsserted State.reset)

theorem test_live_step : step liveBay = .next (idle liveBay) := rfl

theorem live_owner (m : ModelId) (o : Owner) (h : (liveBay.model m).owner = some o) : o = .button key := by
  have all : ∀ m : ModelId, (liveBay.model m).owner = none ∨ (liveBay.model m).owner = some (.button key) := by
    decide +kernel
  rcases all m with e | e <;> rw [e] at h <;> cases h
  rfl

theorem test_StepKeepsMotionSafe_met : liveBay.MotionAgrees ∧ liveBay.MovesSafely := by
  constructor <;> constructor
  case right.allowed => exact fun _ _ _ => .inl rfl
  all_goals decide +kernel

theorem unconfigured_inRange : ModelConfig.unconfigured.InRange := by
  constructor <;> decide

theorem sampleConfig_inRange : sampleConfig.InRange := by
  constructor <;> decide

theorem test_StepKeepsModelsWithinTravel_met : liveBay.WithinTravel := by
  have all : ∀ m : ModelId, ((liveBay.model m).config = .unconfigured ∨ (liveBay.model m).config = sampleConfig) ∧
      (liveBay.model m).staged = none := by decide +kernel
  refine ⟨fun m => ?_, fun m c h => ?_, by decide +kernel, by decide +kernel⟩
  · rcases (all m).1 with e | e <;> rw [e]
    · exact unconfigured_inRange
    · exact sampleConfig_inRange
  · rw [(all m).2] at h
    cases h

theorem test_StepKeepsTheListsAndTheBalance_met :
    liveBay.ScheduleWf ∧ liveBay.ListsWf ∧ liveBay.Balanced ∧ liveBay.TalliesBelowMax := by
  unfold State.Balanced State.TalliesBelowMax
  repeat' apply And.intro
  case left => constructor <;> decide +kernel
  case right.left => constructor <;> decide +kernel
  all_goals decide +kernel

/-- Model 1 is in service as well, and both have an entry, in the order of their waits. -/
theorem test_StartsInOrder_met :
    let s := withSchedule [⟨1, 0, 99, 5, none⟩, entryFor 0 none]
      { quietBay with motion := { quietBay.motion with models := quietBay.motion.models.set 1 idleModel } }
    s.NoneOverdue ∧ s.StartsInOrder ∧ s.motion.schedule.length = 2 := by
  unfold State.NoneOverdue State.StartsInOrder
  decide +kernel

theorem liveBay_marks (id : FaultId) : liveBay.marks id = .clear := by
  have models : ∀ (i : Fin 5) (m : ModelId), tget (tget liveBay.sup.faults.modelMarks i) m = .clear := by decide +kernel
  have nodes : ∀ n : NodeId, tget liveBay.sup.faults.nodeMarks n = .clear := by decide +kernel
  have keys : ∀ (n : NodeId) (b : ButtonIx), tget (tget liveBay.sup.faults.keyMarks n) b = .clear := by decide +kernel
  have bays : ∀ i : Fin 4, tget liveBay.sup.faults.bayMarks i = .clear := by decide +kernel
  cases id with
  | model k m => exact models k.index m
  | nodeSilent n => exact nodes n
  | buttonStuck k => exact keys k.node k.button
  | bay k => exact bays k.index

/-- No button of the bay is SUSPECT. -/
theorem liveBay_unsuspected (i : EntryIx) (b : Button) (h : liveBay.entry i = some b) : b.suspect = false := by
  have all : ∀ i : EntryIx, (liveBay.entry i).all (fun b => !b.suspect) = true := by decide +kernel
  simpa [h] using all i

theorem test_StepKeepsTheFaultTableTrue_met : liveBay.FaultsAgree where
  follows id := by rw [liveBay_marks]; rfl
  watched := by decide +kernel
  stopKey := by rw [liveBay_marks]; rfl
  ring := by rw [liveBay_marks]; rfl
  stuck k := by
    rw [liveBay_marks]
    refine iff_of_false Bool.false_ne_true ?_
    rintro ⟨i, b, h, -, suspect⟩
    rw [liveBay_unsuspected i b h] at suspect
    cases suspect
  disabled m _ := by
    have quiet : ∀ m : ModelId, (liveBay.watch m).driveSilence = none := by decide +kernel
    exact ⟨quiet m, fun k => by rw [liveBay_marks]; rfl⟩
  tripped m k _ h := by rw [liveBay_marks] at h; cases h
  cause m h := absurd h ((by decide +kernel : ∀ m : ModelId, (liveBay.model m).state ≠ .faulted) m)

theorem test_StepKeepsTheLampsTrue_met : liveBay.KeysApart ∧ liveBay.LampsTrue := by
  have only : ∀ i : EntryIx, (liveBay.entry i).isSome = true → i = 0 := by decide +kernel
  have lamps : ∀ (n : NodeId) (b : ButtonIx), liveBay.lamp ⟨n, b⟩ = match liveBay.entryOf ⟨n, b⟩ with
      | some i => (liveBay.entry i).elim .off liveBay.lampOf
      | none => .off := by decide +kernel
  exact ⟨fun i j b c hi hj _ => (only i (by simp [hi])).trans (only j (by simp [hj])).symm, fun k => lamps k.node k.button⟩

/-- FLASH of the tier of an unacknowledged record, with none of a higher tier and no overflow. -/
theorem showingTrue_of {s : State} (t : Nat) (flashes : s.alert.showing = .flash t)
    (h : (!s.alert.overflow && (s.alert.queue.any fun r => r.beacon && r.state != .acked && r.tier == t) &&
      s.alert.queue.all fun r => decide (r.tier ≤ t)) = true) : s.ShowingTrue := by
  simp only [Bool.and_eq_true, Bool.not_eq_true', List.any_eq_true, List.all_eq_true, bne_iff_ne, beq_iff_eq,
    decide_eq_true_eq] at h
  obtain ⟨⟨overflow, r, member, shown⟩, most⟩ := h
  unfold State.ShowingTrue
  rw [flashes]
  exact .inr ⟨overflow, ⟨r, member, shown⟩, fun q hq _ => most q hq⟩

theorem alertBay_flashes : alertBay.alert.showing = .flash 3 := by decide +kernel

theorem test_StepKeepsTheQueuesAndTheBeacon_met :
    alertBay.Bounded ∧ alertBay.AlertsWf ∧ alertBay.ShowingTrue ∧ alertBay.OutputsTrue := by
  have outputs : alertBay.OutputsTrue := by
    constructor
    case flash =>
      intro t h
      rw [alertBay_flashes] at h
      cases h
      decide +kernel
    all_goals decide +kernel
  have bounded : alertBay.Bounded := by constructor <;> decide +kernel
  have records : alertBay.AlertsWf := by constructor <;> decide +kernel
  exact ⟨bounded, records, showingTrue_of 3 alertBay_flashes (by decide +kernel), outputs⟩

/-- Section 8.8: FLASH of the highest tier, STEADY once all are acknowledged, DARK with nothing. -/
theorem test_ShowingTrue_met :
    quietBay.ShowingTrue ∧
    (let l := [record 1 (.holdLimit 0) .awaiting, { record 2 (.holdLimit 1) .unsent with tier := 1 }]
     { withQueue l quietBay with alert := { (withQueue l quietBay).alert with showing := .flash 2 } }.ShowingTrue) ∧
    (let l := [record 1 (.holdLimit 0) .acked]
     { withQueue l quietBay with alert := { (withQueue l quietBay).alert with showing := .steady } }.ShowingTrue) := by
  have dark : quietBay.alert.showing = .dark := by decide +kernel
  simp only [State.ShowingTrue, dark]
  decide +kernel

/-- Table 5-1 and R80: one state for each test, in the order of the tests. -/
theorem test_lamps_by_test :
    (inMode .closed quietBay).lampOf (button .tap) = .off ∧ (inMode .service quietBay).lampOf (button .tap) = .out ∧
    (inMode .doze quietBay).lampOf (button .tap) = .wake ∧ quietBay.lampOf suspectButton = .out ∧
    (∀ st ∈ [ModelState.disabled, .enabling, .stopped, .faulted],
      (bay { idleModel with state := st } .tap).lampOf (button .tap) = .out) ∧
    (bay pausedModel .hold).lampOf (button .hold) = .paused ∧
    (bay { pausedModel with holdZone := true } .hold).lampOf (button .hold) = .paused ∧
    (bay runningModel .tap).lampOf (button .tap) = .running ∧ (bay zoneHeldModel .tap).lampOf (button .tap) = .running ∧
    (withWaits [request] quietBay).lampOf (button .tap) = .wait ∧ quietBay.lampOf lockedButton = .locked ∧
    quietBay.lampOf (button .tap) = .ready ∧ (withZone .occupied quietBay).lampOf (button .tap) = .busy ∧
    (inMode .waking quietBay).lampOf (button .tap) = .busy := by decide +kernel

/-- R81: the lamp of a CALL button. -/
theorem test_call_lamps :
    (withQueue [record 1 (.visitorCall key) .awaiting] quietBay).lampOf (button .call) = .running ∧
    quietBay.lampOf { button .call with lockoutTimer := some 1 } = .locked ∧
    quietBay.lampOf (button .call) = .ready := by decide +kernel

theorem test_Outputs_met : quietBay.OutputsTrue := by
  have dark : quietBay.alert.showing = .dark := by decide +kernel
  constructor
  case flash =>
    intro t h
    rw [dark] at h
    cases h
  all_goals decide +kernel

end Sys2Proof.Tests
end

/-! ## One model in its scene

What the invariants `MotionAgrees` and `MovesSafely` say of one model, as a predicate of the model's view, and what each
change of a model does to it. -/

namespace Sys2Proof.Machine

/-- R4, R13, Table 1-2: what plays has an owner and a place, what is held has a cause and a target, and every other
model has none of these. -/
def Model.Agrees (x : Model) : Prop :=
  match x.state with
  | .running => x.owner.isSome = true ∧ x.position.isSome = true ∧ x.holdZone = false ∧ x.holdPause = false ∧
      x.target = none ∧ x.pauseTimer = none
  | .holding => x.pauseTimer.isSome = x.holdPause ∧
      ((x.target = some .cue ∧ x.owner.isSome = true ∧ x.position.isSome = true ∧
          (x.holdZone = true ∨ x.holdPause = true)) ∨
        (x.target = some .home ∧ x.owner = none ∧ x.position = none ∧ x.holdZone = true ∧ x.holdPause = false))
  | .disabled | .enabling | .idle | .returning | .stopped | .faulted =>
      x.owner = none ∧ x.position = none ∧ x.holdZone = false ∧ x.holdPause = false ∧ x.target = none ∧
        x.pauseTimer = none

theorem Model.agrees_iff (x : Model) : x.Agrees ↔
    (x.owner.isSome = x.inPlay ∧ x.position.isSome = x.inPlay) ∧
    ((x.holdZone || x.holdPause) = (x.state == .holding) ∧ x.target.isSome = (x.state == .holding)) ∧
    (x.holdPause = true → x.target = some .cue) ∧ x.pauseTimer.isSome = x.holdPause := by
  unfold Model.Agrees Model.inPlay
  cases hs : x.state
  case holding =>
    cases hp : x.holdPause <;> cases hz : x.holdZone <;> rcases ht : x.target with _ | _ | _ <;> simp
    all_goals grind [Option.isSome_iff_ne_none]
  all_goals simp
  all_goals grind [Option.isSome_iff_ne_none]

/-- What the safety of one model's motion reads: its record, its mask-occupied mark and hold-limit timer, which masks
are occupied, the STOP key and the gallery mode. -/
structure View where
  model : Model
  mark : Bool
  holdTimer : Timer
  occupied : BitVec 8 → Bool
  stop : Bool
  gallery : GalleryMode

/-- The view of one model. -/
def State.view (s : State) (m : ModelId) : View :=
  ⟨s.model m, (s.watch m).maskOccupied, (s.watch m).holdTimer, s.maskOccupied, s.sup.stopAsserted, s.gallery⟩

/-- A zone of the model's mask is occupied. -/
def View.blocked (v : View) : Bool := v.occupied v.model.config.zoneMask

/-- What `MotionAgrees` and `MovesSafely` say of one model. -/
structure View.Safe (v : View) : Prop where
  agrees : v.model.Agrees
  limit : v.holdTimer.isSome = true → v.model.zoneHeld = true
  marked : v.model.state ≠ .disabled → v.mark = v.blocked
  clear : v.model.state = .running ∨ v.model.state = .returning → v.blocked = false
  held : v.model.state = .holding → v.model.holdZone = v.blocked
  stopped : v.stop = true → v.model.state.stoppable = false
  allowed : ∀ o, v.model.owner = some o → v.gallery = .opened ∨ (v.gallery = .service ∧ o = .control)

/-- Every model is safe. -/
def State.Safe (s : State) : Prop := ∀ m, (s.view m).Safe

theorem State.safe_iff (s : State) : s.Safe ↔ s.MotionAgrees ∧ s.MovesSafely := by
  have limit (m : ModelId) : ((s.view m).holdTimer.isSome = true → (s.view m).model.zoneHeld = true) ↔
      ((s.watch m).holdTimer.isSome = true → (s.model m).state = .holding ∧ (s.model m).holdZone = true) := by
    simp [State.view, Model.zoneHeld]
  constructor
  · intro h
    have agrees := fun m => (s.model m).agrees_iff.mp (h m).agrees
    exact ⟨⟨fun m => (agrees m).1, fun m => (agrees m).2.1, fun m => (agrees m).2.2.1, fun m => (agrees m).2.2.2,
        fun m => (limit m).mp (h m).limit⟩,
      ⟨fun m => (h m).marked, fun m => (h m).clear, fun m => (h m).held, fun t m => (h m).stopped t,
        fun m => (h m).allowed⟩⟩
  · rintro ⟨a, b⟩ m
    exact ⟨(s.model m).agrees_iff.mpr ⟨a.owned m, a.holds m, a.paused m, a.window m⟩, (limit m).mpr (a.limit m),
      b.marks m, b.clear m, b.held m, fun t => b.stopped t m, b.allowed m⟩

/-! ### Changes of a model -/

/-- What a change of a model by `f` makes of its view (R3). -/
def View.change (v : View) (f : Model → Model) : View :=
  { v with model := v.model.settled (f v.model), holdTimer := v.model.holdTimerAfter (f v.model) v.holdTimer }

theorem changeModel_view (m k : ModelId) (f : Model → Model) (s : State) :
    (changeModel m f s).view k = if k = m then (s.view m).change f else s.view k := by
  have zones : (changeModel m f s).maskOccupied = s.maskOccupied := by
    funext mask; simp only [State.maskOccupied, State.zoneOccupied]; rw [changeModel_sup]
  have stop : (changeModel m f s).sup.stopAsserted = s.sup.stopAsserted := by rw [changeModel_sup]
  simp only [State.view, zones, stop, changeModel_gallery, changeModel_model, changeModel_watch, View.change]
  split <;> simp_all

theorem Model.settled_eq (x y : Model) : ∃ r, x.settled y = { y with run := r } := by
  unfold Model.settled
  split
  · exact ⟨0, rfl⟩
  · exact ⟨y.run, rfl⟩

/-- R94: a hold-limit timer that ran only in a zone hold still does after a change. -/
theorem Model.holdTimerAfter_isSome {old new : Model} {t : Timer} (h : t.isSome = true → old.zoneHeld = true)
    (runs : (old.holdTimerAfter new t).isSome = true) : new.zoneHeld = true := by
  unfold Model.holdTimerAfter at runs
  cases hn : new.zoneHeld <;> cases ho : old.zoneHeld <;> simp_all

/-- A changed model is safe where it agrees with itself and moves safely in its scene. -/
theorem View.safe_change {v : View} {f : Model → Model} (limit : v.holdTimer.isSome = true → v.model.zoneHeld = true)
    (new : { v with model := f v.model, holdTimer := none }.Safe) : (v.change f).Safe := by
  obtain ⟨r, e⟩ := v.model.settled_eq (f v.model)
  have timer : (v.change f).holdTimer.isSome = true → (f v.model).zoneHeld = true :=
    Model.holdTimerAfter_isSome limit
  obtain ⟨agrees, -, marked, clear, held, stopped, allowed⟩ := new
  constructor <;> simp only [View.change, View.blocked, e] at *
  all_goals assumption

/-- R10: a cut. -/
theorem View.Safe.cut {v : View} (h : v.Safe) : (v.change Model.cut).Safe := by
  refine View.safe_change h.limit ?_
  obtain ⟨agrees, -, marked, clear, held, stopped, allowed⟩ := h
  obtain ⟨x, mark, t, occ, stop, g⟩ := v
  cases hs : x.state
  case holding =>
    cases hz : x.holdZone <;>
      constructor <;> simp_all [Model.cut, Model.Agrees, View.blocked, Model.dropCue, ModelState.stoppable]
  all_goals
    constructor <;> simp_all [Model.cut, Model.Agrees, View.blocked, Model.dropCue, ModelState.stoppable]

/-- R13: a pause. -/
theorem View.Safe.pause {v : View} (h : v.Safe) : (v.change Model.pause).Safe := by
  refine View.safe_change h.limit ?_
  obtain ⟨agrees, -, marked, clear, held, stopped, allowed⟩ := h
  obtain ⟨x, mark, t, occ, stop, g⟩ := v
  cases hs : x.state
  case holding =>
    simp only [Model.Agrees, hs] at agrees
    obtain ⟨window, ⟨target, owner, place, cause⟩ | ⟨target, owner, place, zone, pause⟩⟩ := agrees
    · cases hp : x.pauseTimer <;>
        constructor <;> simp_all [Model.pause, Model.Agrees, View.blocked, ModelState.stoppable]
    · constructor <;> simp_all [Model.pause, Model.Agrees, View.blocked, ModelState.stoppable]
  all_goals constructor <;> simp_all [Model.pause, Model.Agrees, View.blocked, ModelState.stoppable]

/-- R13: a resume edge. -/
theorem View.Safe.resumeEdge {v : View} (h : v.Safe) : (v.change Model.resumeEdge).Safe := by
  refine View.safe_change h.limit ?_
  by_cases paused : v.model.state = .holding ∧ v.model.holdPause = true
  · obtain ⟨agrees, -, marked, clear, held, stopped, allowed⟩ := h
    obtain ⟨x, mark, t, occ, stop, g⟩ := v
    obtain ⟨hs, hp⟩ := paused
    cases hz : x.holdZone <;>
      constructor <;> simp_all [Model.resumeEdge, Model.Agrees, View.blocked, ModelState.stoppable]
  · rw [Model.resumeEdge, if_neg paused]
    exact { h with limit := fun e => nomatch e }

/-- R13: the end of a pause window. -/
theorem View.Safe.endPause {v : View} (h : v.Safe) (paused : v.model.pauseTimer.isSome = true) :
    (v.change fun x => ({ x with holdPause := false, pauseTimer := none } : Model).cut).Safe := by
  refine View.safe_change h.limit ?_
  obtain ⟨agrees, -, marked, clear, held, stopped, allowed⟩ := h
  obtain ⟨x, mark, t, occ, stop, g⟩ := v
  cases hs : x.state
  case holding =>
    cases hz : x.holdZone <;>
      constructor <;> simp_all [Model.cut, Model.Agrees, View.blocked, Model.dropCue, ModelState.stoppable]
  all_goals simp [Model.Agrees, hs] at agrees; simp_all

/-- R15: a stop leaves no model that the STOP key would have to stop. -/
theorem View.Safe.stop {v : View} (h : { v with stop := false }.Safe) : (v.change Model.stop).Safe := by
  refine View.safe_change h.limit ?_
  obtain ⟨agrees, -, marked, clear, held, -, allowed⟩ := h
  obtain ⟨x, mark, t, occ, stop, g⟩ := v
  cases hs : x.state <;> constructor <;>
    simp_all [Model.stop, Model.Agrees, View.blocked, Model.dropCue, Model.dropHold, ModelState.stoppable]

/-- R17: a trip. -/
theorem View.Safe.trip {v : View} (h : v.Safe) : (v.change Model.trip).Safe := by
  refine View.safe_change h.limit ?_
  obtain ⟨agrees, -, marked, clear, held, stopped, allowed⟩ := h
  obtain ⟨x, mark, t, occ, stop, g⟩ := v
  cases hs : x.state <;> constructor <;>
    simp_all [Model.trip, Model.Agrees, View.blocked, Model.dropCue, Model.dropHold, ModelState.stoppable]

/-- A model that neither plays a cue nor is held, in its scene: what a change into such a state has to give. -/
theorem View.safe_at_rest {v : View} (moving : v.model.state ≠ .running ∧ v.model.state ≠ .holding)
    (owner : v.model.owner = none) (position : v.model.position = none) (zone : v.model.holdZone = false)
    (pause : v.model.holdPause = false) (target : v.model.target = none) (timer : v.model.pauseTimer = none)
    (limit : v.holdTimer = none) (marked : v.model.state ≠ .disabled → v.mark = v.blocked)
    (clear : v.model.state = .returning → v.blocked = false)
    (stopped : v.stop = true → v.model.state.stoppable = false) : v.Safe where
  agrees := by
    obtain ⟨running, holding⟩ := moving
    unfold Model.Agrees
    cases hs : v.model.state <;> simp_all
  limit h := by simp [limit] at h
  marked := marked
  clear h := clear (h.resolve_left moving.1)
  held h := absurd h moving.2
  stopped := stopped
  allowed o h := by simp [owner] at h

/-- A model that neither plays a cue nor is held has no owner, no place, no hold cause, no target and no timer. -/
theorem View.Safe.at_rest {v : View} (h : v.Safe) (running : v.model.state ≠ .running)
    (holding : v.model.state ≠ .holding) : v.model.owner = none ∧ v.model.position = none ∧
    v.model.holdZone = false ∧ v.model.holdPause = false ∧ v.model.target = none ∧ v.model.pauseTimer = none ∧
    v.holdTimer = none := by
  have agrees := h.agrees
  have limit := h.limit
  unfold Model.Agrees at agrees
  cases hs : v.model.state <;> simp_all [Model.zoneHeld]

/-- A change into a state in which a model neither plays a cue nor is held. -/
theorem View.safe_change_at_rest {v : View} {f : Model → Model}
    (limit : v.holdTimer.isSome = true → v.model.zoneHeld = true)
    (moving : (f v.model).state ≠ .running ∧ (f v.model).state ≠ .holding)
    (owner : (f v.model).owner = none) (position : (f v.model).position = none) (zone : (f v.model).holdZone = false)
    (pause : (f v.model).holdPause = false) (target : (f v.model).target = none)
    (timer : (f v.model).pauseTimer = none)
    (marked : (f v.model).state ≠ .disabled → v.mark = v.occupied (f v.model).config.zoneMask)
    (clear : (f v.model).state = .returning → v.occupied (f v.model).config.zoneMask = false)
    (stopped : v.stop = true → (f v.model).state.stoppable = false) : (v.change f).Safe :=
  View.safe_change limit
    (View.safe_at_rest moving owner position zone pause target timer rfl marked clear stopped)

/-- R8: a model that was in motion comes to rest in IDLE. -/
theorem View.Safe.rest {v : View} (h : v.Safe) (moving : v.model.state = .running ∨ v.model.state = .returning) :
    (v.change fun x => { x.dropCue with state := .idle }).Safe := by
  refine View.safe_change h.limit ?_
  obtain ⟨agrees, -, marked, clear, held, stopped, allowed⟩ := h
  obtain ⟨x, mark, t, occ, stop, g⟩ := v
  rcases moving with hs | hs <;> constructor <;>
    simp_all [Model.Agrees, View.blocked, Model.dropCue, ModelState.stoppable]

/-- R7: a cue ends and the model comes home. -/
theorem View.Safe.comeHome {v : View} (h : v.Safe) (running : v.model.state = .running) :
    (v.change fun x => { x.dropCue with state := .returning }).Safe := by
  refine View.safe_change h.limit ?_
  obtain ⟨agrees, -, marked, clear, held, stopped, allowed⟩ := h
  obtain ⟨x, mark, t, occ, stop, g⟩ := v
  constructor <;> simp_all [Model.Agrees, View.blocked, Model.dropCue, ModelState.stoppable]

/-- R6, R33: what a start does to a model. -/
def Model.started (x : Model) (pos : CuePosition) (requester : Owner) (paused : Bool) : Model :=
  let x := { x with owner := some requester, position := some pos }
  if paused then
    { x with state := .holding, holdPause := true, target := some .cue,
             pauseTimer := some (x.config.pauseWindow * 1000) }
  else { x with state := .running }

/-- R5, R6: a start on a free model for an owner that the mode allows. -/
theorem View.Safe.start {v : View} (h : v.Safe) (idle : v.model.state = .idle) (free : v.blocked = false)
    (pos : CuePosition) (requester : Owner) (paused : Bool) (allows : modeAllows v.gallery requester = true) :
    (v.change fun x => x.started pos requester paused).Safe := by
  refine View.safe_change h.limit ?_
  obtain ⟨agrees, -, marked, clear, held, stopped, allowed⟩ := h
  obtain ⟨x, mark, t, occ, stop, g⟩ := v
  have owners : g = .opened ∨ g = .service ∧ requester = .control := by
    cases g <;> cases requester <;> simp_all [modeAllows]
  cases paused <;> constructor <;>
    simp_all [Model.started, Model.Agrees, View.blocked, ModelState.stoppable]

/-- R14: a model that is neither playing nor held is seated and takes the reseat choice. -/
theorem View.Safe.seatHome {v : View} (h : v.Safe) (held : v.model.state ≠ .running ∧ v.model.state ≠ .holding)
    (enabled : v.model.state ≠ .disabled) (released : v.stop = false) (p : Int) (fedBack : Option Int) :
    (v.change fun x => (({ x with fedBack } : Model).seat p).goHome v.blocked).Safe := by
  obtain ⟨owner, position, -⟩ := h.at_rest held.1 held.2
  have marked := h.marked enabled
  refine View.safe_change h.limit ?_
  obtain ⟨x, mark, t, occ, stop, g⟩ := v
  cases ho : View.blocked ⟨x, mark, t, occ, stop, g⟩ <;> constructor <;>
    simp_all [Model.seat, Model.goHome, Model.Agrees, View.blocked, Model.dropHold]

/-! ### Zones: a model whose mark is to be worked out again -/

/-- A model that is safe if the scene is as its mark says: a zone or its mask has changed and the mark has not. -/
def View.SafeByMark (v : View) : Prop := { v with occupied := fun _ => v.mark }.Safe

/-- A model stays safe by its mark when the zones change. -/
theorem View.Safe.byMark {v : View} (h : v.Safe) (occupied : BitVec 8 → Bool) :
    { v with occupied }.SafeByMark where
  agrees := h.agrees
  limit := h.limit
  marked _ := rfl
  clear moving := by
    have enabled : v.model.state ≠ .disabled := by rcases moving with e | e <;> simp_all
    exact (h.marked enabled).trans (h.clear moving)
  held holding := by
    have enabled : v.model.state ≠ .disabled := by simp_all
    exact (h.held holding).trans (h.marked enabled).symm
  stopped := h.stopped
  allowed := h.allowed

/-- A mark that is true again, or that nothing reads, makes a model safe. -/
theorem View.SafeByMark.safe {v : View} (h : v.SafeByMark) (marked : v.model.state ≠ .disabled → v.mark = v.blocked) :
    v.Safe where
  agrees := h.agrees
  limit := h.limit
  marked := marked
  clear moving := by
    have enabled : v.model.state ≠ .disabled := by rcases moving with e | e <;> simp_all
    exact (marked enabled).symm.trans (h.clear moving)
  held holding := by
    have enabled : v.model.state ≠ .disabled := by simp_all
    exact (h.held holding).trans (marked enabled)
  stopped := h.stopped
  allowed := h.allowed

/-- R11: a zone of the mask became occupied. -/
theorem View.SafeByMark.zoneHold {v : View} (h : v.SafeByMark) (blocked : v.blocked = true) :
    ({ v with mark := true }.change Model.zoneHold).Safe := by
  refine View.safe_change h.limit ?_
  obtain ⟨agrees, -, marked, clear, held, stopped, allowed⟩ := h
  obtain ⟨x, mark, t, occ, stop, g⟩ := v
  cases hs : x.state
  case holding =>
    simp only [Model.Agrees, hs] at agrees
    obtain ⟨window, ⟨target, owner, place, cause⟩ | ⟨target, owner, place, zone, pause⟩⟩ := agrees <;>
      constructor <;> simp_all [Model.zoneHold, Model.Agrees, View.blocked, ModelState.stoppable]
  all_goals constructor <;> simp_all [Model.zoneHold, Model.Agrees, View.blocked, ModelState.stoppable]

/-- R12: no zone of the mask is occupied any longer. -/
theorem View.SafeByMark.zoneRelease {v : View} (h : v.SafeByMark) (blocked : v.blocked = false) :
    ({ v with mark := false }.change (Model.zoneRelease v.gallery)).Safe := by
  refine View.safe_change h.limit ?_
  obtain ⟨agrees, -, marked, clear, held, stopped, allowed⟩ := h
  obtain ⟨x, mark, t, occ, stop, g⟩ := v
  cases hs : x.state
  case holding =>
    simp only [Model.Agrees, hs] at agrees
    obtain ⟨window, ⟨target, owner, place, cause⟩ | ⟨target, owner, place, zone, pause⟩⟩ := agrees
    · cases hp : x.holdPause <;> cases ha : x.owner.any (modeAllows g) <;>
        constructor <;> simp_all [Model.zoneRelease, Model.cut, Model.dropCue, Model.Agrees, View.blocked,
          ModelState.stoppable]
    · constructor <;> simp_all [Model.zoneRelease, Model.Agrees, View.blocked, ModelState.stoppable]
  all_goals constructor <;> simp_all [Model.zoneRelease, Model.Agrees, View.blocked, ModelState.stoppable]

end Sys2Proof.Machine

/-! ## Operations that no view sees -/

namespace Sys2Proof.Machine

@[simp] theorem State.onRelay_view (s : State) (f : LineRelay → LineRelay) : (s.onRelay f).view = s.view := rfl
@[simp] theorem State.onPress_view (s : State) (f : PressArbiter → PressArbiter) : (s.onPress f).view = s.view := rfl
@[simp] theorem State.onAlert_view (s : State) (f : AlertUnit → AlertUnit) : (s.onAlert f).view = s.view := rfl
@[simp] theorem State.onPins_view (s : State) (f : Pins → Pins) : (s.onPins f).view = s.view := rfl
@[simp] theorem State.withPending_view (s : State) (q : List Instr) : (s.withPending q).view = s.view := rfl
@[simp] theorem State.modNode_view (s : State) (n : NodeId) (f : NodeEntry → NodeEntry) :
    (s.modNode n f).view = s.view := rfl
@[simp] theorem State.modEntry_view (s : State) (i : EntryIx) (f : Button → Button) :
    (s.modEntry i f).view = s.view := rfl
@[simp] theorem State.setWaits_view (s : State) (m : ModelId) (l : List Request) : (s.setWaits m l).view = s.view := rfl
@[simp] theorem State.onTallies_view (s : State) (f : Tallies → Tallies) : (s.onTallies f).view = s.view := rfl
@[simp] theorem State.modMarks_view (s : State) (id : FaultId) (f : Marks → Marks) :
    (s.modMarks id f).view = s.view := rfl
@[simp] theorem State.onBayCounters_view (s : State) (f : BayCounters → BayCounters) :
    (s.onBayCounters f).view = s.view := rfl
@[simp] theorem State.onSpineCounters_view (s : State) (f : SpineCounters → SpineCounters) :
    (s.onSpineCounters f).view = s.view := rfl

/-- Two states whose models, zones, keys and mode agree give the same views. -/
theorem State.view_congr {s t : State} (models : t.motion.models = s.motion.models) (watch : t.sup.watch = s.sup.watch)
    (zones : t.sup.zones = s.sup.zones) (stop : t.sup.stopAsserted = s.sup.stopAsserted)
    (mode : t.gallery = s.gallery) : t.view = s.view := by
  funext m
  simp only [State.view, State.model, State.watch, models, watch, stop, mode, View.mk.injEq, true_and, and_true]
  funext mask
  simp only [State.maskOccupied, State.zoneOccupied, zones]

/-! ### Alerts -/

@[simp] theorem deriveShowing_view (s : State) : (deriveShowing s).view = s.view := rfl

@[simp] theorem raise_view (a : About) (s : State) : (raise a s).view = s.view := by rw [raise_eq]; rfl

@[simp] theorem clearNotice_view (id : FaultId) (s : State) : (clearNotice id s).view = s.view := rfl

@[simp] theorem ackFromFloor_view (s : State) : (ackFromFloor s).view = s.view := rfl

@[simp] theorem escalate_view (n : Nat) (s : State) : (escalate n s).view = s.view := rfl

@[simp] theorem alertLeft_view (s : State) : (alertLeft s).view = s.view := rfl

@[simp] theorem ackArgs_view (payload : List Byte) (s : State) : (ackArgs payload s).1.view = s.view := by
  unfold ackArgs ackNumber
  (repeat' split) <;> rfl

/-! ### The doze timer, wait lists, the schedule list and notices -/

@[simp] theorem quietTest_view (b : Bool) (s : State) : (quietTest b s).view = s.view := by
  apply State.view_congr <;> simp

@[simp] theorem flushList_view (m : ModelId) (s : State) : (flushList m s).view = s.view := by simp [flushList]

@[simp] theorem flushAll_view (s : State) : (flushAll s).view = s.view :=
  forEach_keeps State.view _ (fun m t => flushList_view m t) _ _

@[simp] theorem trimList_view (m : ModelId) (d : Nat) (s : State) : (trimList m d s).view = s.view := by simp [trimList]

@[simp] theorem flushKey_view (k : Key) (m : ModelId) (s : State) : (flushKey k m s).view = s.view := by
  unfold flushKey; split <;> simp

@[simp] theorem quench_view (id : FaultId) (s : State) : (quench id s).view = s.view := rfl

@[simp] theorem quenchModel_view (m : ModelId) (s : State) : (quenchModel m s).view = s.view :=
  forEach_keeps State.view _ (fun k t => quench_view (.model k m) t) _ _

/-- An update of the Motion Sequencer that leaves the models alone. -/
theorem State.onMotion_view {s : State} {f : MotionSequencer → MotionSequencer}
    (models : (f s.motion).models = s.motion.models) : (s.onMotion f).view = s.view :=
  State.view_congr models rfl rfl rfl rfl

@[simp] theorem removeEntry_view (m : ModelId) (s : State) : (removeEntry m s).view = s.view := by
  simp [removeEntry, State.onMotion_view]

@[simp] theorem sendFreeNotice_view (m : ModelId) (s : State) : (sendFreeNotice m s).view = s.view :=
  State.onMotion_view rfl

@[simp] theorem stopWakeTimer_view (s : State) : (stopWakeTimer s).view = s.view := rfl

@[simp] theorem lateExpires_view (m : ModelId) (s : State) : (lateExpires m s).view = s.view := by
  unfold lateExpires; split <;> simp

@[simp] theorem missAtOnce_view (e : ScheduleEntry) (s : State) : (missAtOnce e s).view = s.view := by
  unfold missAtOnce; split <;> simp

/-! ### Presses and lamps -/

@[simp] theorem markDirty_view (n : NodeId) (s : State) : (markDirty n s).view = s.view := by
  unfold markDirty; split <;> rfl

@[simp] theorem setLamp_view (k : Key) (l : Lamp) (s : State) : (setLamp k l s).view = s.view := by
  unfold setLamp; split <;> simp

/-- A state that differs in what a settling may change only gives the same views. -/
theorem State.view_of_steady {s t : State} (h : t.steady = s.steady) : t.view = s.view := by
  have e : t.steady.view = s.steady.view := by rw [h]
  exact e

@[simp] theorem deriveLamps_view (s : State) : (deriveLamps s).view = s.view :=
  State.view_of_steady (deriveLamps_steady s)

@[simp] theorem takeUp_view (s : State) : (takeUp s).view = s.view := by
  unfold takeUp
  split
  · exact State.view_of_steady ((takeSpine_steady _).trans (takeBay_steady s))
  · rfl

@[simp] theorem settle_view (s : State) : (settle s).view = s.view := by simp [settle]

@[simp] theorem beginLockout_view (i : EntryIx) (s : State) : (beginLockout i s).view = s.view := rfl

@[simp] theorem beginLockoutOf_view (k : Key) (s : State) : (beginLockoutOf k s).view = s.view := by
  unfold beginLockoutOf; split <;> simp

@[simp] theorem lockoutEnds_view (k : Key) (s : State) : (lockoutEnds k s).view = s.view := by
  unfold lockoutEnds; split <;> simp

@[simp] theorem stuckBookkeeping_view (i : EntryIx) (e : Edge) (s : State) :
    (stuckBookkeeping i e s).view = s.view := by
  unfold stuckBookkeeping; split <;> rfl

@[simp] theorem joinList_view (b : Button) (s : State) : (joinList b s).view = s.view := by
  unfold joinList
  dsimp only
  (repeat' split) <;> simp

@[simp] theorem requestExpires_view (m : ModelId) (k : Key) (s : State) : (requestExpires m k s).view = s.view := by
  unfold requestExpires; split <;> simp

@[simp] theorem recordButton_view (k : Key) (d : Bool) (s : State) : (recordButton k d s).view = s.view := rfl

@[simp] theorem refreshEnds_view (n : NodeId) (s : State) : (refreshEnds n s).view = s.view := by
  unfold refreshEnds; split <;> simp

/-! ### The relay -/

@[simp] theorem forwardDown_view (f : Frame) (s : State) : (forwardDown f s).view = s.view := by
  unfold forwardDown; split <;> rfl

@[simp] theorem forwardUp_view (f : Frame) (s : State) : (forwardUp f s).view = s.view := by
  unfold forwardUp; split <;> rfl

@[simp] theorem fillSlot_view (outs : List AxisOut) (n : NodeId) (s : State) : (fillSlot outs n s).view = s.view := by
  unfold fillSlot; split <;> rfl

@[simp] theorem pushReply_view (c : Sender) (a : Answer) (r : Bool) (s : State) :
    (pushReply c a r s).view = s.view := rfl

@[simp] theorem overrun_view (s : State) : (overrun s).view = s.view := rfl

@[simp] theorem clearCounts_view (s : State) : (clearCounts s).view = s.view := rfl

@[simp] theorem ringTimerEnds_view (s : State) : (ringTimerEnds s).view = s.view := rfl

@[simp] theorem bayLeft_view (s : State) : (bayLeft s).view = s.view := by
  unfold bayLeft
  dsimp only
  (repeat' split) <;> rfl

@[simp] theorem setReceiver_view (p : Port) (r : Receiver) (s : State) : (setReceiver p r s).view = s.view := by
  cases p <;> rfl

@[simp] theorem countGood_view (p : Port) (s : State) : (countGood p s).view = s.view := by cases p <;> rfl

@[simp] theorem lineIdle_view (p : Port) (s : State) : (lineIdle p s).view = s.view := by
  unfold lineIdle; split <;> simp

@[simp] theorem markHello_view (n : NodeId) (b : Byte) (s : State) : (markHello n b s).view = s.view := by
  unfold markHello; split <;> simp

@[simp] theorem mirrorUp_view (n : NodeId) (f : Frame) (s : State) : (mirrorUp n f s).view = s.view := by
  unfold mirrorUp; split <;> simp

@[simp] theorem misroutedBay_view (s : State) : (misroutedBay s).view = s.view := rfl

@[simp] theorem misroutedSpine_view (s : State) : (misroutedSpine s).view = s.view := rfl

end Sys2Proof.Machine

/-! ## Operations on one model

`State.Alters m` says that an operation leaves the views of all models but `m` alone, and the scene; `State.Keeps m`
says that it also keeps `m` safe. -/

namespace Sys2Proof.Machine

/-- Only the view of `m` differs, and its scene does not. -/
structure State.Alters (m : ModelId) (s t : State) : Prop where
  others : ∀ k, k ≠ m → t.view k = s.view k
  occupied : t.maskOccupied = s.maskOccupied
  stop : t.sup.stopAsserted = s.sup.stopAsserted
  gallery : t.gallery = s.gallery

/-- Only the view of `m` differs, and `m` stays safe. -/
structure State.Keeps (m : ModelId) (s t : State) : Prop extends State.Alters m s t where
  safe : (s.view m).Safe → (t.view m).Safe

theorem State.Alters.trans {m : ModelId} {s t u : State} (h : State.Alters m s t) (g : State.Alters m t u) :
    State.Alters m s u :=
  ⟨fun k e => (g.others k e).trans (h.others k e), g.occupied.trans h.occupied, g.stop.trans h.stop,
    g.gallery.trans h.gallery⟩

theorem State.Keeps.trans {m : ModelId} {s t u : State} (h : State.Keeps m s t) (g : State.Keeps m t u) :
    State.Keeps m s u :=
  ⟨h.toAlters.trans g.toAlters, g.safe ∘ h.safe⟩

theorem State.Alters.of_view {m : ModelId} {s t : State} (h : t.view = s.view) : State.Alters m s t :=
  ⟨fun k _ => congrFun h k, congrArg View.occupied (congrFun h m), congrArg View.stop (congrFun h m),
    congrArg View.gallery (congrFun h m)⟩

theorem State.Keeps.of_view {m : ModelId} {s t : State} (h : t.view = s.view) : State.Keeps m s t :=
  ⟨.of_view h, fun safe => by rw [h]; exact safe⟩

theorem State.Safe.of_keeps {m : ModelId} {s t : State} (h : s.Safe) (g : State.Keeps m s t) : t.Safe := fun k => by
  by_cases e : k = m
  · rw [e]; exact g.safe (h m)
  · rw [g.others k e]; exact h k

theorem State.Safe.of_view {s t : State} (h : s.Safe) (g : t.view = s.view) : t.Safe := fun k => by rw [g]; exact h k

/-- The view of one model after a run of an operation that alters, for each model, that model only: the operation met
the model's view once, as it was. -/
theorem forEach_view {op : ModelId → State → State} (alters : ∀ m t, State.Alters m t (op m t)) (k : ModelId)
    (ms : List ModelId) (apart : ms.Nodup) (s : State) :
    (k ∉ ms → (forEach ms op s).view k = s.view k) ∧
    (k ∈ ms → ∃ t, t.view k = s.view k ∧ (forEach ms op s).view k = (op k t).view k) := by
  induction ms generalizing s with
  | nil => simp
  | cons m rest ih =>
    obtain ⟨first, apart⟩ := List.nodup_cons.mp apart
    obtain ⟨out, member⟩ := ih apart (op m s)
    by_cases e : k = m
    · subst e
      exact ⟨fun h => absurd List.mem_cons_self h, fun _ => ⟨s, rfl, out first⟩⟩
    · have kept : (op m s).view k = s.view k := (alters m s).others k e
      refine ⟨fun h => ?_, fun h => ?_⟩
      · rw [forEach_cons, out fun i => h (List.mem_cons_of_mem _ i), kept]
      · obtain ⟨t, same, after⟩ := member ((List.mem_cons.mp h).resolve_left e)
        exact ⟨t, same.trans kept, after⟩

theorem allModels_nodup : allModels.Nodup := List.nodup_finRange 12

theorem mem_allModels (m : ModelId) : m ∈ allModels := List.mem_finRange m

/-- A run over all models makes every model safe where its operation makes safe what it meets. -/
theorem forEach_safe {op : ModelId → State → State} (alters : ∀ m t, State.Alters m t (op m t)) {Ready : View → Prop}
    (safe : ∀ m t, Ready (t.view m) → ((op m t).view m).Safe) {s : State} (ready : ∀ m, Ready (s.view m)) :
    (forEach allModels op s).Safe := fun k => by
  obtain ⟨t, same, after⟩ := (forEach_view alters k allModels allModels_nodup s).2 (mem_allModels k)
  rw [after]
  exact safe k t (same ▸ ready k)

/-! ### Changes of the model's record -/

theorem changeModel_alters (m : ModelId) (f : Model → Model) (s : State) : State.Alters m s (changeModel m f s) where
  others k e := by simp [changeModel_view, e]
  occupied := congrArg View.occupied ((changeModel_view m m f s).trans (if_pos rfl))
  stop := congrArg View.stop ((changeModel_view m m f s).trans (if_pos rfl))
  gallery := changeModel_gallery m f s

theorem changeModel_view_self (m : ModelId) (f : Model → Model) (s : State) :
    (changeModel m f s).view m = (s.view m).change f := by simp [changeModel_view]

theorem changeModel_keeps {m : ModelId} {f : Model → Model} {s : State}
    (safe : (s.view m).Safe → ((s.view m).change f).Safe) : State.Keeps m s (changeModel m f s) :=
  ⟨changeModel_alters m f s, fun h => by rw [changeModel_view_self]; exact safe h⟩

theorem modModel_view (s : State) (m k : ModelId) (f : Model → Model) :
    (s.modModel m f).view k = if k = m then { s.view m with model := f (s.model m) } else s.view k := by
  have zones : (s.modModel m f).maskOccupied = s.maskOccupied := rfl
  have watch : (s.modModel m f).watch = s.watch := rfl
  simp only [State.view, State.modModel_model, zones, watch]
  split <;> simp_all <;> rfl

theorem modModel_alters (s : State) (m : ModelId) (f : Model → Model) : State.Alters m s (s.modModel m f) :=
  ⟨fun k e => by simp [modModel_view, e], rfl, rfl, rfl⟩

theorem modWatch_view (s : State) (m k : ModelId) (f : Watch → Watch) :
    (s.modWatch m f).view k = if k = m then { s.view m with
      mark := (f (s.watch m)).maskOccupied, holdTimer := (f (s.watch m)).holdTimer } else s.view k := by
  have zones : (s.modWatch m f).maskOccupied = s.maskOccupied := rfl
  have models : (s.modWatch m f).model = s.model := rfl
  simp only [State.view, State.modWatch_watch, zones, models]
  split <;> simp_all <;> exact ⟨rfl, rfl⟩

theorem modWatch_alters (s : State) (m : ModelId) (f : Watch → Watch) : State.Alters m s (s.modWatch m f) :=
  ⟨fun k e => by simp [modWatch_view, e], rfl, rfl, rfl⟩

/-- The fields of a model that its safety reads. -/
def Model.posture (x : Model) : ModelState × Bool × Bool × Option Target × Option Owner × Bool × Bool × BitVec 8 :=
  (x.state, x.holdZone, x.holdPause, x.target, x.owner, x.position.isSome, x.pauseTimer.isSome, x.config.zoneMask)

/-- Safety reads no other field of a model, and of the hold-limit timer only whether it runs. -/
theorem View.Safe.of_posture {v : View} (h : v.Safe) {x : Model} (same : x.posture = v.model.posture)
    {t : Timer} (timer : t.isSome = true → v.holdTimer.isSome = true) : { v with model := x, holdTimer := t }.Safe := by
  simp only [Model.posture, Prod.mk.injEq] at same
  obtain ⟨state, zone, pause, target, owner, place, window, mask⟩ := same
  obtain ⟨agrees, limit, marked, clear, held, stopped, allowed⟩ := h
  have none_iff {α : Type} (o p : Option α) (e : o.isSome = p.isSome) : o = none ↔ p = none := by
    cases o <;> cases p <;> simp_all
  constructor <;>
    simp_all [View.blocked, Model.zoneHeld, Model.Agrees, none_iff _ _ place, none_iff _ _ window]

/-- An update of a model that its safety does not read. -/
theorem modModel_keeps {s : State} {m : ModelId} {f : Model → Model}
    (same : (f (s.model m)).posture = (s.model m).posture) : State.Keeps m s (s.modModel m f) :=
  ⟨modModel_alters s m f, fun h => by rw [modModel_view, if_pos rfl]; exact h.of_posture same id⟩

/-- An update of a model's watch record that keeps its mark and starts no hold-limit timer. -/
theorem modWatch_keeps {s : State} {m : ModelId} {f : Watch → Watch}
    (mark : (f (s.watch m)).maskOccupied = (s.watch m).maskOccupied)
    (timer : (f (s.watch m)).holdTimer.isSome = true → (s.watch m).holdTimer.isSome = true) :
    State.Keeps m s (s.modWatch m f) :=
  ⟨modWatch_alters s m f, fun h => by rw [modWatch_view, if_pos rfl, mark]; exact h.of_posture rfl timer⟩

end Sys2Proof.Machine

/-! ## What keeps motion safe: the operations on one model -/

namespace Sys2Proof.Machine

/-! ### Faults -/

theorem cutModel_keeps (m : ModelId) (s : State) : State.Keeps m s (cutModel m s) := changeModel_keeps .cut

theorem pauseModel_keeps (m : ModelId) (s : State) : State.Keeps m s (pauseModel m s) := changeModel_keeps .pause

theorem resumeModel_keeps (m : ModelId) (s : State) : State.Keeps m s (resumeModel m s) :=
  changeModel_keeps .resumeEdge

theorem pauseWindowEnds_keeps (m : ModelId) (s : State) : State.Keeps m s (pauseWindowEnds m s) := by
  unfold pauseWindowEnds
  split
  · rename_i paused; exact changeModel_keeps fun h => h.endPause paused
  · exact .of_view rfl

theorem tripModel_keeps (m : ModelId) (s : State) : State.Keeps m s (tripModel m s) := changeModel_keeps .trip

/-- R114: a latch touches no model but the one that it trips. -/
theorem latchAndRaise_keeps {id : FaultId} {m : ModelId} (h : ∀ k, id.tripModel = some k → k = m) (s : State) :
    State.Keeps m s (latchAndRaise id s) := by
  unfold latchAndRaise
  dsimp only
  refine .trans (t := s.modMarks id fun k => { k with latched := true }) (.of_view (by simp))
    (.trans ?_ (.of_view (raise_view _ _)))
  cases trip : id.tripModel with
  | none => exact .of_view rfl
  | some k =>
    obtain rfl := h k trip
    dsimp only
    split
    · exact tripModel_keeps k _
    · exact .of_view rfl

theorem activate_keeps {id : FaultId} {m : ModelId} (h : ∀ k, id.tripModel = some k → k = m) (s : State) :
    State.Keeps m s (activate id s) := by
  unfold activate
  dsimp only
  split
  · exact .of_view (by simp)
  · exact .trans (.of_view (by simp)) (latchAndRaise_keeps h _)

theorem report_keeps {id : FaultId} {m : ModelId} (h : ∀ k, id.tripModel = some k → k = m) (v : Bool) (s : State) :
    State.Keeps m s (report id v s) := by
  unfold report
  dsimp only
  split
  · split
    · exact .of_view (by simp)
    · exact .trans (.of_view (by simp)) (activate_keeps h _)
  · exact .of_view (by simp)

theorem tripModel_model (kind : ModelKind) (m k : ModelId) (h : (FaultId.model kind m).tripModel = some k) : k = m := by
  simp only [FaultId.tripModel] at h
  split at h <;> simp_all

theorem reportModel_keeps (kind : ModelKind) (m : ModelId) (v : Bool) (s : State) :
    State.Keeps m s (report (.model kind m) v s) := report_keeps (tripModel_model kind m) v s

theorem driveReport_keeps (m : ModelId) (s : State) : State.Keeps m s (driveReport m s) :=
  latchAndRaise_keeps (tripModel_model .driveReport m) s

theorem report_safe (id : FaultId) (v : Bool) {s : State} (h : s.Safe) : (report id v s).Safe := by
  cases trip : id.tripModel with
  | none => exact h.of_keeps (report_keeps (m := 0) (by simp [trip]) v s)
  | some k => exact h.of_keeps (report_keeps (m := k) (by simp [trip]) v s)

/-- A report about a node, a button or the bay touches no view. -/
theorem report_view {id : FaultId} (h : id.tripModel = none) (v : Bool) (s : State) :
    (report id v s).view = s.view := by
  have others : ∀ m k, k ≠ m → (report id v s).view k = s.view k := fun m =>
    (report_keeps (m := m) (by simp [h]) v s).others
  funext k
  by_cases e : k = 0
  · exact others 1 k (by rw [e]; decide)
  · exact others 0 k e

/-! ### Reseats and releases -/

/-- R14: a model that is neither playing nor held is reseated, the STOP key being released. -/
theorem reseat_keeps {m : ModelId} {s : State} (held : (s.model m).state = .stopped ∨ (s.model m).state = .faulted)
    (released : s.sup.stopAsserted = false) : State.Keeps m s (reseat m s) := by
  have still : (s.model m).state ≠ .running ∧ (s.model m).state ≠ .holding ∧ (s.model m).state ≠ .disabled := by
    rcases held with e | e <;> simp [e]
  obtain ⟨running, holding, enabled⟩ := still
  unfold reseat
  split
  · refine changeModel_keeps fun h => ?_
    obtain ⟨owner, position, zone, pause, target, timer, -⟩ := h.at_rest running holding
    exact View.safe_change_at_rest h.limit ⟨nofun, nofun⟩ owner position zone pause target timer
      (fun _ => h.marked enabled) nofun fun _ => rfl
  · rename_i p fedBack
    refine .trans (changeModel_keeps fun h => ?_) (.of_view (quench_view _ _))
    have safe := h.seatHome ⟨running, holding⟩ enabled released p (s.model m).fedBack
    exact safe

theorem releaseTrip_keeps (m : ModelId) (s : State) : State.Keeps m s (releaseTrip m s) := by
  unfold releaseTrip
  split
  · rename_i faulted
    split
    · refine changeModel_keeps fun h => ?_
      obtain ⟨owner, position, zone, pause, target, timer, -⟩ :=
        h.at_rest (v := s.view m) (by simp [State.view, faulted]) (by simp [State.view, faulted])
      exact View.safe_change_at_rest h.limit ⟨nofun, nofun⟩ owner position zone pause target timer
        (fun _ => h.marked (by simp [State.view, faulted])) nofun fun _ => rfl
    · rename_i released; exact reseat_keeps (.inr faulted) (by simpa using released)
  · exact .of_view rfl

theorem resumeAll_safe {s : State} (released : s.sup.stopAsserted = false) (h : s.Safe) : (resumeAll s).Safe := by
  have run := forEach_invariant (Good := fun t => t.sup.stopAsserted = false ∧ t.Safe)
    (op := fun m t => if (t.model m).state = .stopped then reseat m t else t) (fun m t ⟨off, safe⟩ => by
      split
      · rename_i stopped
        have keeps := reseat_keeps (.inl stopped) off
        exact ⟨keeps.stop.trans off, safe.of_keeps keeps⟩
      · exact ⟨off, safe⟩) allModels ⟨released, h⟩
  exact run.2

/-- R20: the first feedback of an ENABLING model. -/
theorem firstFeedback_keeps {m : ModelId} {p : Int} {s : State} (enabling : (s.model m).state = .enabling) :
    State.Keeps m s (firstFeedback m p s) := by
  refine .trans (changeModel_keeps fun h => ?_) (.of_view (quench_view _ _))
  cases stop : s.sup.stopAsserted
  · have safe := h.seatHome (by simp [State.view, enabling]) (by simp [State.view, enabling]) stop p (some p)
    simp only [Bool.false_eq_true, if_false]
    exact safe
  · obtain ⟨owner, position, zone, pause, target, timer, -⟩ :=
      h.at_rest (v := s.view m) (by simp [State.view, enabling]) (by simp [State.view, enabling])
    exact View.safe_change_at_rest h.limit ⟨nofun, nofun⟩ owner position zone pause target timer
      (fun _ => h.marked (by simp [State.view, enabling])) nofun fun _ => rfl

/-! ### Starts -/

theorem verdict_ok {s : State} {m : ModelId} {c : CueId} {o : Owner} (h : s.verdict m c o = .ok) :
    (s.model m).state = .idle ∧ modeAllows s.gallery o = true ∧ s.cueValid c = true ∧
      s.maskOccupied (s.model m).config.zoneMask = false ∧ s.sup.stopAsserted = false ∧
      (s.model m).flagSeen = false := by
  unfold State.verdict at h
  cases hs : (s.model m).state <;> simp only [hs, reduceCtorEq] at h
  (repeat' split at h) <;> simp_all

theorem startRequest_keeps (m : ModelId) (c : CueId) (o : Owner) (paused : Bool) (s : State) :
    State.Keeps m s (startRequest m c o paused s).1 := by
  unfold startRequest
  split
  case h_1 ok =>
    obtain ⟨idle, allows, -, free, -⟩ := verdict_ok ok
    exact changeModel_keeps fun h => h.start idle free _ o paused allows
  case h_2 => exact driveReport_keeps m s
  all_goals exact .of_view rfl

theorem serveEntry_keeps (m : ModelId) (c : CueId) (s : State) : State.Keeps m s (serveEntry m c s).1 := by
  have keeps := startRequest_keeps m c .control false s
  unfold serveEntry
  split <;> rename_i e <;> rw [e] at keeps
  · exact keeps.trans (.of_view (removeEntry_view _ _))
  · exact keeps.trans (.of_view (by simp))
  all_goals exact keeps

theorem becomeFree_keeps (m : ModelId) (s : State) : State.Keeps m s (becomeFree m s) := by
  unfold becomeFree
  split
  · exact .of_view (sendFreeNotice_view _ _)
  · rename_i e _
    have keeps := serveEntry_keeps m e.cue s
    split <;> rename_i eq <;> rw [eq] at keeps
    · exact keeps
    · exact keeps.trans (.of_view (sendFreeNotice_view _ _))

theorem freeIfStartable_keeps (m : ModelId) (s : State) : State.Keeps m s (freeIfStartable m s) := by
  unfold freeIfStartable
  split
  · exact becomeFree_keeps m s
  · exact .of_view rfl

theorem freeAll_safe {s : State} (h : s.Safe) : (freeAll s).Safe :=
  forEach_invariant (fun m t safe => safe.of_keeps (freeIfStartable_keeps m t)) allModels h

/-! ### Zones -/

theorem releaseModel_alters (m : ModelId) (s : State) : State.Alters m s (releaseModel m s) := by
  unfold releaseModel
  split
  · exact (freeIfStartable_keeps m s).toAlters
  · exact changeModel_alters m _ s

theorem updateMark_alters (m : ModelId) (s : State) : State.Alters m s (updateMark m s) := by
  unfold updateMark
  dsimp only
  split
  · exact .of_view rfl
  · split
    · exact .of_view rfl
    · split
      · exact .trans (modWatch_alters _ _ _) (changeModel_alters m _ _)
      · exact .trans (modWatch_alters _ _ _) (releaseModel_alters m _)

/-- R92: a mark worked out again makes safe a model that was safe by its mark. -/
theorem updateMark_safe {m : ModelId} {s : State} (h : (s.view m).SafeByMark) : ((updateMark m s).view m).Safe := by
  unfold updateMark
  dsimp only
  split
  · rename_i disabled; exact h.safe fun e => absurd disabled e
  · split
    · rename_i same; exact h.safe fun _ => same.symm
    · rename_i changed
      have view (b : Bool) : (s.modWatch m fun w => { w with maskOccupied := b }).view m =
          { s.view m with mark := b } := by
        simp [modWatch_view]; rfl
      split
      · rename_i occupied
        rw [holdModel, changeModel_view_self, occupied, view]
        exact h.zoneHold occupied
      · rename_i occupied
        have free : s.maskOccupied (s.model m).config.zoneMask = false := by simpa using occupied
        rw [free]
        unfold releaseModel
        split
        · rename_i idle
          have rest : (s.model m).state = .idle := idle
          refine (freeIfStartable_keeps m _).safe ?_
          rw [view]
          obtain ⟨owner, position, zone, pause, target, timer, limit⟩ :=
            View.Safe.at_rest h (by simp [State.view, rest]) (by simp [State.view, rest])
          exact View.safe_at_rest (by simp [State.view, rest]) owner position zone pause target timer limit
            (fun _ => free.symm) (fun _ => free) h.stopped
        · rw [changeModel_view_self, view]
          exact h.zoneRelease free

/-- The mask-occupied test reads of the zones only those in the mask. -/
theorem maskOccupied_congr {s t : State} {mask : BitVec 8}
    (same : ∀ z : ZoneId, mask.getLsbD z.val = true → t.zoneOccupied z = s.zoneOccupied z) :
    t.maskOccupied mask = s.maskOccupied mask := by
  unfold State.maskOccupied
  refine List.any_congr rfl fun z => ?_
  cases covered : mask.getLsbD z.val
  · simp
  · simp [same z covered]

theorem zoneOccupied_put (s : State) (z k : ZoneId) (new : Zone) :
    (s.onSup fun q => { q with zones := tput q.zones z new }).zoneOccupied k =
      if k = z then new.state.isOccupied else s.zoneOccupied k := by
  simp only [State.zoneOccupied, State.onSup_sup, tget_tput]
  split <;> rfl

/-- R92: a zone takes a state, and the models whose mask covers it follow. -/
theorem setZone_safe (z : ZoneId) (new : Zone) {s : State} (h : s.Safe) : (setZone z new s).Safe := by
  unfold setZone
  dsimp only
  generalize ht : (s.onSup fun q => { q with zones := tput q.zones z new }) = t
  have view (m : ModelId) : t.view m = { s.view m with occupied := t.maskOccupied } := by rw [← ht]; rfl
  have zone (k : ZoneId) (e : k ≠ z) : t.zoneOccupied k = s.zoneOccupied k := by
    rw [← ht, zoneOccupied_put, if_neg e]
  have marked (m : ModelId) : (t.view m).SafeByMark := by rw [view]; exact (h m).byMark _
  split
  · rename_i same
    have all : t.maskOccupied = s.maskOccupied := funext fun mask => maskOccupied_congr fun k _ => by
      by_cases e : k = z
      · rw [← ht, zoneOccupied_put, if_pos e, same, e]
      · exact zone k e
    exact h.of_view (funext fun m => by rw [view, all]; rfl)
  · refine forEach_safe (Ready := fun v => v.SafeByMark ∧ (v.model.config.zoneMask.getLsbD z.val = false → v.Safe))
      (fun m u => ?_) (fun m u ready => ?_) fun m => ⟨marked m, fun out => ?_⟩
    · split
      · exact updateMark_alters m u
      · exact .of_view rfl
    · split
      · exact updateMark_safe ready.1
      · rename_i out; exact ready.2 (Bool.eq_false_of_not_eq_true out)
    · refine (marked m).safe fun enabled => ?_
      have enabled : (s.model m).state ≠ .disabled := by rw [view] at enabled; exact enabled
      rw [view]
      refine ((h m).marked enabled).trans (maskOccupied_congr fun k covers => (zone k ?_).symm)
      rintro rfl
      rw [view] at out
      exact absurd covers (by rw [out]; decide)

theorem reviewZone_safe (z : ZoneId) {s : State} (h : s.Safe) : (reviewZone z s).Safe := by
  unfold reviewZone
  dsimp only
  split
  · split
    · exact h
    · exact setZone_safe _ _ h
  · split
    case h_1 | h_2 => exact setZone_safe _ _ h
    case h_3 => split <;> exact setZone_safe _ _ h
    all_goals exact h

theorem reviewZones_safe {s : State} (h : s.Safe) : (reviewZones s).Safe :=
  forEach_invariant (fun z _ safe => reviewZone_safe z safe) allZones h

theorem settleEnds_safe (z : ZoneId) {s : State} (h : s.Safe) : (settleEnds z s).Safe := by
  unfold settleEnds
  split
  · exact setZone_safe _ _ h
  · exact h

/-! ### Commits and entry into IDLE -/

/-- The view after the staged fields have become the configured ones. -/
theorem applyFields_view_self (m : ModelId) (c : ModelConfig) (s : State) :
    (applyFields m c s).view m =
      { s.view m with model := { s.model m with config := c, staged := none, run := 0 } } := by
  simp [applyFields, modModel_view]

theorem applyFields_alters (m : ModelId) (c : ModelConfig) (s : State) : State.Alters m s (applyFields m c s) :=
  .trans (modModel_alters s m _) (.of_view (by simp [applyFields]; rfl))

/-- The configured fields of an IDLE model change: it is safe once its mark is worked out. -/
theorem applyFields_byMark {m : ModelId} {s : State} (c : ModelConfig) (idle : (s.model m).state = .idle)
    (h : (s.view m).Safe) : ((applyFields m c s).view m).SafeByMark := by
  obtain ⟨owner, position, zone, pause, target, timer, limit⟩ :=
    h.at_rest (by simp [State.view, idle]) (by simp [State.view, idle])
  rw [applyFields_view_self]
  exact View.safe_at_rest (by simp [idle]) owner position zone pause target timer limit (fun _ => rfl)
    (by simp [idle]) h.stopped

theorem applyCommit_keeps {m : ModelId} {s : State} (c : ModelConfig) (idle : (s.model m).state = .idle) :
    State.Keeps m s (applyCommit m c s) :=
  ⟨(applyFields_alters m c s).trans (updateMark_alters m _), fun h => updateMark_safe (applyFields_byMark c idle h)⟩

theorem deferredCommit_keeps {m : ModelId} {s : State} (idle : (s.model m).state = .idle) :
    State.Keeps m s (deferredCommit m s) := by
  unfold deferredCommit
  split
  · dsimp only
    have pending : State.Keeps m s (s.modModel m fun x => { x with commitPending := false }) := modModel_keeps rfl
    have rest : ((s.modModel m fun x => { x with commitPending := false }).model m).state = .idle := by simp [idle]
    refine pending.trans ?_
    generalize (s.modModel m fun x => { x with commitPending := false }) = t at rest
    split
    · exact .of_view rfl
    · rename_i c _
      split
      · refine ⟨(applyFields_alters m c t).trans (modWatch_alters _ _ _), fun h => ?_⟩
        obtain ⟨owner, position, zone, pause, target, timer, limit⟩ :=
          h.at_rest (by simp [State.view, rest]) (by simp [State.view, rest])
        have watch : ((applyFields m c t).watch m).holdTimer = none :=
          (congrArg View.holdTimer (applyFields_view_self m c t)).trans limit
        rw [modWatch_view, if_pos rfl, applyFields_view_self]
        exact View.safe_at_rest (by simp [rest]) owner position zone pause target timer watch
          (fun _ => congrFun (applyFields_alters m c t).occupied _) (by simp [rest]) h.stopped
      · exact .of_view (raise_view _ _)
  · exact .of_view rfl

/-- R8: a model in motion comes to rest. -/
theorem enterIdle_keeps {m : ModelId} {s : State}
    (moving : (s.model m).state = .running ∨ (s.model m).state = .returning) : State.Keeps m s (enterIdle m s) := by
  have idle : ((changeModel m (fun x => { x.dropCue with state := .idle }) s).model m).state = .idle := by
    obtain ⟨r, e⟩ := (s.model m).settled_eq { (s.model m).dropCue with state := .idle }
    rw [changeModel_model_self, e]
  exact .trans (changeModel_keeps fun h => h.rest moving)
    (.trans (deferredCommit_keeps idle) (freeIfStartable_keeps m _))

theorem cueEnds_keeps {m : ModelId} {c : CueId} {s : State} (running : (s.model m).state = .running) :
    State.Keeps m s (cueEnds m c s) := by
  unfold cueEnds
  split
  · exact enterIdle_keeps (.inl running)
  all_goals exact changeModel_keeps fun h => h.comeHome running

/-! ### The sample -/

theorem repeatSetpoint_keeps (m : ModelId) (s : State) : State.Keeps m s (repeatSetpoint m s) := modModel_keeps rfl

theorem sampleModel_of_out {m : ModelId} {s : State}
    (out : (s.model m).state = .disabled ∨ (s.model m).state = .enabling) : (sampleModel m s).1 = s := by
  unfold sampleModel
  rcases out with e | e <;> simp only [e]

theorem sampleModel_of_still {m : ModelId} {s : State} (still : (s.model m).state = .idle ∨
    (s.model m).state = .holding ∨ (s.model m).state = .stopped ∨ (s.model m).state = .faulted) :
    (sampleModel m s).1 = repeatSetpoint m s := by
  unfold sampleModel
  rcases still with e | e | e | e <;> simp only [e]

theorem sampleModel_of_returning {m : ModelId} {s : State} (returning : (s.model m).state = .returning) :
    (sampleModel m s).1 =
      if (s.model m).returnSample = (s.model m).config.home then
        enterIdle m (s.modModel m fun y => y.record (s.model m).returnSample)
      else s.modModel m fun y => y.record (s.model m).returnSample := by
  unfold sampleModel
  simp only [returning]

/-- The record of a model after a RUNNING sample (R38 to R43). -/
def Model.played (y : Model) (sample : Bool × CuePosition × Int) : Model :=
  { y.record sample.2.2 with position := some sample.2.1 }

theorem sampleModel_of_running {m : ModelId} {s : State} {pos : CuePosition}
    (running : (s.model m).state = .running) (place : (s.model m).position = some pos) :
    (sampleModel m s).1 =
      if (s.playSample (s.model m) pos).1 then
        cueEnds m (s.playSample (s.model m) pos).2.1.cue
          (s.modModel m fun y => y.played (s.playSample (s.model m) pos))
      else s.modModel m fun y => y.played (s.playSample (s.model m) pos) := by
  unfold sampleModel
  simp only [running, place]
  rfl

theorem sampleModel_of_lost {m : ModelId} {s : State} (running : (s.model m).state = .running)
    (place : (s.model m).position = none) : (sampleModel m s).1 = repeatSetpoint m s := by
  unfold sampleModel
  simp only [running, place]

theorem sampleModel_keeps (m : ModelId) (s : State) : State.Keeps m s (sampleModel m s).1 := by
  cases state : (s.model m).state
  case disabled => rw [sampleModel_of_out (.inl state)]; exact .of_view rfl
  case enabling => rw [sampleModel_of_out (.inr state)]; exact .of_view rfl
  case returning =>
    have recorded : State.Keeps m s (s.modModel m fun y => y.record (s.model m).returnSample) := modModel_keeps rfl
    rw [sampleModel_of_returning state]
    split
    · exact recorded.trans (enterIdle_keeps (.inr (by simp [Model.record, state])))
    · exact recorded
  case running =>
    cases place : (s.model m).position with
    | none => rw [sampleModel_of_lost state place]; exact repeatSetpoint_keeps m s
    | some pos =>
      have recorded : State.Keeps m s (s.modModel m fun y => y.played (s.playSample (s.model m) pos)) :=
        modModel_keeps (by simp [Model.posture, Model.played, Model.record, place])
      rw [sampleModel_of_running state place]
      split
      · exact recorded.trans (cueEnds_keeps (by simp [Model.played, Model.record, state]))
      · exact recorded
  all_goals rw [sampleModel_of_still (by simp [state])]; exact repeatSetpoint_keeps m s

/-- The state that a run of samples leaves. -/
theorem sampleModels_state (s : State) : (sampleModels s).1 = forEach allModels (fun m t => (sampleModel m t).1) s := by
  have run (ms : List ModelId) : ∀ acc : State × List AxisOut, (ms.foldl (fun (acc : State × List AxisOut) m =>
      ((sampleModel m acc.1).1, acc.2 ++ (sampleModel m acc.1).2)) acc).1 =
        forEach ms (fun m t => (sampleModel m t).1) acc.1 := by
    induction ms with
    | nil => exact fun _ => rfl
    | cons m rest ih => exact fun acc => ih _
  exact run allModels (s, [])

theorem sampleExpiry_safe {s : State} (h : s.Safe) : (sampleExpiry s).Safe := by
  unfold sampleExpiry
  dsimp only
  refine State.Safe.of_view ?_ (forEach_keeps State.view _ (fun n t => fillSlot_view _ n t) _ _)
  rw [sampleModels_state]
  refine forEach_invariant (fun m t safe => safe.of_keeps (sampleModel_keeps m t)) allModels ?_
  exact h.of_view (State.onMotion_view rfl)

end Sys2Proof.Machine

/-! ## What keeps motion safe: modes, presses, frames, commands -/

namespace Sys2Proof.Machine

/-! ### Gallery modes -/

/-- A model that is safe in any mode: nothing plays on it. -/
theorem View.Safe.of_no_owner {v : View} (h : { v with gallery := .opened }.Safe) (owner : v.model.owner = none) :
    v.Safe :=
  { h with allowed := fun o e => by simp [owner] at e }

/-- In OPEN every owner is allowed. -/
theorem View.Safe.opened {v : View} (h : v.Safe) : { v with gallery := .opened }.Safe :=
  { h with allowed := fun _ _ => .inl rfl }

/-- R10: a cut leaves no owner. -/
theorem cut_owner {x : Model} (agrees : x.Agrees) : x.cut.owner = none := by
  unfold Model.Agrees at agrees
  cases hs : x.state <;> simp only [hs] at agrees <;> simp only [Model.cut, hs, Model.dropCue, agrees]
  split <;> rfl

/-- A model that plays no cue has no owner. -/
theorem Model.Agrees.no_owner {x : Model} (h : x.Agrees) (still : x.inPlay = false) : x.owner = none := by
  have owned := (x.agrees_iff.mp h).1.1
  rw [still] at owned
  simpa using owned

/-- R150, R151, R153: a model that is cut is safe in the new mode. -/
theorem View.Safe.cut_in_any_mode {v : View} (h : { v with gallery := .opened }.Safe) : (v.change Model.cut).Safe := by
  obtain ⟨r, e⟩ := v.model.settled_eq v.model.cut
  refine View.Safe.of_no_owner h.cut ?_
  simp only [View.change, e]
  exact cut_owner h.agrees

/-- R150, R153: the cut of every cue in play makes the bay safe in the mode that it has entered. -/
theorem cutAllInPlay_safe {s : State} (h : ∀ m, { s.view m with gallery := .opened }.Safe) :
    (cutAllInPlay s).Safe := by
  refine forEach_safe (Ready := fun v => { v with gallery := .opened }.Safe) (fun m t => ?_) (fun m t ready => ?_) h
  · split
    · exact changeModel_alters m _ t
    · exact .of_view rfl
  · split
    · rw [cutModel, changeModel_view_self]; exact ready.cut_in_any_mode
    · rename_i still
      exact View.Safe.of_no_owner ready (ready.agrees.no_owner (Bool.eq_false_of_not_eq_true still))

/-- R151: the cut of the visitors' cues makes the bay safe in SERVICE. -/
theorem cutVisitors_safe {s : State} (service : s.gallery = .service)
    (h : ∀ m, { s.view m with gallery := .opened }.Safe) : (cutVisitors s).Safe := by
  refine forEach_safe (Ready := fun v => { v with gallery := .opened }.Safe ∧ v.gallery = .service) (fun m t => ?_)
    (fun m t ⟨ready, mode⟩ => ?_) fun m => ⟨h m, service⟩
  · split
    · exact changeModel_alters m _ t
    all_goals exact .of_view rfl
  · split
    · rw [cutModel, changeModel_view_self]; exact ready.cut_in_any_mode
    · rename_i control
      exact { ready with allowed := fun o e => .inr ⟨mode, Option.some.inj (e.symm.trans control)⟩ }
    · rename_i none; exact View.Safe.of_no_owner ready none

theorem relaxFollowing_safe {s : State} (h : s.Safe) : (relaxFollowing s).Safe := by
  refine forEach_invariant (fun m t safe => ?_) allModels h
  split
  · refine (safe.of_keeps (m := m) (modModel_keeps (f := fun x => { x with run := 0 }) rfl)).of_view ?_
    exact quench_view _ _
  · exact safe

theorem enterClosed_safe {s : State} (h : s.Safe) : (enterClosed s).Safe := by
  have cut : (cutAllInPlay (setMode .closed s)).Safe := cutAllInPlay_safe fun m => (h m).opened
  exact (relaxFollowing_safe (cut.of_view (flushAll_view _))).of_view (by simp [enterClosed])

theorem enterService_safe {s : State} (h : s.Safe) : (enterService s).Safe := by
  have cut : (cutVisitors (setMode .service s)).Safe := cutVisitors_safe rfl fun m => (h m).opened
  exact (freeAll_safe (cut.of_view (flushAll_view _))).of_view (by simp [enterService])

theorem enterOpen_safe {s : State} (h : s.Safe) : (enterOpen s).Safe := by
  have opened : (setMode .opened s).Safe := fun m => (h m).opened
  exact (freeAll_safe (opened.of_view (stopWakeTimer_view _))).of_view (by simp [enterOpen])

theorem enterDoze_safe {s : State} (h : s.Safe) : (enterDoze s).Safe := by
  have cut : (cutAllInPlay (setMode .doze s)).Safe := cutAllInPlay_safe fun m => (h m).opened
  exact (relaxFollowing_safe cut).of_view (by simp [enterDoze])

theorem endWakeTest_safe {s : State} (h : s.Safe) : (endWakeTest s).Safe := by
  unfold endWakeTest
  split
  · exact enterOpen_safe h
  · exact h

/-- R156: no cue plays in DOZE, so a wake leaves the bay safe. -/
theorem sendWake_safe {s : State} (h : s.Safe) : (sendWake s).Safe := by
  unfold sendWake
  split
  · rename_i doze
    refine State.Safe.of_view (fun m => ?_) (quietTest_view _ _)
    refine View.Safe.of_no_owner (h m).opened ?_
    cases owner : (s.model m).owner with
    | none => exact owner
    | some o =>
      have allowed := (h m).allowed o owner
      simp [State.view, doze] at allowed
  · exact h

theorem withEntryTest_safe {taking : State → State} (keeps : ∀ t, t.Safe → (taking t).Safe) {s : State} (h : s.Safe) :
    (withEntryTest taking s).Safe := by
  unfold withEntryTest
  split
  · exact endWakeTest_safe (keeps s h)
  · exact keeps s h

theorem requestWake_safe {s : State} (h : s.Safe) : (requestWake s).Safe :=
  withEntryTest_safe (fun _ => sendWake_safe) h

theorem dozeEnds_safe {s : State} (h : s.Safe) : (dozeEnds s).Safe := by
  unfold dozeEnds
  split
  · exact enterDoze_safe h
  · exact h

theorem wakeLimitEnds_safe {s : State} (h : s.Safe) : (wakeLimitEnds s).Safe := by
  unfold wakeLimitEnds
  split
  · refine enterOpen_safe (forEach_invariant (fun m t safe => safe.of_keeps (driveReport_keeps m t)) _ ?_)
    exact h.of_view (stopWakeTimer_view s)
  · exact h

theorem modeCommand_safe (g : GalleryMode) {s : State} (h : s.Safe) : (modeCommand g s).1.Safe := by
  cases g <;> simp only [modeCommand]
  case closed => exact enterClosed_safe h
  case service => exact enterService_safe h
  case doze =>
    split <;> dsimp only
    · exact enterDoze_safe h
    · exact h
  case opened =>
    split <;> dsimp only
    · exact (enterOpen_safe h).of_view (quietTest_view _ _)
    · exact enterOpen_safe h
    · exact enterOpen_safe h
    · exact requestWake_safe h
    · exact h
  case waking => exact h

theorem modeArgs_safe (args : List Byte) {s : State} (h : s.Safe) : (modeArgs args s).1.Safe := by
  unfold modeArgs
  split
  · split
    · exact modeCommand_safe _ h
    · exact h
  · exact h

/-! ### The schedule list -/

theorem becomeDue_safe (m : ModelId) {s : State} (h : s.Safe) : (becomeDue m s).Safe := by
  unfold becomeDue
  split
  · exact h
  · rename_i e _
    have marked : (quietTest false (s.onMotion fun q => { q with schedule := markDue e q.schedule })).Safe :=
      h.of_view ((quietTest_view _ _).trans (State.onMotion_view rfl))
    dsimp only
    split
    · exact (marked.of_keeps (serveEntry_keeps m e.cue _)).of_view (missAtOnce_view _ _)
    · exact withEntryTest_safe (fun t safe => (sendWake_safe safe).of_view (missAtOnce_view _ _)) marked

theorem nextDue_safe {s : State} (h : s.Safe) : (nextDue s).Safe := by
  unfold nextDue
  split
  · exact becomeDue_safe _ h
  · exact h

theorem syncClock_safe (v : Clock) {s : State} (h : s.Safe) : (syncClock v s).Safe := by
  unfold syncClock
  refine forEach_invariant (fun m t safe => becomeDue_safe m safe) _ ?_
  exact h.of_view (State.onMotion_view rfl)

theorem scheduleStart_safe (m : ModelId) (c : CueId) (start : Clock) (late : Nat) {s : State} (h : s.Safe) :
    (scheduleStart m c start late s).1.Safe := by
  have listed (q : MotionSequencer → List ScheduleEntry) (b : Bool) :
      ((if b then removeEntry m s else s).onMotion fun x => { x with schedule := q x }).Safe := by
    refine h.of_view ((State.onMotion_view rfl).trans ?_)
    split
    · exact removeEntry_view m s
    · rfl
  unfold scheduleStart
  split
  · exact h
  · dsimp only
    split
    · exact h
    · split
      · exact becomeDue_safe m (listed _ _)
      · exact listed _ _

/-! ### Presses -/

theorem clearSuspect_view (i : EntryIx) (k : Key) (s : State) : (clearSuspect i k s).view = s.view :=
  report_view rfl _ _

theorem stuckExpires_view (k : Key) (s : State) : (stuckExpires k s).view = s.view := by
  unfold stuckExpires
  split
  · rfl
  · split
    · rfl
    · split
      · exact (flushKey_view _ _ _).trans (report_view rfl _ _)
      · rfl

theorem serveList_safe (m : ModelId) (fuel : Nat) {s : State} (h : s.Safe) : (serveList m fuel s).Safe := by
  induction fuel generalizing s with
  | zero => exact h
  | succ fuel ih =>
    unfold serveList
    split
    · exact h
    · rename_i r rest _
      have keeps := h.of_keeps (startRequest_keeps m r.cue (.button r.key) (s.startsPaused r.key) s)
      split <;> rename_i e <;> rw [e] at keeps
      · exact keeps.of_view (by simp)
      · exact ih (keeps.of_view (by simp))
      all_goals exact keeps

theorem takeFreeNotice_safe (m : ModelId) {s : State} (h : s.Safe) : (takeFreeNotice m s).Safe := by
  unfold takeFreeNotice
  split
  · exact serveList_safe m _ (h.of_view (State.onMotion_view rfl))
  · exact h

theorem pressStart_safe (i : EntryIx) (b : Button) {s : State} (h : s.Safe) : (pressStart i b s).Safe := by
  have keeps := h.of_keeps (startRequest_keeps b.modelId b.cueId (.button b.key) false s)
  unfold pressStart
  split <;> rename_i e <;> rw [e] at keeps <;> exact keeps.of_view (by simp)

theorem press_safe (i : EntryIx) (b : Button) {s : State} (h : s.Safe) : (press i b s).Safe := by
  have awake : State.Safe (if s.ownsCue b.key b.modelId && b.mode == .toggle then beginLockout i (cutModel b.modelId s)
      else if s.ownsCue b.key b.modelId && b.mode == .hold then
        (if (s.model b.modelId).holdPause then resumeModel b.modelId s else s)
      else if s.isWaiting b.key b.modelId then s else pressStart i b s) := by
    split
    · exact (h.of_keeps (cutModel_keeps b.modelId s)).of_view (beginLockout_view _ _)
    · split
      · split
        · exact h.of_keeps (resumeModel_keeps b.modelId s)
        · exact h
      · split
        · exact h
        · exact pressStart_safe i b h
  unfold press
  cases b.inLockout
  · cases s.gallery
    case opened | waking => exact awake
    all_goals exact h
  · exact h

theorem callEdge_safe (i : EntryIx) (b : Button) {s : State} (h : s.Safe) : (callEdge i b s).Safe := by
  have woken : (sendWake s).Safe := sendWake_safe h
  have view : (callEdge i b s).view = (sendWake s).view := by
    unfold callEdge callPress
    (repeat' split) <;> simp
  exact woken.of_view view

theorem edgeCases_safe (i : EntryIx) (b : Button) (e : Edge) {s : State} (h : s.Safe) : (edgeCases i b e s).Safe := by
  have acting : State.Safe (if e = b.acting then press i b s else s) := by
    split
    · exact press_safe i b h
    · exact h
  have calling : State.Safe (if e = b.acting then callEdge i b s else s) := by
    split
    · exact callEdge_safe i b h
    · exact h
  unfold edgeCases
  split
  · split
    · exact h.of_keeps (pauseModel_keeps b.modelId s)
    · exact h
  · exact press_safe i b h
  · exact calling
  · exact acting
  · exact acting

theorem takeEdge_safe (i : EntryIx) (e : Edge) {s : State} (h : s.Safe) : (takeEdge i e s).Safe := by
  have booked : (stuckBookkeeping i e s).Safe := h.of_view (stuckBookkeeping_view i e s)
  unfold takeEdge
  dsimp only
  split
  · exact booked
  · split
    · split
      · exact booked.of_view (clearSuspect_view _ _ _)
      · exact booked
    · split
      · exact edgeCases_safe _ _ _ (sendWake_safe booked)
      · exact edgeCases_safe _ _ _ booked

theorem panelButton_safe (n : NodeId) (d : BitVec 16) (b : ButtonIx) {s : State} (h : s.Safe) :
    (panelButton n d b s).Safe := by
  unfold panelButton
  dsimp only
  split
  · exact h
  · have recorded := h.of_view (recordButton_view ⟨n, b⟩ (d.getLsbD b.val) s)
    split
    · exact (takeEdge_safe _ _ recorded).of_view (deriveLamps_view _)
    · exact recorded

theorem takePanel_safe (n : NodeId) (d : BitVec 16) (hello : Bool) {s : State} (h : s.Safe) :
    (takePanel n d hello s).Safe := by
  unfold takePanel
  dsimp only
  split
  · have taken : (withEntryTest (forEach allButtons (panelButton n d)) s).Safe :=
      withEntryTest_safe (fun t safe => forEach_invariant (fun b _ => panelButton_safe n d b) allButtons safe) h
    split
    · exact taken.of_view (markDirty_view _ _)
    · exact taken
  · exact h

theorem dropButton_safe (k : Key) {s : State} (h : s.Safe) : (dropButton k s).Safe := by
  have paused (c : Bool) (m : ModelId) (t : State) (safe : t.Safe) : (if c then pauseModel m t else t).Safe := by
    split
    · exact safe.of_keeps (pauseModel_keeps m t)
    · exact safe
  unfold dropButton
  split
  · exact h
  · rename_i i _
    have released : (s.modEntry i fun b => { b with stuckTimer := none, downSince := none }).Safe := h.of_view rfl
    dsimp only
    split
    · exact released
    · split
      · exact paused _ _ _ (released.of_view (clearSuspect_view i k _))
      · exact paused _ _ _ released

theorem emptyRecorded_safe (n : NodeId) {s : State} (h : s.Safe) : (emptyRecorded n s).Safe := by
  unfold emptyRecorded
  refine forEach_invariant (fun b t safe => dropButton_safe ⟨n, b⟩ safe) _ ?_
  exact h.of_view rfl

theorem storeButton_view (i : EntryIx) (b : Option Button) (s : State) : (storeButton i b s).view = s.view := by
  unfold storeButton
  dsimp only
  split
  · rfl
  · split
    · exact (setLamp_view _ _ _).trans (report_view rfl _ _)
    · exact report_view rfl _ _

end Sys2Proof.Machine

/-! ## What keeps motion safe: frames, commands, resets and time -/

namespace Sys2Proof.Machine

theorem safe_ite {c : Prop} [Decidable c] {t u : State} (ht : t.Safe) (hu : u.Safe) : (if c then t else u).Safe := by
  split <;> assumption

/-! ### Nodes, drives and the ring -/

theorem driveHeard_safe (n : NodeId) {s : State} (h : s.Safe) : (driveHeard n s).Safe := by
  unfold driveHeard
  refine forEach_invariant (fun m t safe => report_safe _ _ ?_) _ h
  exact safe.of_keeps (modWatch_keeps (m := m) rfl id)

theorem nodeHeard_safe (n : NodeId) {s : State} (h : s.Safe) : (nodeHeard n s).Safe := by
  have reported : (report (.nodeSilent n) false
      (s.modNode n fun e => { e with lastHeard := some s.clock, silence := e.silenceStart })).Safe :=
    h.of_view (report_view rfl _ _)
  have reviewed := safe_ite (c := (s.marks (.nodeSilent n)).active = true) (reviewZones_safe reported) reported
  exact safe_ite (driveHeard_safe n reviewed) reviewed

theorem nodeSilenceEnds_safe (n : NodeId) {s : State} (h : s.Safe) : (nodeSilenceEnds n s).Safe := by
  have silent : (report (.nodeSilent n) true (s.modNode n fun e => { e with silence := none })).Safe :=
    h.of_view (report_view rfl _ _)
  have emptied := safe_ite (c := ((report (.nodeSilent n) true (s.modNode n fun e => { e with silence := none })).node
    n).role = .panel) (emptyRecorded_safe n silent) silent
  exact safe_ite (safe_ite (reviewZones_safe (safe_ite (emptied.of_view rfl) emptied)) emptied) h

theorem driveSilenceEnds_safe (m : ModelId) {s : State} (h : s.Safe) : (driveSilenceEnds m s).Safe := by
  unfold driveSilenceEnds
  split
  · exact report_safe _ _ (h.of_keeps (modWatch_keeps (m := m) rfl id))
  · exact h

theorem spineHeard_view (s : State) : (spineHeard s).view = s.view := report_view rfl _ _

theorem spineSilenceEnds_view (s : State) : (spineSilenceEnds s).view = s.view := by
  unfold spineSilenceEnds
  split
  · exact report_view rfl _ _
  · rfl

theorem bayError_view (s : State) : (bayError s).view = s.view := by
  unfold bayError
  dsimp only
  split
  · exact report_view rfl _ _
  · rfl

theorem windowEnds_view (s : State) : (windowEnds s).view = s.view := by
  unfold windowEnds
  dsimp only
  split
  · exact report_view rfl _ _
  · rfl

theorem reportRing_safe (v : Bool) {s : State} (h : s.Safe) : (reportRing v s).Safe := by
  have reported : (report (.bay .ringOpen) v s).Safe := h.of_view (report_view rfl _ _)
  unfold reportRing
  dsimp only
  split
  · exact reported
  · exact reviewZones_safe reported

theorem ringReturn_safe {s : State} (h : s.Safe) : (ringReturn s).Safe := reportRing_safe _ (h.of_view rfl)

theorem ringMiss_safe {s : State} (h : s.Safe) : (ringMiss s).Safe := by
  unfold ringMiss
  dsimp only
  split
  · split
    · exact reportRing_safe _ (h.of_view rfl)
    · exact h.of_view rfl
  · exact h

theorem takePresence_safe (n : NodeId) (occupied : BitVec 8) {s : State} (h : s.Safe) :
    (takePresence n occupied s).Safe := by
  unfold takePresence
  split
  · exact reviewZones_safe (h.of_view rfl)
  · exact h

/-! ### Feedback -/

theorem checkEntry_keeps (m : ModelId) (position : Int) (load : Nat) (flagged : Bool) (s : State) :
    State.Keeps m s (checkEntry m position load flagged s) := by
  have reported (c : Bool) (k : ModelKind) (v : Bool) (t : State) :
      State.Keeps m t (if c then report (.model k m) v t else t) := by
    split
    · exact reportModel_keeps k m v t
    · exact .of_view rfl
  have driven (c : Bool) (t : State) : State.Keeps m t (if c then driveReport m t else t) := by
    split
    · exact driveReport_keeps m t
    · exact .of_view rfl
  unfold checkEntry
  dsimp only
  refine .trans ?_ (driven _ _)
  refine .trans ?_ (reportModel_keeps _ _ _ _)
  refine .trans ?_ (reportModel_keeps _ _ _ _)
  refine .trans ?_ (reportModel_keeps _ _ _ _)
  exact .trans (modModel_keeps rfl) (reported _ _ _ _)

theorem takeAxisEntry_safe (n : NodeId) (e : AxisEntry) {s : State} (h : s.Safe) : (takeAxisEntry n e s).Safe := by
  have woken (c : Prop) [Decidable c] {t : State} (safe : t.Safe) : (if c then t else endWakeTest t).Safe := by
    split
    · exact safe
    · exact endWakeTest_safe safe
  unfold takeAxisEntry
  split
  · exact h
  · rename_i m _
    dsimp only
    refine woken _ ?_
    have energised : State.Keeps m s (s.modWatch m fun w => { w with energised := isEnergised e.flags }) :=
      modWatch_keeps rfl id
    have fedBack : State.Keeps m s ((s.modWatch m fun w => { w with energised := isEnergised e.flags }).modModel m
        fun x => { x with fedBack := some e.position.toInt }) := energised.trans (modModel_keeps rfl)
    split
    · rename_i enabling
      refine h.of_keeps (fedBack.trans (.trans (t := State.modModel _ m _) (modModel_keeps rfl)
        (.trans (firstFeedback_keeps ?_) (reportModel_keeps _ _ _ _))))
      have entered : (s.model m).state = .enabling := by simpa using enabling
      rw [State.modModel_model_self, State.modModel_model_self]
      exact entered
    · exact h.of_keeps (fedBack.trans (checkEntry_keeps m _ _ _ _))

theorem takeFeedback_safe (n : NodeId) (entries : List AxisEntry) {s : State} (h : s.Safe) :
    (takeFeedback n entries s).Safe := by
  unfold takeFeedback
  split
  · exact forEach_invariant (fun e t safe => takeAxisEntry_safe n e safe) entries h
  · exact h

/-! ### Tables -/

theorem writeModel_keeps (m : ModelId) (record : List Byte) (s : State) :
    State.Keeps m s (writeModel m record s).1 := by
  unfold writeModel
  split
  · exact .of_view rfl
  · rename_i c clamped _
    split
    · rename_i disabled
      refine ⟨modModel_alters s m _, fun h => ?_⟩
      obtain ⟨owner, position, zone, pause, target, timer, limit⟩ :=
        h.at_rest (by simp [State.view, disabled]) (by simp [State.view, disabled])
      rw [modModel_view, if_pos rfl]
      exact View.safe_at_rest (by simp [disabled]) owner position zone pause target timer limit
        (absurd disabled) (by simp [disabled]) h.stopped
    · split
      · exact .of_view rfl
      · exact modModel_keeps rfl

/-- The reported sets are seen by no view. -/
theorem onSup_reported_view (s : State) (r : Vector (BitVec 8) 62) :
    (s.onSup fun q => { q with reported := r }).view = s.view := rfl

theorem storeNode_safe (n : NodeId) (f : NodeFields) {s : State} (h : s.Safe) : (storeNode n f s).Safe := by
  unfold storeNode
  dsimp only
  have stored (g : NodeEntry → NodeEntry) : (report (.nodeSilent n) false (s.modNode n g)).Safe :=
    h.of_view (report_view rfl _ _)
  refine reviewZones_safe (State.Safe.of_view ?_ (onSup_reported_view _ _))
  exact safe_ite (safe_ite (stored _) ((stored _).of_view (markDirty_view _ _)))
    (emptyRecorded_safe n ((stored _).of_view rfl))

theorem writeNode_safe (n : NodeId) (record : List Byte) {s : State} (h : s.Safe) : (writeNode n record s).1.Safe := by
  unfold writeNode
  split
  · exact h
  · split
    · exact h
    · dsimp only; exact storeNode_safe n _ h

theorem writeButton_view (i : EntryIx) (record : List Byte) (s : State) : (writeButton i record s).1.view = s.view := by
  unfold writeButton
  split
  · rfl
  · split
    · rfl
    · split
      · rfl
      · exact storeButton_view _ _ _

theorem writeCue_view (c : CueId) (record : List Byte) (s : State) : (writeCue c record s).1.view = s.view := by
  unfold writeCue
  (repeat' split) <;> rfl

theorem writeProfile_view (p : ProfileId) (record : List Byte) (s : State) :
    (writeProfile p record s).1.view = s.view := by
  unfold writeProfile
  (repeat' split) <;> rfl

theorem writePattern_view (i : Fin 3) (record : List Byte) (s : State) : (writePattern i record s).1.view = s.view := by
  unfold writePattern
  split <;> rfl

theorem redetect_safe (code : Fin 15) {s : State} (h : s.Safe) : (redetect code s).Safe := by
  unfold redetect
  exact forEach_invariant (fun id t safe => report_safe id _ safe) _ h

theorem fillSilent_view (s : State) : (fillSilent s).view = s.view := by
  unfold fillSilent
  refine forEach_keeps State.view _ (fun n t => ?_) _ _
  split <;> rfl

theorem storeRoute_safe (code : Fin 15) (r : Route) {s : State} (h : s.Safe) : (storeRoute code r s).Safe := by
  have stored : (s.onAlert fun u => { u with routes := tput u.routes code r }).Safe := h.of_view rfl
  have detected := redetect_safe code stored
  exact safe_ite stored (safe_ite
    (reviewZones_safe (safe_ite (detected.of_view (fillSilent_view _)) detected))
    (safe_ite (reviewZones_safe detected) detected))

theorem writeRoute_safe (code : Fin 15) (record : List Byte) {s : State} (h : s.Safe) :
    (writeRoute code record s).1.Safe := by
  unfold writeRoute
  split
  · exact h
  · dsimp only; exact storeRoute_safe code _ h

theorem storeSettings_view (v : Settings) (s : State) : (storeSettings v s).view = s.view := by
  unfold storeSettings
  dsimp only
  rw [quietTest_view]
  split
  · rw [report_view rfl]
    split <;> rfl
  · split <;> rfl

theorem writeSettings_view (record : List Byte) (s : State) : (writeSettings record s).1.view = s.view := by
  unfold writeSettings
  split
  · rfl
  · split
    · rfl
    · exact storeSettings_view _ _

/-! ### Control -/

/-- The view of a model whose mark is set. -/
theorem modWatch_mark_view {s : State} {m : ModelId} {f : Watch → Watch}
    (timer : (f (s.watch m)).holdTimer = (s.watch m).holdTimer) :
    (s.modWatch m f).view m = { s.view m with mark := (f (s.watch m)).maskOccupied } := by
  rw [modWatch_view, if_pos rfl, timer]; rfl

theorem enterEnabling_safe {m : ModelId} {s : State} (h : s.Safe) :
    (enterEnabling m s).Safe := by
  unfold enterEnabling
  dsimp only
  refine endWakeTest_safe (State.Safe.of_view (s := State.modWatch _ m _) ?_ (quench_view _ _))
  have changed := changeModel_alters m Model.enable s
  refine h.of_keeps ⟨changed.trans (modWatch_alters _ _ _), fun safe => ?_⟩
  rw [modWatch_mark_view rfl, changeModel_view_self, changed.occupied]
  obtain ⟨r, e⟩ := (s.model m).settled_eq (s.model m).enable
  have config : ((changeModel m Model.enable s).model m).config = (s.model m).config := by
    rw [changeModel_model_self, e]; rfl
  rw [config]
  exact View.safe_change_at_rest (v := { s.view m with mark := s.maskOccupied (s.model m).config.zoneMask })
    (f := Model.enable) safe.limit ⟨nofun, nofun⟩ rfl rfl rfl rfl rfl rfl
    (fun _ => rfl) nofun fun _ => rfl

theorem enableModel_safe (m : ModelId) {s : State} (h : s.Safe) : (enableModel m s).1.Safe := by
  have kept {c : Prop} [Decidable c] {v : Verdict16} {r : State × Verdict16} (rest : r.1.Safe) :
      (if c then (s, v) else r).1.Safe := by
    split
    · exact h
    · exact rest
  exact kept (kept (kept (kept (enterEnabling_safe h))))

theorem disableModel_safe (m : ModelId) {s : State} (h : s.Safe) : (disableModel m s).1.Safe := by
  unfold disableModel
  split
  · exact h
  · dsimp only
    refine endWakeTest_safe (State.Safe.of_view (s := State.modWatch _ m _) ?_ (removeEntry_view _ _))
    have changed := changeModel_alters m Model.disable s
    have quenched : (quenchModel m (changeModel m Model.disable s)).view = (changeModel m Model.disable s).view :=
      quenchModel_view _ _
    refine h.of_keeps ⟨(changed.trans (.of_view quenched)).trans (modWatch_alters _ _ _), fun safe => ?_⟩
    rw [modWatch_mark_view rfl, quenched, changeModel_view_self]
    exact View.safe_change_at_rest (v := { s.view m with mark := false }) (f := Model.disable) safe.limit ⟨nofun, nofun⟩
      rfl rfl rfl rfl rfl rfl (absurd rfl) nofun fun _ => rfl

theorem commitModel_keeps (m : ModelId) (s : State) : State.Keeps m s (commitModel m s).1 := by
  unfold commitModel
  split
  · exact .of_view rfl
  · cases state : (s.model m).state <;> dsimp only
    case disabled => exact .of_view rfl
    case idle =>
      split
      · exact applyCommit_keeps _ state
      · exact .of_view rfl
    all_goals exact modModel_keeps rfl

theorem stopCue_keeps (m : ModelId) (s : State) : State.Keeps m s (stopCue m s).1 := by
  unfold stopCue
  split
  · exact cutModel_keeps m s
  · exact .of_view rfl

theorem startNow_safe (args : List Byte) {s : State} (h : s.Safe) : (startNow args s).1.Safe := by
  unfold startNow
  split
  · exact h
  · split
    · exact h
    · exact h.of_keeps (startRequest_keeps _ _ _ _ s)

theorem startLater_safe (args : List Byte) {s : State} (h : s.Safe) : (startLater args s).1.Safe := by
  unfold startLater
  split
  · exact h
  · split
    · exact h
    · exact scheduleStart_safe _ _ _ _ h

theorem syncArgs_safe (args : List Byte) {s : State} (h : s.Safe) : (syncArgs args s).1.Safe := by
  unfold syncArgs
  split
  · dsimp only; exact syncClock_safe _ h
  · exact h

theorem clearLatches_safe (ids : List FaultId) {s : State} (h : s.Safe) : (clearLatches ids s).Safe := by
  unfold clearLatches
  refine State.Safe.of_view ?_ (forEach_keeps State.view _ (fun id t => clearNotice_view id t) _ _)
  refine forEach_invariant (fun m t safe => safe_ite (safe.of_keeps (releaseTrip_keeps m t)) safe) _ ?_
  exact h.of_view (forEach_keeps State.view _ (fun id t => State.modMarks_view t id _) _ _)

theorem clearArgs_safe (args : List Byte) {s : State} (h : s.Safe) : (clearArgs args s).1.Safe := by
  unfold clearArgs
  split
  · exact h
  · split
    · exact h
    · simp only [clearNamed]; exact clearLatches_safe _ h

theorem resumeArgs_safe (args : List Byte) {s : State} (h : s.Safe) : (resumeArgs args s).1.Safe := by
  unfold resumeArgs
  split
  · exact h
  · split
    · exact h
    · rename_i released
      dsimp only
      exact resumeAll_safe (Bool.eq_false_of_not_eq_true released) h

/-! ### Commands and their answers -/

theorem answered_safe {c : Sender} {body : State → State × Answer} {s : State} (done : (body s).1.Safe) (h : s.Safe) :
    (answered c body s).Safe :=
  safe_ite done (safe_ite (h.of_view (overrun_view s)) (done.of_view (pushReply_view _ _ _ _)))

theorem control_safe {code : Byte} {c : Sender} {body : State → State × Verdict16} {s : State}
    (done : (body s).1.Safe) (h : s.Safe) : (control code c body s).Safe := answered_safe done h

theorem modelCommand_safe {code : Byte} {c : Sender} {args : List Byte} {body : ModelId → State → State × Verdict16}
    {s : State} (done : ∀ m, (body m s).1.Safe) (h : s.Safe) : (modelCommand code c args body s).Safe := by
  refine control_safe ?_ h
  split
  · split
    · exact done _
    · exact h
  · exact h

theorem tableWrite_safe {id : Byte} {c : Sender} {index : Byte} {record : List Byte}
    {body : State → State × Verdict16} {s : State} (done : (body s).1.Safe) (h : s.Safe) :
    (tableWrite id c index record body s).Safe := by
  refine answered_safe ?_ h
  split
  · exact h
  · exact done

end Sys2Proof.Machine

/-! ## What keeps motion safe: every step -/

namespace Sys2Proof.Machine

/-! ### Resets -/

/-- Models and watch records at their reset values are safe, whatever the keys and the mode. -/
theorem safe_of_reset {s : State} (models : ∀ m, s.model m = Model.reset) (watch : ∀ m, s.watch m = Watch.reset) :
    s.Safe := fun m => by
  have e : s.view m = ⟨Model.reset, false, none, s.maskOccupied, s.sup.stopAsserted, s.gallery⟩ := by
    simp [State.view, models, watch, Watch.reset]
  rw [e]
  exact View.safe_at_rest ⟨nofun, nofun⟩ rfl rfl rfl rfl rfl rfl rfl (absurd rfl) nofun fun _ => rfl

/-- R106: the sampled STOP key stops no model after a reset. -/
theorem sampleKeys_safe {s : State} (models : ∀ m, s.model m = Model.reset) (watch : ∀ m, s.watch m = Watch.reset) :
    (sampleKeys s).Safe := by
  have sampled : (s.onSup fun q => { q with
      stopAsserted := s.pins.stopOpen, ack := if s.pins.ackClosed then AckState.blocked else .armed }).Safe :=
    safe_of_reset models watch
  exact safe_ite (sampled.of_view (report_view rfl _ _)) sampled

theorem reset_model (m : ModelId) : tget (Vector.replicate 12 Model.reset) m = Model.reset := tget_replicate _ m

theorem reset_watch (m : ModelId) : tget (Vector.replicate 12 Watch.reset) m = Watch.reset := tget_replicate _ m

theorem placeStartUp_view (origin : Byte) (s : State) : (placeStartUp origin s).view = s.view := rfl

theorem hardResetEnds_safe (s : State) : (hardResetEnds s).Safe := by
  unfold hardResetEnds
  refine State.Safe.of_view (sampleKeys_safe ?_ ?_) (placeStartUp_view _ _)
  · exact fun m => reset_model m
  · exact fun m => reset_watch m

theorem hardResetHolds_safe (s : State) : (hardResetHolds s).Safe := safe_of_reset reset_model reset_watch

theorem softReset_safe (s : State) : (softReset s).Safe := by
  unfold softReset
  refine State.Safe.of_view (sampleKeys_safe ?_ ?_) (placeStartUp_view _ _)
  · exact fun m => reset_model m
  · exact fun m => reset_watch m

theorem hardReset_safe (b : BitVec 5) (r : BitVec 2) (stop ack : Bool) (s : State) : (hardReset b r stop ack s).Safe :=
  safe_ite (hardResetEnds_safe _) (hardResetHolds_safe _)

theorem clkResumes_safe {s : State} (h : s.Safe) : (clkResumes s).Safe :=
  safe_ite (hardResetEnds_safe _) (h.of_view rfl)

theorem restartAll_safe {s : State} (h : s.Safe) : (restartAll s).Safe := safe_ite (h.of_view rfl) (softReset_safe s)

theorem spineLeft_safe {s : State} (h : s.Safe) : (spineLeft s).Safe := by
  unfold spineLeft
  split
  · exact h
  · rename_i b _
    have told : State.Safe (match b.builder with
        | .alert => alertLeft (s.onRelay fun q => { q with spineOut := none })
        | .restart => if (s.onRelay fun q => { q with spineOut := none }).relay.softPending then
            softReset (s.onRelay fun q => { q with spineOut := none })
          else s.onRelay fun q => { q with spineOut := none }
        | .plain => s.onRelay fun q => { q with spineOut := none }) := by
      cases b.builder
      · exact h.of_view rfl
      · exact safe_ite (softReset_safe _) (h.of_view rfl)
      · exact h.of_view rfl
    exact safe_ite (softReset_safe _) told

/-! ### Keys -/

/-- R107: the STOP key stops every model that it finds at rest or in motion. -/
theorem stopAsserts_safe {s : State} (h : s.Safe) : (stopAsserts s).Safe := by
  refine safe_ite (h.of_view rfl) ?_
  refine forEach_safe (Ready := fun v => { v with stop := false }.Safe) (fun m t => changeModel_alters m _ t)
    (fun m t ready => ?_) fun m => ?_
  · rw [changeModel_view_self]; exact ready.stop
  · rw [report_view rfl]
    exact { h m with stopped := nofun }

theorem stopReleases_safe {s : State} (h : s.Safe) : (stopReleases s).Safe := by
  refine safe_ite (freeAll_safe ?_) (h.of_view rfl)
  refine State.Safe.of_view (fun m => ?_) (report_view rfl _ _)
  exact { h m with stopped := nofun }

theorem ackPressed_view (s : State) : (ackPressed s).view = s.view := by
  unfold ackPressed
  dsimp only
  split <;> rfl

theorem ackLetGo_view (s : State) : (ackLetGo s).view = s.view := by
  unfold ackLetGo
  dsimp only
  split <;> rfl

theorem ackHeld_safe {s : State} (h : s.Safe) : (ackHeld s).Safe := by
  unfold ackHeld
  split
  · dsimp only
    split
    · exact h.of_view rfl
    · rename_i released
      exact resumeAll_safe (Bool.eq_false_of_not_eq_true released) (h.of_view rfl)
  · exact h

theorem holdLimitEnds_safe (m : ModelId) {s : State} (h : s.Safe) : (holdLimitEnds m s).Safe := by
  refine safe_ite ?_ h
  refine State.Safe.of_keeps (m := m) (State.Safe.of_view ?_ (raise_view _ _)) (cutModel_keeps m _)
  exact h.of_keeps (modWatch_keeps (m := m) rfl nofun)

/-! ### The commands from the spine -/

theorem nodeWrite_safe (c : Sender) (i : Byte) (r : List Byte) {s : State} (h : s.Safe) : (nodeWrite c i r s).Safe := by
  refine tableWrite_safe ?_ h
  split
  · exact writeNode_safe _ r h
  · exact h

theorem buttonWrite_safe (c : Sender) (i : Byte) (r : List Byte) {s : State} (h : s.Safe) :
    (buttonWrite c i r s).Safe := by
  refine tableWrite_safe ?_ h
  split
  · exact h.of_view (writeButton_view _ r s)
  · exact h

theorem cueWrite_safe (c : Sender) (i : Byte) (r : List Byte) {s : State} (h : s.Safe) : (cueWrite c i r s).Safe := by
  refine tableWrite_safe ?_ h
  split
  · exact h.of_view (writeCue_view _ r s)
  · exact h

theorem profileWrite_safe (c : Sender) (i : Byte) (r : List Byte) {s : State} (h : s.Safe) :
    (profileWrite c i r s).Safe := by
  refine tableWrite_safe ?_ h
  split
  · exact h.of_view (writeProfile_view _ r s)
  · exact h

theorem modelWrite_safe (c : Sender) (i : Byte) (r : List Byte) {s : State} (h : s.Safe) :
    (modelWrite c i r s).Safe := by
  refine tableWrite_safe ?_ h
  split
  · exact h.of_keeps (writeModel_keeps _ r s)
  · exact h

theorem routeWrite_safe (c : Sender) (i : Byte) (r : List Byte) {s : State} (h : s.Safe) :
    (routeWrite c i r s).Safe := by
  refine tableWrite_safe ?_ h
  split
  · exact writeRoute_safe _ r h
  · exact h

theorem patternWrite_safe (c : Sender) (i : Byte) (r : List Byte) {s : State} (h : s.Safe) :
    (patternWrite c i r s).Safe := by
  refine tableWrite_safe ?_ h
  split
  · exact h.of_view (writePattern_view _ r s)
  · exact h

theorem settingsWrite_safe (c : Sender) (i : Byte) (r : List Byte) {s : State} (h : s.Safe) :
    (settingsWrite c i r s).Safe :=
  tableWrite_safe (h.of_view (writeSettings_view r s)) h

theorem badTable_safe (c : Sender) (p : List Byte) {s : State} (h : s.Safe) : (badTable c p s).Safe := by
  unfold badTable
  split
  · exact answered_safe h h
  · exact h

theorem tableRead_safe (c : Sender) (p : List Byte) {s : State} (h : s.Safe) : (tableRead c p s).Safe :=
  answered_safe h h

theorem enable_safe (c : Sender) (a : List Byte) {s : State} (h : s.Safe) : (enable c a s).Safe :=
  modelCommand_safe (fun m => enableModel_safe m h) h

theorem disable_safe (c : Sender) (a : List Byte) {s : State} (h : s.Safe) : (disable c a s).Safe :=
  modelCommand_safe (fun m => disableModel_safe m h) h

theorem commit_safe (c : Sender) (a : List Byte) {s : State} (h : s.Safe) : (commit c a s).Safe :=
  modelCommand_safe (fun m => h.of_keeps (commitModel_keeps m s)) h

theorem cueStart_safe (c : Sender) (a : List Byte) {s : State} (h : s.Safe) : (cueStart c a s).Safe :=
  control_safe (startNow_safe a h) h

theorem cueStartScheduled_safe (c : Sender) (a : List Byte) {s : State} (h : s.Safe) :
    (cueStartScheduled c a s).Safe := control_safe (startLater_safe a h) h

theorem cueStop_safe (c : Sender) (a : List Byte) {s : State} (h : s.Safe) : (cueStop c a s).Safe :=
  modelCommand_safe (fun m => h.of_keeps (stopCue_keeps m s)) h

theorem modeChange_safe (c : Sender) (a : List Byte) {s : State} (h : s.Safe) : (modeChange c a s).Safe :=
  control_safe (modeArgs_safe a h) h

theorem showSync_safe (c : Sender) (a : List Byte) {s : State} (h : s.Safe) : (showSync c a s).Safe :=
  control_safe (syncArgs_safe a h) h

theorem clearFault_safe (c : Sender) (a : List Byte) {s : State} (h : s.Safe) : (clearFault c a s).Safe :=
  control_safe (clearArgs_safe a h) h

theorem resume_safe (c : Sender) (a : List Byte) {s : State} (h : s.Safe) : (resume c a s).Safe :=
  control_safe (resumeArgs_safe a h) h

theorem statusQuery_safe (c : Sender) (a : List Byte) {s : State} (h : s.Safe) : (statusQuery c a s).Safe :=
  answered_safe h h

theorem statusQueryClear_safe (c : Sender) (a : List Byte) {s : State} (h : s.Safe) :
    (statusQueryClear c a s).Safe :=
  answered_safe (safe_ite (h.of_view (clearCounts_view s)) h) h

theorem restart_safe (c : Sender) (a : List Byte) {s : State} (h : s.Safe) : (restart c a s).Safe :=
  safe_ite (safe_ite (restartAll_safe h) h) (safe_ite (h.of_view rfl) (safe_ite (h.of_view rfl) (h.of_view rfl)))

theorem alertAck_safe (c : Sender) (p : List Byte) {s : State} (h : s.Safe) : (alertAck c p s).Safe :=
  answered_safe (h.of_view (ackArgs_view p s)) h

theorem badCommand_safe (c : Sender) (p : List Byte) {s : State} (h : s.Safe) : (badCommand c p s).Safe :=
  safe_ite h (control_safe h h)

/-! ### Frames -/

theorem abandon_view (p : Port) (next : Receiver) (s : State) : (abandon p next s).view = s.view := by
  unfold abandon
  split
  · rfl
  · cases p
    · exact bayError_view _
    · rfl

theorem countCheckError_view (p : Port) (s : State) : (countCheckError p s).view = s.view := by
  cases p
  · exact bayError_view _
  · rfl

theorem receive_safe {p : Port} {classify : Frame → State → State} (keeps : ∀ f t, t.Safe → (classify f t).Safe)
    (f : Frame) {s : State} (h : s.Safe) : (receive p classify f s).Safe := by
  have waiting : (setReceiver p .waiting s).Safe := h.of_view (setReceiver_view _ _ _)
  exact safe_ite h (safe_ite (h.of_view (abandon_view _ _ _))
    (safe_ite (keeps f _ (waiting.of_view (countGood_view _ _))) (waiting.of_view (countCheckError_view _ _))))

theorem handOn_safe (n : NodeId) (f : Frame) {s : State} (h : s.Safe) : (handOn n f s).Safe := by
  have taken (b : Byte) : (mirrorUp n f (markHello n b s)).Safe := h.of_view (by simp)
  have misrouted : (misroutedBay s).Safe := h.of_view rfl
  unfold handOn
  cases (s.node n).role <;> dsimp only
  case panel => exact safe_ite (takePanel_safe _ _ _ (taken _)) misrouted
  case drive =>
    refine safe_ite ?_ misrouted
    split
    · exact takeFeedback_safe _ _ (taken _)
    · exact misrouted
  case sensor => exact safe_ite (takePresence_safe _ _ (taken _)) misrouted
  all_goals exact misrouted

theorem routeBay_safe {controller : State → State} (f : Frame) {s : State} (done : (controller s).Safe) (h : s.Safe) :
    (routeBay controller f s).Safe :=
  safe_ite (h.of_view rfl) (safe_ite done (safe_ite (h.of_view (forwardDown_view _ _))
    (safe_ite (h.of_view (forwardUp_view _ _)) (h.of_view rfl))))

theorem classifyBay_safe (f : Frame) {s : State} (h : s.Safe) : (classifyBay f s).Safe := by
  unfold classifyBay
  refine safe_ite (safe_ite (ringReturn_safe h) (h.of_view rfl)) (safe_ite (h.of_view rfl) ?_)
  split
  · rename_i n _
    have heard := nodeHeard_safe n h
    exact safe_ite (h.of_view rfl) (safe_ite (heard.of_view (forwardUp_view _ _))
      (routeBay_safe f (handOn_safe n f heard) heard))
  · exact routeBay_safe f (h.of_view rfl) h

theorem dispatchWrite_safe (c : Sender) (p : List Byte) {s : State} (h : s.Safe) : (dispatchWrite c p s).Safe := by
  unfold dispatchWrite
  split
  · split
    · exact nodeWrite_safe c _ _ h
    · exact buttonWrite_safe c _ _ h
    · exact cueWrite_safe c _ _ h
    · exact profileWrite_safe c _ _ h
    · exact modelWrite_safe c _ _ h
    · exact routeWrite_safe c _ _ h
    · exact patternWrite_safe c _ _ h
    · exact settingsWrite_safe c _ _ h
  · exact badTable_safe c _ h

theorem dispatchControl_safe (c : Sender) (p : List Byte) {s : State} (h : s.Safe) : (dispatchControl c p s).Safe := by
  unfold dispatchControl
  split
  · exact badCommand_safe c _ h
  · split
    · exact enable_safe c _ h
    · exact disable_safe c _ h
    · exact commit_safe c _ h
    · exact safe_ite (cueStartScheduled_safe c _ h) (cueStart_safe c _ h)
    · exact cueStop_safe c _ h
    · exact modeChange_safe c _ h
    · exact showSync_safe c _ h
    · exact clearFault_safe c _ h
    · exact resume_safe c _ h
    · exact safe_ite (statusQueryClear_safe c _ h) (statusQuery_safe c _ h)
    · exact restart_safe c _ h
    · exact badCommand_safe c _ h

theorem classifySpine_safe (f : Frame) {s : State} (h : s.Safe) : (classifySpine f s).Safe := by
  have heard : (spineHeard s).Safe := h.of_view (spineHeard_view s)
  have misrouted : (misroutedSpine (spineHeard s)).Safe := heard.of_view rfl
  have commands : (dispatchCommand f (spineHeard s)).Safe :=
    safe_ite (dispatchWrite_safe _ _ heard) (safe_ite (tableRead_safe _ _ heard)
      (safe_ite (dispatchControl_safe _ _ heard) (safe_ite (alertAck_safe _ _ heard) misrouted)))
  exact safe_ite misrouted (safe_ite (safe_ite commands
    (safe_ite (heard.of_view (forwardDown_view _ _)) misrouted)) misrouted)

/-! ### Time -/

/-- The view of a model a millisecond later. -/
theorem tick_view (s : State) (m : ModelId) : (tick s).view m = { s.view m with
    model := { s.model m with pauseTimer := countDown (s.model m).pauseTimer }
    holdTimer := countDown (s.watch m).holdTimer } := by
  have model : (tick s).model m = { s.model m with pauseTimer := countDown (s.model m).pauseTimer } :=
    tget_map _ _ m
  have watch : (tick s).watch m = { s.watch m with
      holdTimer := countDown (s.watch m).holdTimer, driveSilence := countDown (s.watch m).driveSilence } :=
    tget_map _ _ m
  have zones : (tick s).maskOccupied = s.maskOccupied := funext fun mask => maskOccupied_congr fun z _ => by
    have zone : tget (tick s).sup.zones z =
        { tget s.sup.zones z with settle := countDown (tget s.sup.zones z).settle } :=
      tget_map _ _ z
    simp only [State.zoneOccupied, zone]
  simp only [State.view, model, watch, zones]
  rfl

theorem countDown_isSome (t : Timer) : (countDown t).isSome = t.isSome := by simp [countDown]

theorem tick_safe {s : State} (h : s.Safe) : (tick s).Safe := fun m => by
  rw [tick_view]
  exact (h m).of_posture (by simp [Model.posture, countDown_isSome, State.view])
    fun runs => by rw [countDown_isSome] at runs; exact runs

theorem idle_safe {s : State} (h : s.Safe) : (idle s).Safe :=
  safe_ite ((tick_safe h).of_view (takeUp_view _)) h

/-! ### Steps -/

/-- An outcome whose next state, if there is one, is safe. -/
def SafeOutcome (o : Outcome) : Prop := ∀ t, o = .next t → t.Safe

theorem safe_next {t : State} (h : t.Safe) : SafeOutcome (.next t) := fun _ e => Host.Outcome.next.inj e ▸ h

theorem act_safe {op : State → State} {s : State} (done : (op s).Safe) (h : s.Safe) : SafeOutcome (act op s) :=
  safe_next (safe_ite (done.of_view (settle_view (op s))) h)

theorem actOutOfReset_safe {op : State → State} {s : State} (done : (op s).Safe) (h : s.Safe) :
    SafeOutcome (actOutOfReset op s) := safe_next (safe_ite (done.of_view (settle_view (op s))) h)

theorem actAlways_safe {op : State → State} {s : State} (done : (op s).Safe) : SafeOutcome (actAlways op s) :=
  safe_next (done.of_view (settle_view (op s)))

theorem exec_safe (i : Instr) {s : State} (h : s.Safe) : SafeOutcome (exec i s) := by
  cases i with
  | hardReset b r stop ack => exact actAlways_safe (hardReset_safe b r stop ack s)
  | softReset stop ack =>
    rw [exec_softReset]
    refine act_safe ?_ h
    exact softReset_safe _
  | stopKeyAsserted => exact actOutOfReset_safe (stopAsserts_safe h) h
  | stopKeyReleased => exact act_safe (stopReleases_safe h) h
  | ackKeyPressed => exact act_safe (h.of_view (ackPressed_view s)) h
  | ackKeyLetGo => exact act_safe (h.of_view (ackLetGo_view s)) h
  | ackPressTimerExpiry => exact act_safe (ackHeld_safe h) h
  | receiverGapTimeout p => exact act_safe (h.of_view (abandon_view p _ s)) h
  | framingError p => exact act_safe (h.of_view (abandon_view p _ s)) h
  | receiverIdleTimeout p => exact act_safe (h.of_view (lineIdle_view p s)) h
  | bayFrameReceived f => exact act_safe (receive_safe (fun f _ => classifyBay_safe f) f h) h
  | panel n d hello => exact act_safe (takePanel_safe n d hello h) h
  | feedback n entries => exact act_safe (takeFeedback_safe n entries h) h
  | presence n occupied => exact act_safe (takePresence_safe n occupied h) h
  | ringCheckReturn => exact act_safe (ringReturn_safe h) h
  | spineFrameReceived f => exact act_safe (receive_safe (fun f _ => classifySpine_safe f) f h) h
  | nodeWrite c i r => exact act_safe (nodeWrite_safe c i r h) h
  | buttonWrite c i r => exact act_safe (buttonWrite_safe c i r h) h
  | cueWrite c i r => exact act_safe (cueWrite_safe c i r h) h
  | profileWrite c i r => exact act_safe (profileWrite_safe c i r h) h
  | modelWrite c i r => exact act_safe (modelWrite_safe c i r h) h
  | routeWrite c i r => exact act_safe (routeWrite_safe c i r h) h
  | patternWrite c i r => exact act_safe (patternWrite_safe c i r h) h
  | settingsWrite c i r => exact act_safe (settingsWrite_safe c i r h) h
  | badTable c p => exact act_safe (badTable_safe c p h) h
  | tableRead c p => exact act_safe (tableRead_safe c p h) h
  | enable c a => exact act_safe (enable_safe c a h) h
  | disable c a => exact act_safe (disable_safe c a h) h
  | commit c a => exact act_safe (commit_safe c a h) h
  | cueStart c a => exact act_safe (cueStart_safe c a h) h
  | cueStartScheduled c a => exact act_safe (cueStartScheduled_safe c a h) h
  | cueStop c a => exact act_safe (cueStop_safe c a h) h
  | mode c a => exact act_safe (modeChange_safe c a h) h
  | showSync c a => exact act_safe (showSync_safe c a h) h
  | clearFault c a => exact act_safe (clearFault_safe c a h) h
  | resume c a => exact act_safe (resume_safe c a h) h
  | statusQuery c a => exact act_safe (statusQuery_safe c a h) h
  | statusQueryClear c a => exact act_safe (statusQueryClear_safe c a h) h
  | restart c a => exact act_safe (restart_safe c a h) h
  | alertAck c p => exact act_safe (alertAck_safe c p h) h
  | bayOutFrameSent => exact act_safe (h.of_view (bayLeft_view s)) h
  | spineOutFrameSent => exact act_safe (spineLeft_safe h) h
  | sampleTimerExpiry => exact act_safe (sampleExpiry_safe h) h
  | modelFreeNotice m => exact actOutOfReset_safe (takeFreeNotice_safe m h) h
  | scheduleEntryDue => exact act_safe (nextDue_safe h) h
  | lateCountdownExpiry m => exact act_safe (h.of_view (lateExpires_view m s)) h
  | pauseWindowExpiry m => exact act_safe (h.of_keeps (pauseWindowEnds_keeps m s)) h
  | holdLimitExpiry m => exact act_safe (holdLimitEnds_safe m h) h
  | stuckTimerExpiry k => exact act_safe (h.of_view (stuckExpires_view k s)) h
  | lockoutEnd k => exact act_safe (h.of_view (lockoutEnds_view k s)) h
  | requestExpiry m k => exact act_safe (h.of_view (requestExpires_view m k s)) h
  | refreshTimerExpiry n => exact act_safe (h.of_view (refreshEnds_view n s)) h
  | nodeSilenceExpiry n => exact act_safe (nodeSilenceEnds_safe n h) h
  | driveSilenceExpiry m => exact act_safe (driveSilenceEnds_safe m h) h
  | zoneSettleExpiry z => exact act_safe (settleEnds_safe z h) h
  | spineSilenceExpiry => exact act_safe (h.of_view (spineSilenceEnds_view s)) h
  | ringCheckTimerExpiry => exact act_safe (h.of_view (ringTimerEnds_view s)) h
  | ringCheckMiss => exact act_safe (ringMiss_safe h) h
  | bayCheckWindowEnd => exact act_safe (h.of_view (windowEnds_view s)) h
  | escalationDeadlineExpiry n => exact act_safe (h.of_view (escalate_view n.toNat s)) h
  | beaconPhaseEnd =>
    rw [exec_beaconPhaseEnd]
    refine act_safe ?_ h
    exact h.of_view (State.onAlert_view s _)
  | dozeTimerExpiry => exact act_safe (dozeEnds_safe h) h
  | wakeLimitExpiry => exact act_safe (wakeLimitEnds_safe h) h
  | resetNLow =>
    rw [exec_resetNLow]
    refine actAlways_safe ?_
    exact hardResetHolds_safe _
  | clkStop =>
    rw [exec_clkStop]
    refine actAlways_safe ?_
    exact h.of_view (State.onPins_view s _)
  | clkResume =>
    rw [exec_clkResume]
    exact actAlways_safe (clkResumes_safe h)
  | badCommand c p => exact act_safe (badCommand_safe c p h) h

/-- Every step keeps every model safe. -/
theorem step_safe {s t : State} (h : s.Safe) (run : step s = .next t) : t.Safe := by
  unfold step at run
  split at run
  · exact exec_safe _ (h.of_view (State.withPending_view s _)) t run
  · cases run
    exact idle_safe h

/-- Settles O55: the invariant of each model's view is kept by every operation that touches the view, and every step is
a command's operation or a millisecond. -/
theorem stepKeepsMotionSafe : Obligations.StepKeepsMotionSafe := fun s t agrees moves run =>
  t.safe_iff.mp (step_safe (s.safe_iff.mpr ⟨agrees, moves⟩) run)

end Sys2Proof.Machine

/-! ## Commands to one model: their answers, and what each operation reads and leaves -/

namespace Sys2Proof.Machine

/-! ### Reads after the updates of another table -/

@[simp] theorem State.modWatch_model (s : State) (m k : ModelId) (f : Watch → Watch) :
    (s.modWatch m f).model k = s.model k := rfl
@[simp] theorem State.modWatch_marks (s : State) (m : ModelId) (f : Watch → Watch) (id : FaultId) :
    (s.modWatch m f).marks id = s.marks id := rfl
@[simp] theorem State.modWatch_waits (s : State) (m k : ModelId) (f : Watch → Watch) :
    (s.modWatch m f).waits k = s.waits k := rfl
@[simp] theorem State.modModel_watch (s : State) (m k : ModelId) (f : Model → Model) :
    (s.modModel m f).watch k = s.watch k := rfl
@[simp] theorem State.modModel_marks (s : State) (m : ModelId) (f : Model → Model) (id : FaultId) :
    (s.modModel m f).marks id = s.marks id := rfl
@[simp] theorem State.modModel_waits (s : State) (m k : ModelId) (f : Model → Model) :
    (s.modModel m f).waits k = s.waits k := rfl
@[simp] theorem State.modMarks_model (s : State) (id : FaultId) (m : ModelId) (f : Marks → Marks) :
    (s.modMarks id f).model m = s.model m := rfl
@[simp] theorem State.modMarks_watch (s : State) (id : FaultId) (m : ModelId) (f : Marks → Marks) :
    (s.modMarks id f).watch m = s.watch m := rfl
@[simp] theorem State.modMarks_waits (s : State) (id : FaultId) (m : ModelId) (f : Marks → Marks) :
    (s.modMarks id f).waits m = s.waits m := rfl

@[simp] theorem quench_model (id : FaultId) (m : ModelId) (s : State) : (quench id s).model m = s.model m := rfl
@[simp] theorem quench_watch (id : FaultId) (m : ModelId) (s : State) : (quench id s).watch m = s.watch m := rfl
@[simp] theorem quench_waits (id : FaultId) (m : ModelId) (s : State) : (quench id s).waits m = s.waits m := rfl
@[simp] theorem quench_press (id : FaultId) (s : State) : (quench id s).press = s.press := rfl
@[simp] theorem quench_motion (id : FaultId) (s : State) : (quench id s).motion = s.motion := rfl
@[simp] theorem quench_alert (id : FaultId) (s : State) : (quench id s).alert = s.alert := rfl
@[simp] theorem quench_gallery (id : FaultId) (s : State) : (quench id s).gallery = s.gallery := rfl
@[simp] theorem quench_zones (id : FaultId) (s : State) : (quench id s).sup.zones = s.sup.zones := rfl

theorem quench_marks (id k : FaultId) (s : State) : (quench id s).marks k =
    if k = id then { s.marks id with underlying := false, active := false } else s.marks k :=
  State.modMarks_marks s id k _

/-- A change of a model keeps the schedule list. -/
@[simp] theorem changeModel_schedule (m : ModelId) (f : Model → Model) (s : State) :
    (changeModel m f s).motion.schedule = s.motion.schedule := by rw [changeModel_motion]

/-- A change of a model keeps the zones. -/
@[simp] theorem changeModel_zones (m : ModelId) (f : Model → Model) (s : State) :
    (changeModel m f s).sup.zones = s.sup.zones := by rw [changeModel_sup]

/-- A change of a model keeps which masks are occupied. -/
@[simp] theorem changeModel_maskOccupied (m : ModelId) (f : Model → Model) (s : State) (mask : BitVec 8) :
    (changeModel m f s).maskOccupied mask = s.maskOccupied mask :=
  congrFun (changeModel_alters m f s).occupied mask

/-- R157: outside WAKING the end-of-wake test does nothing. -/
theorem endWakeTest_of_awake {s : State} (h : s.gallery ≠ .waking) : endWakeTest s = s :=
  if_neg fun waking => h waking.1

/-! ### A change that the other blocks hardly see -/

/-- A change that neither takes a model out of service nor into ENABLING, and leaves it in or out of a zone hold, is
seen by Mode Control only. -/
theorem changeModel_of_kept {m : ModelId} {f : Model → Model} {s : State}
    (hold : (f (s.model m)).zoneHeld = (s.model m).zoneHeld) (kept : (f (s.model m)).state.outOfService = false)
    (entered : (f (s.model m)).state ≠ .enabling) :
    changeModel m f s = syncQuiet (s.model m) (f (s.model m)) (s.modModel m f) := by
  have limit : syncHoldLimit m (s.model m) (f (s.model m)) (s.modModel m f) = s.modModel m f := by
    unfold syncHoldLimit
    rw [hold]
    cases (s.model m).zoneHeld <;> rfl
  have drive (t : State) : syncDriveWatch m (s.model m) (f (s.model m)) t = t := by simp [syncDriveWatch, entered]
  have out (t : State) : syncOutOfService m (s.model m) (f (s.model m)) t = t := by simp [syncOutOfService, kept]
  have whole : changeModel m f s = syncQuiet (s.model m) (f (s.model m)) (syncOutOfService m (s.model m)
      (f (s.model m)) (syncDriveWatch m (s.model m) (f (s.model m))
        (syncHoldLimit m (s.model m) (f (s.model m)) (s.modModel m f)))) := rfl
  rw [whole, limit, drive, out]

/-- R154: changes between states other than IDLE and DISABLED are not tested for quiet. -/
theorem syncQuiet_of_busy {old new : Model} (s : State) (before : old.state ≠ .idle ∧ old.state ≠ .disabled)
    (after : new.state ≠ .idle ∧ new.state ≠ .disabled) : syncQuiet old new s = s := by
  simp [syncQuiet, before, after]

/-! ### Commands that are carried out -/

theorem State.running_of_carriesOut {s : State} {c : Sender} (h : s.carriesOut c = true) : s.running = true := by
  simp only [State.carriesOut, Bool.and_eq_true] at h
  exact h.1

/-- R171, R182: a command that is carried out is answered. -/
theorem answered_of_carriesOut {c : Sender} {s : State} (h : s.carriesOut c = true) (body : State → State × Answer) :
    answered c body s = (body s).1.answeredWith c (body s).2 := by
  simp only [State.carriesOut, Bool.and_eq_true, Bool.or_eq_true, Bool.not_eq_true'] at h
  unfold answered State.answeredWith
  cases all : c.all
  · have room : s.replyFull = false := h.2.resolve_left (by simp [all])
    simp [room]
  · simp

theorem act_control {code : Byte} {c : Sender} {body : State → State × Verdict16} {s t : State} {r : Result} {d : Half}
    (h : s.carriesOut c = true) (done : body s = (t, (r, d))) :
    act (control code c body) s = .next (settle (t.answeredWith c (controlReply code r d))) := by
  rw [act_of_running (State.running_of_carriesOut h), control, answered_of_carriesOut h, done]
  rfl

theorem indexBelow_of_fin {n : Nat} (i : Fin n) : indexBelow n i.val = some i := by simp [indexBelow]

/-- A model's number fits a byte. -/
theorem byteOf_toNat {n : Nat} (h : n < 256) : (byteOf n).toNat = n := by
  simp [byteOf, Nat.mod_eq_of_lt h]

theorem byteOf_of_toNat (b : Byte) : byteOf b.toNat = b := by simp [byteOf]

theorem modelOf_byte (m : ModelId) : indexBelow 12 (byteOf m.val).toNat = some m := by
  rw [byteOf_toNat (by omega), indexBelow_of_fin]

/-- R181: a sub-command that names a model. -/
theorem act_modelCommand {code : Byte} {c : Sender} {m : ModelId} {body : ModelId → State → State × Verdict16}
    {s t : State} {r : Result} {d : Half} (h : s.carriesOut c = true) (done : body m s = (t, (r, d))) :
    act (modelCommand code c [byteOf m.val] body) s = .next (settle (t.answeredWith c (controlReply code r d))) :=
  act_control h (by simp only [modelOf_byte, done])

/-- R181: a sub-command whose argument is no model. -/
theorem act_modelCommand_bad {code : Byte} {c : Sender} {args : List Byte}
    {body : ModelId → State → State × Verdict16} {s : State} (h : s.carriesOut c = true)
    (bad : ∀ k : ModelId, args ≠ [byteOf k.val]) :
    act (modelCommand code c args body) s = .next (settle (s.answeredWith c (controlReply code .badField 0))) := by
  refine act_control h ?_
  split
  · rename_i a
    have none : indexBelow 12 a.toNat = none := by
      unfold indexBelow
      refine dif_neg fun lt => bad ⟨a.toNat, lt⟩ ?_
      rw [byteOf_of_toNat]
    rw [none]
    rfl
  · rfl

end Sys2Proof.Machine

/-! ## Cuts and starts -/

namespace Sys2Proof.Machine

/-! ### Cuts (R10, R13, R58, R94) -/

theorem cut_eq_asCut (x : Model) : x.cut = x.asCut := by
  unfold Model.cut Model.asCut
  cases hs : x.state <;> simp only [Model.dropCue, hs]

/-- R10: a cut of a cue in play changes that model only. -/
theorem cutModel_of_inPlay {m : ModelId} {s : State} (h : (s.model m).state = .running ∨ (s.model m).state = .holding) :
    cutModel m s = s.modModel m Model.cut := by
  have kept : ((s.model m).cut.state = .returning ∨ (s.model m).cut.state = .holding) ∧
      (s.model m).cut.zoneHeld = (s.model m).zoneHeld := by
    unfold Model.cut Model.zoneHeld
    rcases h with e | e <;> simp only [e, Model.dropCue]
    · exact ⟨.inl trivial, rfl⟩
    · cases hz : (s.model m).holdZone <;> simp
  obtain ⟨after, hold⟩ := kept
  rw [cutModel, changeModel_of_kept hold (by rcases after with e | e <;> simp [e, ModelState.outOfService])
    (by rcases after with e | e <;> simp [e])]
  exact syncQuiet_of_busy _ (by rcases h with e | e <;> simp [e]) (by rcases after with e | e <;> simp [e])

theorem inPlay_iff (x : Model) :
    x.inPlay = true ↔ x.state = .running ∨ (x.state = .holding ∧ x.target = some .cue) := by
  simp [Model.inPlay]

/-- The part with the cue of one model cut. -/
theorem modModel_cut (s : State) (m : ModelId) : s.modModel m Model.cut =
    { s with motion := { s.motion with models := tput s.motion.models m (s.model m).asCut } } := by
  rw [← cut_eq_asCut]; rfl

/-- R13: the end of a pause window cuts the cue, as it is paused. -/
theorem pauseWindowEnds_of_holding {m : ModelId} {s : State} (timer : (s.model m).pauseTimer.isSome = true)
    (holding : (s.model m).state = .holding) : pauseWindowEnds m s = s.modModel m Model.cut := by
  have same : ({ s.model m with holdPause := false, pauseTimer := none } : Model).cut = (s.model m).cut := by
    simp only [Model.cut, holding, Model.dropCue]
  have ends : pauseWindowEnds m s =
      changeModel m (fun x => ({ x with holdPause := false, pauseTimer := none } : Model).cut) s := if_pos timer
  have cut : cutModel m s = changeModel m Model.cut s := rfl
  rw [ends, ← cutModel_of_inPlay (.inr holding), cut]
  unfold changeModel
  simp only [same]

/-- R94: the hold limit raises HOLD_LIMIT and cuts the cue. -/
theorem holdLimitEnds_of_holding {m : ModelId} {s : State} (timer : (s.watch m).holdTimer.isSome = true)
    (holding : (s.model m).state = .holding) : holdLimitEnds m s = { raise (.holdLimit m) s with
      motion := (s.modModel m Model.cut).motion
      sup := { s.sup with watch := tput s.sup.watch m { s.watch m with holdTimer := none } } } := by
  generalize ht : (s.modWatch m fun w => { w with holdTimer := none }) = t
  have ends : holdLimitEnds m s = cutModel m (raise (.holdLimit m) t) := (if_pos timer).trans (by rw [ht])
  have alert : (raise (.holdLimit m) t).alert = (raise (.holdLimit m) s).alert :=
    raise_alert_congr _ (by rw [← ht]; rfl) (by rw [← ht]; rfl)
  have model : (raise (.holdLimit m) t).model m = s.model m := by rw [raise_eq, ← ht]; rfl
  rw [ends, cutModel_of_inPlay (.inr (by rw [model, holding])), raise_eq, alert, raise_eq (.holdLimit m) s, ← ht]
  rfl

/-- Settles O39: a cut changes the model's record alone, and each of the three commands is a cut or nothing. -/
theorem cutsEndTheCue : Obligations.CutsEndTheCue := by
  intro m s
  dsimp only
  rw [← modModel_cut]
  refine ⟨fun c carried => ⟨fun playing => ?_, fun still => ?_, fun args bad => ?_⟩, fun running stopped => ?_,
    fun running timer holding => ?_, fun running stopped => ?_, fun running timer holding zone => ?_⟩
  · have inPlay : (s.model m).inPlay = true := (inPlay_iff _).mpr playing
    exact act_modelCommand (body := stopCue) carried
      (by rw [stopCue, if_pos inPlay, cutModel_of_inPlay (playing.imp_right And.left)])
  · have inPlay : ¬ (s.model m).inPlay = true := fun h => still ((inPlay_iff _).mp h)
    exact act_modelCommand (body := stopCue) carried (by rw [stopCue, if_neg inPlay])
  · exact act_modelCommand_bad (body := stopCue) carried bad
  · rw [exec_pauseWindowExpiry, act_of_running running, pauseWindowEnds, if_neg (by simp [stopped])]
  · rw [exec_pauseWindowExpiry, act_of_running running, pauseWindowEnds_of_holding timer holding]
  · rw [exec_holdLimitExpiry, act_of_running running, holdLimitEnds, if_neg (by simp [stopped])]
  · rw [exec_holdLimitExpiry, act_of_running running, holdLimitEnds_of_holding timer holding, modModel_cut]

/-! ### Starts (R5, R6, R33) -/

theorem modeAllows_control (g : GalleryMode) : modeAllows g .control = true ↔ g = .opened ∨ g = .service := by
  cases g <;> simp [modeAllows]

theorem cueValid_iff (s : State) (c : CueId) : s.cueValid c = true ↔
    ∃ u, s.cue c = some u ∧ ∀ p, CueStep.play p ∈ u.steps → (s.profile p).isSome = true := by
  unfold State.cueValid
  cases s.cue c with
  | none => simp
  | some u =>
    simp only [Option.any_some, List.all_eq_true, Option.some.injEq, exists_eq_left']
    constructor
    · exact fun h p member => h _ member
    · intro h step member
      cases step with
      | play p => exact h p member
      | dwell n => rfl

/-- R154: a bay with a model that is neither DISABLED nor IDLE is not quiet. -/
theorem not_quiet_of_busy {s : State} {m : ModelId} (h : (s.model m).state ≠ .disabled ∧ (s.model m).state ≠ .idle) :
    s.quiet = false := by
  have busy : (allModels.all fun m => (s.model m).state == .disabled || (s.model m).state == .idle) = false := by
    rw [List.all_eq_false]
    exact ⟨m, mem_allModels m, by simp [h]⟩
  simp [State.quiet, busy]

theorem quietTest_of_not_quiet {s : State} (h : s.quiet = false) (b : Bool) :
    quietTest b s = s.onMode fun q => { q with dozeTimer := none } := by simp [quietTest, h]

/-- R6, R33: a start of an IDLE model, for CONTROL or for a button whose start is not paused. -/
theorem startCue_of_idle {m : ModelId} {s : State} (idle : (s.model m).state = .idle) (c : CueId) (o : Owner) :
    startCue m c o false s = (s.modModel m fun x => { x with
      state := .running, owner := some o
      position := some (s.startPosition (s.model m).config c (s.model m).lastSetpoint) }).onMode
        fun q => { q with dozeTimer := none } := by
  unfold startCue
  dsimp only
  rw [changeModel_of_kept (by simp [Model.zoneHeld, idle]; rfl) rfl (by simp)]
  simp only [Bool.false_eq_true, if_false]
  unfold syncQuiet
  rw [if_neg (by simp [idle]), if_pos (by simp [idle])]
  exact quietTest_of_not_quiet (not_quiet_of_busy (m := m) (by simp)) true

/-- R51: a CUE_START that names a model and a cue. -/
theorem startNow_eq (m : ModelId) (q : CueId) (late : Byte) (s : State) :
    startNow [byteOf m.val, byteOf q.val, late] s =
      ((startRequest m q .control false s).1, ((startRequest m q .control false s).2.result, 0)) := by
  have args : cueArgs [byteOf m.val, byteOf q.val, late] = some (m, q) := by
    simp only [cueArgs, natAt, byteAt, List.getD_cons_zero, List.getD_cons_succ, modelOf_byte,
      byteOf_toNat (show q.val < 256 by omega), indexBelow_of_fin]
    rfl
  unfold startNow
  rw [if_neg (by simp), args]

theorem startNow_bad {bad : List Byte} (h : bad.length ≠ 3 ∨ 12 ≤ natAt bad 0 ∨ 32 ≤ natAt bad 1) (s : State) :
    startNow bad s = (s, badArgs) := by
  unfold startNow
  split
  · rfl
  · rename_i length
    have args : cueArgs bad = none := by
      unfold cueArgs indexBelow
      rcases h.resolve_left length with e | e
      · simp [e]
      · by_cases m : natAt bad 0 < 12 <;> simp [m, e]
    rw [args]

/-- Settles O36: the verdict by the tests of R6 in order. -/
theorem cueStartIsDecidedAtOnce : Obligations.CueStartIsDecidedAtOnce := by
  intro c m q late s carried
  dsimp only
  have decided {v : Verdict} {t : State} (e : startRequest m q .control false s = (t, v)) :
      exec (.cueStart c [byteOf m.val, byteOf q.val, late]) s =
        .next (settle (t.answeredWith c (controlReply 0x04 v.result 0))) :=
    act_control (body := startNow _) carried (by rw [startNow_eq, e])
  rw [← cueValid_iff, ← modeAllows_control]
  refine ⟨fun out => ?_, fun busy => ?_, fun idle shut => ?_, fun idle allows invalid => ?_,
    fun idle allows valid blocked => ?_, fun idle allows valid free unseen => ?_,
    fun idle allows valid free seen => ?_, fun bad h => ?_⟩
  · have v : s.verdict m q .control = .notReady := by
      rcases out with e | e | e | e <;> simp [State.verdict, e]
    exact decided (v := .notReady) (by simp [startRequest, v])
  · have v : s.verdict m q .control = .busy := by rcases busy with e | e | e <;> simp [State.verdict, e]
    exact decided (v := .busy) (by simp [startRequest, v])
  · have v : s.verdict m q .control = .mode := by simp [State.verdict, idle, shut]
    exact decided (v := .mode) (by simp [startRequest, v])
  · have v : s.verdict m q .control = .cueInvalid := by simp [State.verdict, idle, allows, invalid]
    exact decided (v := .cueInvalid) (by simp [startRequest, v])
  · have v : s.verdict m q .control = .blocked := by simp [State.verdict, idle, allows, valid, blocked]
    exact decided (v := .blocked) (by simp [startRequest, v])
  · have v : s.verdict m q .control = .ok := by simp [State.verdict, idle, allows, valid, free, unseen]
    rw [decided (v := .ok) (t := startCue m q .control false s) (by simp [startRequest, v]), startCue_of_idle idle]
    rfl
  · have v : s.verdict m q .control = .faultLatched := by
      simp [State.verdict, idle, allows, valid, free, seen]
    exact decided (v := .faultLatched) (by simp [startRequest, v])
  · exact act_control carried (startNow_bad h s)

end Sys2Proof.Machine

/-! ## Into service, out of service, and commits -/

namespace Sys2Proof.Machine

/-! ### ENABLE (R19) -/

theorem driveBound_iff (s : State) (m : ModelId) : s.driveBound m = true ↔
    ∃ n, (s.model m).config.driveNode = some n ∧ (s.node n).role = .drive := by
  unfold State.driveBound
  cases (s.model m).config.driveNode <;> simp

theorem axisTaken_iff (s : State) (m : ModelId) : s.axisTaken m = true ↔
    ∃ k, k ≠ m ∧ (s.model k).state ≠ .disabled ∧ (s.model k).config.driveNode = (s.model m).config.driveNode ∧
      (s.model k).config.axis = (s.model m).config.axis := by
  simp [State.axisTaken, mem_allModels, and_assoc]

theorem mem_modelKinds (k : ModelKind) : k ∈ modelKinds := by cases k <;> decide

theorem ModelKind.trips_iff (k : ModelKind) : k.trips = true ↔ k ≠ .loadAlarm := by cases k <;> decide

/-- R115: a model has no trip-class latch. -/
theorem noTripLatch_iff (s : State) (m : ModelId) : s.noTripLatch m = true ↔
    ¬ ∃ k : ModelKind, k ≠ .loadAlarm ∧ (s.marks (.model k m)).latched = true := by
  have held (k : ModelKind) : (!(k.trips && (s.marks (.model k m)).latched)) = true ↔
      ¬ (k ≠ .loadAlarm ∧ (s.marks (.model k m)).latched = true) := by
    rw [Bool.not_eq_true', ← Bool.not_eq_true, Bool.and_eq_true, k.trips_iff]
  simp only [State.noTripLatch, List.all_eq_true, mem_modelKinds, forall_true_left, held, not_exists]

/-- A model that enters ENABLING is left as its entry sets it up. -/
theorem settled_enable (x : Model) : x.settled x.enable = x.enable :=
  if_neg (by simp [Model.leaves, Model.enable, ModelState.outOfService])

/-- R19, R92: outside WAKING, entry into ENABLING changes the model, its mark and its FOLLOW condition. -/
theorem enterEnabling_of_awake {m : ModelId} {s : State} (awake : s.gallery ≠ .waking) :
    enterEnabling m s = quench (.model .follow m) ((changeModel m Model.enable s).modWatch m fun w => { w with
      maskOccupied := s.maskOccupied (s.model m).config.zoneMask, energised := false }) := by
  have config : ((changeModel m Model.enable s).model m).config = (s.model m).config := by
    rw [changeModel_model_self, settled_enable]; rfl
  unfold enterEnabling
  dsimp only
  rw [endWakeTest_of_awake, config, changeModel_maskOccupied]
  exact fun waking => awake ((changeModel_gallery m Model.enable s).symm.trans waking)

/-- Settles O33: the tests of R19 in order, and the entry into ENABLING by the parts of `changeModel`. -/
theorem enableSetsUpTheModel : Obligations.EnableSetsUpTheModel := by
  intro c m s carried
  dsimp only
  have done {t : State} {r : Result} (e : enableModel m s = (t, (r, 0))) : exec (.enable c [byteOf m.val]) s =
      .next (settle (t.answeredWith c (controlReply 0x01 r 0))) := act_modelCommand (body := enableModel) carried e
  rw [← driveBound_iff, ← axisTaken_iff]
  refine ⟨fun service => done ?_, fun disabled unbound => done ?_, fun disabled bound taken => done ?_,
    fun disabled bound untaken latched => done ?_, fun n disabled node bound untaken unlatched awake => ?_,
    fun args bad => act_modelCommand_bad (body := enableModel) carried bad⟩
  · simp [enableModel, service]
  · simp [enableModel, disabled, unbound]
  · simp [enableModel, disabled, bound, taken]
  · have latch : s.noTripLatch m ≠ true := fun h => (noTripLatch_iff s m).mp h latched
    simp [enableModel, disabled, bound, untaken, latch]
  · have clear : s.noTripLatch m = true := (noTripLatch_iff s m).mpr unlatched
    refine ⟨_, done (t := enterEnabling m s) (by simp [enableModel, disabled, bound, untaken, clear]), ?_⟩
    have enters : (s.model m).leaves (s.model m).enable = false := by
      simp [Model.leaves, Model.enable, ModelState.outOfService]
    have outer := changeModel_outer m Model.enable s
    rw [enterEnabling_of_awake awake]
    simp only [quench_model, quench_watch, quench_alert, quench_press, quench_zones, quench_gallery, quench_motion,
      State.modWatch_model, State.modWatch_watch_self, changeModel_model_self, changeModel_watch_self, settled_enable]
    refine ⟨?_, ?_, trivial, trivial, fun k other => ⟨changeModel_model_ne other _ s, ?_⟩, changeModel_alert m _ s, ?_,
      State.relay_of_outer outer, changeModel_zones m _ s, changeModel_gallery m _ s, changeModel_schedule m _ s,
      State.settings_of_outer outer⟩
    · rfl
    · simp [Model.enable, disabled, State.driveTimeout, Model.dropCue, Model.dropHold, node]
    · rw [State.modWatch_watch, if_neg other, changeModel_watch_ne other]
    · rw [State.modWatch_press, changeModel_press, enters]; rfl

/-! ### DISABLE (R21, R105, R75) -/

theorem quenchModel_marks (m : ModelId) (k : ModelKind) (s : State) :
    (quenchModel m s).marks (.model k m) = ⟨false, false, (s.marks (.model k m)).latched⟩ := by
  cases k <;> simp [quenchModel, modelKinds, quench_marks]

/-- R105: what ending a model's conditions keeps, it keeps of each of them. -/
theorem quenchModel_keeps {β : Type} (read : State → β) (keeps : ∀ id t, read (quench id t) = read t) (m : ModelId)
    (s : State) : read (quenchModel m s) = read s :=
  forEach_keeps read _ (fun k t => keeps (.model k m) t) modelKinds s

@[simp] theorem quenchModel_model (m k : ModelId) (s : State) : (quenchModel m s).model k = s.model k :=
  quenchModel_keeps (fun t => t.model k) (fun id t => quench_model id k t) m s
@[simp] theorem quenchModel_watch (m k : ModelId) (s : State) : (quenchModel m s).watch k = s.watch k :=
  quenchModel_keeps (fun t => t.watch k) (fun id t => quench_watch id k t) m s
@[simp] theorem quenchModel_press (m : ModelId) (s : State) : (quenchModel m s).press = s.press :=
  quenchModel_keeps _ quench_press m s
@[simp] theorem quenchModel_motion (m : ModelId) (s : State) : (quenchModel m s).motion = s.motion :=
  quenchModel_keeps _ quench_motion m s
@[simp] theorem quenchModel_alert (m : ModelId) (s : State) : (quenchModel m s).alert = s.alert :=
  quenchModel_keeps _ quench_alert m s
@[simp] theorem quenchModel_zones (m : ModelId) (s : State) : (quenchModel m s).sup.zones = s.sup.zones :=
  quenchModel_keeps (fun t => t.sup.zones) quench_zones m s
@[simp] theorem quenchModel_gallery (m : ModelId) (s : State) : (quenchModel m s).gallery = s.gallery :=
  quenchModel_keeps _ quench_gallery m s

/-- R52: a model's entry leaves the schedule list. -/
@[simp] theorem removeEntry_motion (m : ModelId) (s : State) : (removeEntry m s).motion =
    { s.motion with schedule := s.motion.schedule.filter fun e => e.model != m } := by simp [removeEntry]
@[simp] theorem removeEntry_press (m : ModelId) (s : State) : (removeEntry m s).press = s.press := by simp [removeEntry]
@[simp] theorem removeEntry_sup (m : ModelId) (s : State) : (removeEntry m s).sup = s.sup := by simp [removeEntry]
@[simp] theorem removeEntry_alert (m : ModelId) (s : State) : (removeEntry m s).alert = s.alert := by simp [removeEntry]
@[simp] theorem removeEntry_gallery (m : ModelId) (s : State) : (removeEntry m s).gallery = s.gallery := by
  simp only [removeEntry, quietTest_gallery]; rfl
@[simp] theorem removeEntry_model (m k : ModelId) (s : State) : (removeEntry m s).model k = s.model k := by
  simp [State.model]
@[simp] theorem removeEntry_waits (m k : ModelId) (s : State) : (removeEntry m s).waits k = s.waits k := by
  simp [State.waits]
@[simp] theorem removeEntry_watch (m k : ModelId) (s : State) : (removeEntry m s).watch k = s.watch k := by
  simp [State.watch]
@[simp] theorem removeEntry_marks (m : ModelId) (s : State) (id : FaultId) :
    (removeEntry m s).marks id = s.marks id := by simp [State.marks]

@[simp] theorem State.modWatch_gallery (s : State) (m : ModelId) (f : Watch → Watch) :
    (s.modWatch m f).gallery = s.gallery := rfl
@[simp] theorem State.modWatch_zones (s : State) (m : ModelId) (f : Watch → Watch) :
    (s.modWatch m f).sup.zones = s.sup.zones := rfl

/-- R21: a model out of service, with its conditions ended and its watch record cleared. -/
def State.disabled (m : ModelId) (s : State) : State :=
  removeEntry m ((quenchModel m (changeModel m Model.disable s)).modWatch m fun w =>
    { w with maskOccupied := false, driveSilence := none })

/-- R21: outside WAKING, DISABLE takes a model in service out of it. -/
theorem disableModel_of_awake {m : ModelId} {s : State} (service : (s.model m).state ≠ .disabled)
    (awake : s.gallery ≠ .waking) : disableModel m s = (s.disabled m, (.ok, 0)) := by
  have mode : (s.disabled m).gallery = s.gallery := by
    rw [State.disabled, removeEntry_gallery, State.modWatch_gallery, quenchModel_gallery, changeModel_gallery]
  have ends : disableModel m s = (endWakeTest (s.disabled m), (.ok, 0)) := if_neg service
  rw [ends, endWakeTest_of_awake (mode ▸ awake)]

theorem leaves_disable {x : Model} (service : x.state ≠ .disabled) : x.leaves x.disable = true := by
  simp [Model.leaves, Model.disable, ModelState.outOfService, Ne.symm service]

theorem settled_disable {x : Model} (service : x.state ≠ .disabled) :
    x.settled x.disable = { x.disable with run := 0 } := if_pos (leaves_disable service)

/-- R75: a model that goes out of service loses its waiting requests, each counted flushed. -/
theorem disabled_press {m : ModelId} {s : State} (service : (s.model m).state ≠ .disabled) :
    (s.disabled m).press = (flushList m s).press := by
  simp [State.disabled, changeModel_press, leaves_disable service]

/-- Settles O34: DISABLE by the parts of `changeModel`, the conditions and the schedule list after it. -/
theorem disableTakesTheModelOutOfService : Obligations.DisableTakesTheModelOutOfService := by
  intro c m s carried
  dsimp only
  have done {t : State} {r : Result} (e : disableModel m s = (t, (r, 0))) : exec (.disable c [byteOf m.val]) s =
      .next (settle (t.answeredWith c (controlReply 0x02 r 0))) := act_modelCommand (body := disableModel) carried e
  refine ⟨fun disabled => done (if_pos disabled), fun service awake => ?_,
    fun args bad => act_modelCommand_bad (body := disableModel) carried bad⟩
  have press : (s.disabled m).press = (flushList m s).press := disabled_press service
  have waits (k : ModelId) : (s.disabled m).waits k = if k = m then [] else s.waits k :=
    (congrArg (fun p : PressArbiter => tget p.waits k) press).trans (flushList_waits m k s)
  have outer : (s.disabled m).outer = s.outer := by
    rw [State.disabled, removeEntry_outer, State.modWatch_outer, quenchModel_outer, changeModel_outer]
  refine ⟨s.disabled m, done (disableModel_of_awake service awake), ?_, by simp [waits], ?_, by simp [State.disabled],
    fun k => ?_, ?_, fun k other => ⟨?_, ?_, by simp [waits, other]⟩, by simp [State.disabled],
    State.relay_of_outer outer, ?_, by simp [State.disabled], by simp [State.disabled], State.settings_of_outer outer⟩
  · have left : (s.disabled m).model m = (s.model m).settled (s.model m).disable := by
      simp [State.disabled, changeModel_model_self]
    rw [left, settled_disable service]
    rfl
  · rw [press, flushList_press]; rfl
  · simp only [State.disabled, removeEntry_marks, State.modWatch_marks, quenchModel_marks, changeModel_marks]
    split <;> rfl
  · have timer : (s.model m).holdTimerAfter (s.model m).disable (s.watch m).holdTimer =
        if (s.model m).zoneHeld then none else (s.watch m).holdTimer := by
      have free : (s.model m).disable.zoneHeld = false := rfl
      simp [Model.holdTimerAfter, free]
    simp [State.disabled, changeModel_watch_self, timer]
  · simp [State.disabled, changeModel_model_ne other]
  · simp [State.disabled, State.modWatch_watch, changeModel_watch_ne other, other]
  · rw [press, flushList_press]

end Sys2Proof.Machine

/-! ## COMMIT (R23, R75) -/

namespace Sys2Proof.Machine

/-! ### A list cut to its depth -/

theorem trimList_press (m : ModelId) (d : Nat) (s : State) : (trimList m d s).press = { s.press with
    waits := tput s.press.waits m ((s.waits m).take d)
    tallies := { s.press.tallies with flushed := addTally ((s.waits m).length - d) s.press.tallies.flushed } } := by
  simp [trimList, State.setWaits, State.onTallies]

@[simp] theorem trimList_motion (m : ModelId) (d : Nat) (s : State) : (trimList m d s).motion = s.motion := by
  simp [trimList]
@[simp] theorem trimList_sup (m : ModelId) (d : Nat) (s : State) : (trimList m d s).sup = s.sup := by simp [trimList]
@[simp] theorem trimList_alert (m : ModelId) (d : Nat) (s : State) : (trimList m d s).alert = s.alert := by
  simp [trimList]
@[simp] theorem trimList_gallery (m : ModelId) (d : Nat) (s : State) : (trimList m d s).gallery = s.gallery := by
  simp only [trimList, quietTest_gallery]; rfl

/-! ### The staged fields become the configured ones -/

theorem applyFields_press (m : ModelId) (c : ModelConfig) (s : State) : (applyFields m c s).press = { s.press with
    waits := tput s.press.waits m ((s.waits m).take c.waitDepth)
    tallies := { s.press.tallies with
      flushed := addTally ((s.waits m).length - c.waitDepth) s.press.tallies.flushed } } :=
  trimList_press m c.waitDepth _

theorem applyFields_waits (m k : ModelId) (c : ModelConfig) (s : State) :
    (applyFields m c s).waits k = if k = m then (s.waits m).take c.waitDepth else s.waits k := by
  rw [State.waits, applyFields_press, tget_tput]
  rfl

@[simp] theorem applyFields_motion (m : ModelId) (c : ModelConfig) (s : State) :
    (applyFields m c s).motion = (s.modModel m fun x => { x with config := c, staged := none, run := 0 }).motion :=
  trimList_motion m c.waitDepth _

theorem applyFields_model (m k : ModelId) (c : ModelConfig) (s : State) : (applyFields m c s).model k =
    if k = m then { s.model m with config := c, staged := none, run := 0 } else s.model k := by
  rw [State.model, applyFields_motion]
  exact State.modModel_model s m k _

@[simp] theorem applyFields_sup (m : ModelId) (c : ModelConfig) (s : State) :
    (applyFields m c s).sup = (quench (.model .follow m) s).sup := trimList_sup m c.waitDepth _
@[simp] theorem applyFields_alert (m : ModelId) (c : ModelConfig) (s : State) :
    (applyFields m c s).alert = s.alert := trimList_alert m c.waitDepth _
@[simp] theorem applyFields_gallery (m : ModelId) (c : ModelConfig) (s : State) :
    (applyFields m c s).gallery = s.gallery := trimList_gallery m c.waitDepth _
@[simp] theorem applyFields_watch (m k : ModelId) (c : ModelConfig) (s : State) :
    (applyFields m c s).watch k = s.watch k := by
  rw [State.watch, applyFields_sup]
  rfl
@[simp] theorem applyFields_maskOccupied (m : ModelId) (c : ModelConfig) (s : State) (mask : BitVec 8) :
    (applyFields m c s).maskOccupied mask = s.maskOccupied mask := congrFun (applyFields_alters m c s).occupied mask

/-- R92: a mask-occupied mark that is as its mask gives it sends nothing. -/
theorem updateMark_of_same {m : ModelId} {s : State}
    (same : s.maskOccupied (s.model m).config.zoneMask = (s.watch m).maskOccupied) : updateMark m s = s := by
  simp [updateMark, same]

theorem applyCommit_of_same {m : ModelId} {c : ModelConfig} {s : State}
    (same : s.maskOccupied c.zoneMask = (s.watch m).maskOccupied) : applyCommit m c s = applyFields m c s :=
  updateMark_of_same (by rw [applyFields_model, if_pos rfl, applyFields_maskOccupied, applyFields_watch]; exact same)

/-! ### COMMIT by its tests -/

theorem commitModel_of_none {m : ModelId} {s : State} (h : (s.model m).staged = none ∨ (s.model m).state = .disabled) :
    commitModel m s = (s, (.nothingStaged, 0)) := by
  unfold commitModel
  cases staged : (s.model m).staged with
  | none => rfl
  | some f =>
    dsimp only
    rw [h.resolve_left (by simp [staged])]

theorem commitModel_of_idle {m : ModelId} {f : ModelConfig} {s : State} (staged : (s.model m).staged = some f)
    (idle : (s.model m).state = .idle) : commitModel m s =
      if commitFits f (s.model m).lastSetpoint then (applyCommit m f s, (.ok, 0)) else (s, (.outOfRange, 0)) := by
  unfold commitModel
  rw [staged]
  dsimp only
  rw [idle]

theorem commitModel_of_busy {m : ModelId} {f : ModelConfig} {s : State} (staged : (s.model m).staged = some f)
    (service : (s.model m).state ≠ .disabled) (busy : (s.model m).state ≠ .idle) :
    commitModel m s = (s.modModel m fun x => { x with commitPending := true }, (.pending, 0)) := by
  unfold commitModel
  rw [staged]
  dsimp only
  cases state : (s.model m).state with
  | disabled => exact absurd state service
  | idle => exact absurd state busy
  | enabling | running | holding | returning | stopped | faulted => rfl

/-- Settles O35: the tests of R23 in order, and the fields applied with the list cut to the new depth. -/
theorem commitAppliesAtIdle : Obligations.CommitAppliesAtIdle := by
  intro c m f s carried
  dsimp only
  have done {t : State} {r : Result} (e : commitModel m s = (t, (r, 0))) : exec (.commit c [byteOf m.val]) s =
      .next (settle (t.answeredWith c (controlReply 0x03 r 0))) := act_modelCommand (body := commitModel) carried e
  refine ⟨fun none => done (commitModel_of_none none), fun staged idle out => done ?_,
    fun staged service busy => done (commitModel_of_busy staged service busy), fun staged idle fits same => ?_,
    fun args bad => act_modelCommand_bad (body := commitModel) carried bad⟩
  · rw [commitModel_of_idle staged idle, if_neg (by simpa [commitFits] using out)]
  · have applied : commitModel m s = (applyFields m f s, (.ok, 0)) := by
      rw [commitModel_of_idle staged idle, if_pos (by simpa [commitFits] using fits), applyCommit_of_same same]
    have outer := applyFields_outer m f s
    refine ⟨_, done applied, ?_, ?_, by rw [applyFields_press]; rfl, fun k other => ⟨?_, ?_⟩, applyFields_alert m f s,
      State.relay_of_outer outer, by rw [applyFields_press], ?_, applyFields_gallery m f s, ?_,
      State.settings_of_outer outer⟩
    · rw [applyFields_model, if_pos rfl]
    · rw [applyFields_waits, if_pos rfl]
    · rw [applyFields_model, if_neg other]
    · rw [applyFields_waits, if_neg other]
    · rw [applyFields_sup]; rfl
    · rw [applyFields_motion]; rfl

end Sys2Proof.Machine

/-! ## MODEL records: what is stored, staged and refused (R1, R22, R175 to R177) -/

namespace Sys2Proof.Machine

/-! ### A TABLE_WRITE that is carried out -/

/-- R174: an entry of the MODEL table is addressed by a model and at least one byte. -/
theorem tableAddressFault_model {m : ModelId} {record : List Byte} (some : record ≠ []) :
    tableAddressFault false (5 :: byteOf m.val :: record) = none := by
  have index : (byteOf m.val).toNat = m.val := byteOf_toNat (by omega)
  have long : ¬ record.length + 1 + 1 < 3 := by
    have := List.length_pos_iff.mpr some
    omega
  simp [tableAddressFault, natAt, byteAt, tableRange, index, long]

theorem act_modelWrite {c : Sender} {m : ModelId} {record : List Byte} {s t : State} {r : Result} {d : Half}
    (h : s.carriesOut c = true) (some : record ≠ []) (done : writeModel m record s = (t, (r, d))) :
    exec (.modelWrite c (byteOf m.val) record) s = .next (settle (t.answeredWith c (writeReply 5 r d))) := by
  rw [exec_modelWrite, act_of_running (State.running_of_carriesOut h), modelWrite, tableWrite, answered_of_carriesOut h,
    tableAddressFault_model some]
  simp only [modelOf_byte, done]
  rfl

/-! ### The stages of a record (R175) -/

theorem firstFault_nil : firstFault [] = none := rfl

theorem firstFault_cons (o : Nat) (b : Bool) (checks : List (Nat × Bool)) :
    firstFault ((o, b) :: checks) = if b = true then firstFault checks else some (BitVec.ofNat 16 o) := by
  cases b <;> rfl

theorem formFault_of_length {record : List Byte} {n : Nat} :
    formFault record [] n = if record.length = n then none else some lengthFault := rfl

theorem clampTo_eq_self_iff {lo hi n : Nat} (h : lo ≤ hi) : clampTo lo hi n = n ↔ lo ≤ n ∧ n ≤ hi := by
  unfold clampTo
  omega

theorem clampDepth_eq (n : Nat) :
    clampDepth n = if n ≤ 1 then 1 else if n ≤ 3 then 2 else if n ≤ 7 then 4 else 8 := by
  simp only [clampDepth, ← Nat.lt_succ_iff]

theorem clampDepth_eq_self_iff (n : Nat) : clampDepth n = n ↔ n ∈ [1, 2, 4, 8] := by
  simp only [clampDepth, List.mem_cons, List.not_mem_nil, or_false]
  split
  · omega
  · split
    · omega
    · split <;> omega

theorem nodeOfAddress_eq_some_iff (b : Byte) (k : NodeId) : nodeOfAddress b.toNat = some k ↔ addressOf k = b := by
  have number : (addressOf k).toNat = k.val + 1 := byteOf_toNat (by omega)
  rw [← BitVec.toNat_inj, number, nodeOfAddress]
  split
  · rw [Option.some.injEq, Fin.ext_iff]
    dsimp only
    omega
  · simp only [reduceCtorEq, false_iff]
    omega

/-- R177: the drive node of a MODEL record is one of role DRIVE. -/
theorem driveNode_any_iff (isDrive : NodeId → Bool) (r : List Byte) :
    (modelFields r).driveNode.any isDrive = true ↔ ∃ k : NodeId, addressOf k = byteAt r 0 ∧ isDrive k = true := by
  simp only [Option.any_eq_true, modelFields, natAt, nodeOfAddress_eq_some_iff]

/-- R176: no field was out of its range. -/
theorem modelClamped_eq_false_iff (r : List Byte) : modelClamped r (modelFields r) = false ↔
    1 ≤ (halfAt r 8).toNat ∧ (halfAt r 8).toNat ≤ 4095 ∧ 1 ≤ (halfAt r 10).toNat ∧ (halfAt r 10).toNat ≤ 4095 ∧
    1 ≤ (halfAt r 15).toNat ∧ (halfAt r 15).toNat ≤ 32767 ∧ 1 ≤ natAt r 17 ∧ natAt r 17 ≤ 15 ∧ natAt r 18 ≤ 7 ∧
    natAt r 19 ∈ [1, 2, 4, 8] ∧ (halfAt r 20).toNat ≤ 1023 ∧ (halfAt r 22).toNat ≤ 1023 ∧
    (halfAt r 24).toNat ≤ 1023 ∧ 1 ≤ natAt r 27 ∧ 1 ≤ natAt r 28 ∧ natAt r 28 ≤ 60 ∧ natAt r 29 ≤ 4 ∧
    5 ≤ natAt r 30 := by
  simp only [modelClamped, modelFields, Bool.or_eq_false_iff, bne_eq_false_iff_eq, clampDepth_eq_self_iff,
    clampTo_eq_self_iff (lo := 1) (hi := 4095) (by omega), clampTo_eq_self_iff (lo := 1) (hi := 32767) (by omega),
    clampTo_eq_self_iff (lo := 1) (hi := 15) (by omega), clampTo_eq_self_iff (lo := 1) (hi := 60) (by omega),
    min_eq_right_iff, max_eq_right_iff, and_assoc]

/-- R177: the checks of a MODEL record of the right length, in order. -/
theorem readModel_of_length {isDrive : NodeId → Bool} {r : List Byte} (length : r.length = 31) :
    readModel isDrive r = stages none (modelFields r) (modelClamped r (modelFields r))
      (if ∃ k : NodeId, addressOf k = byteAt r 0 ∧ isDrive k = true then
        if natAt r 1 ≤ 1 then
          if (halfAt r 2).toInt < (halfAt r 4).toInt then
            if (halfAt r 2).toInt ≤ (halfAt r 6).toInt ∧ (halfAt r 6).toInt ≤ (halfAt r 4).toInt then
              if min 1023 (halfAt r 20).toNat ≤ min 1023 (halfAt r 22).toNat then
                if min 1023 (halfAt r 24).toNat < min 1023 (halfAt r 22).toNat then none else some 24
              else some 20
            else some 6
          else some 2
        else some 1
      else some 0) := by
  unfold readModel
  simp only [formFault_of_length, length, if_true, firstFault_cons, firstFault_nil, driveNode_any_iff,
    decide_eq_true_iff]
  rfl

/-- Settles O32: the branches of the store, and the record's fields by its three stages. -/
theorem modelWriteStoresOrStages : Obligations.ModelWriteStoresOrStages := by
  refine ⟨fun c m record s carried some => ⟨fun o fault => ?_, fun f clamped read => ⟨fun out => ?_,
    fun service other => ?_, fun service node axis => ?_⟩⟩, fun isDrive r length => ?_, fun isDrive r length => ?_⟩
  · exact act_modelWrite carried some (by rw [writeModel, fault])
  · exact act_modelWrite carried some (by rw [writeModel, read]; exact if_pos out)
  · exact act_modelWrite carried some (by rw [writeModel, read]; exact (if_neg service).trans (if_pos other))
  · refine act_modelWrite carried some ?_
    rw [writeModel, read]
    exact (if_neg service).trans (if_neg (by simp [node, axis]))
  · simp only [readModel, formFault_of_length, if_neg length]
    rfl
  · dsimp only
    rw [readModel_of_length length]
    refine ⟨fun h => by rw [if_neg h]; rfl, fun a h => by rw [if_pos a, if_neg h]; rfl,
      fun a b h => by rw [if_pos a, if_pos b, if_neg h]; rfl,
      fun a b d h => by rw [if_pos a, if_pos b, if_pos d, if_neg h]; rfl,
      fun a b d e h => by rw [if_pos a, if_pos b, if_pos d, if_pos e, if_neg h]; rfl,
      fun a b d e g h => by rw [if_pos a, if_pos b, if_pos d, if_pos e, if_pos g, if_neg (by omega)]; rfl,
      fun bound axis travel home loads release => ?_⟩
    rw [if_pos bound, if_pos axis, if_pos travel, if_pos home, if_pos loads, if_pos release]
    obtain ⟨k, address, -⟩ := bound
    exact ⟨_, _, rfl, ⟨k, (nodeOfAddress_eq_some_iff _ _).mpr address, address⟩, Nat.mod_eq_of_lt (by omega), rfl, rfl,
      rfl, rfl, rfl, rfl, rfl, rfl, rfl, rfl, rfl, clampDepth_eq _, rfl, rfl, rfl, rfl, rfl, rfl, rfl, rfl,
      modelClamped_eq_false_iff r⟩

end Sys2Proof.Machine

/-! ## The first axis entry of an ENABLING model (R20) -/

namespace Sys2Proof.Machine

/-! ### A settling -/

/-- R82, R169, R170: a settling changes the lamps, the transmitters and what waits for them only. -/
theorem settle_steady (s : State) : (settle s).steady = s.steady := by
  have up (t : State) : (takeUp t).steady = t.steady := by
    unfold takeUp
    split
    · exact (takeSpine_steady _).trans (takeBay_steady t)
    · rfl
  exact (up _).trans (deriveLamps_steady s)

@[simp] theorem settle_motion (s : State) : (settle s).motion = s.motion := State.motion_of_steady (settle_steady s)
@[simp] theorem settle_sup (s : State) : (settle s).sup = s.sup := State.sup_of_steady (settle_steady s)
@[simp] theorem settle_modeCtl (s : State) : (settle s).modeCtl = s.modeCtl := State.modeCtl_of_steady (settle_steady s)
@[simp] theorem settle_settings (s : State) : (settle s).settings = s.settings :=
  State.settings_of_steady (settle_steady s)
@[simp] theorem settle_buttons (s : State) : (settle s).press.buttons = s.press.buttons :=
  State.buttons_of_steady (settle_steady s)
@[simp] theorem settle_tallies (s : State) : (settle s).press.tallies = s.press.tallies :=
  State.tallies_of_steady (settle_steady s)
@[simp] theorem settle_press_waits (s : State) : (settle s).press.waits = s.press.waits :=
  State.waits_of_steady (settle_steady s)
@[simp] theorem settle_model (s : State) (m : ModelId) : (settle s).model m = s.model m :=
  congrArg (fun q : MotionSequencer => tget q.models m) (settle_motion s)
@[simp] theorem settle_watch (s : State) (m : ModelId) : (settle s).watch m = s.watch m :=
  congrArg (fun q : Supervisor => tget q.watch m) (settle_sup s)
@[simp] theorem settle_marks (s : State) (id : FaultId) : (settle s).marks id = s.marks id :=
  congrArg (fun q : Supervisor => q.faults.get id) (settle_sup s)
@[simp] theorem settle_waits (s : State) (m : ModelId) : (settle s).waits m = s.waits m :=
  congrArg (tget · m) (settle_press_waits s)

/-- A settling shows what of the alert queue is steady as it was. -/
theorem settle_steady_alert {s t : State} (h : t.alert = s.alert) : (settle t).steady.alert = s.steady.alert := by
  rw [settle_steady]
  simp only [State.steady, h]

/-- A settling shows what of the Line Relay is steady as it was. -/
theorem settle_steady_relay {s t : State} (h : t.relay = s.relay) : (settle t).steady.relay = s.steady.relay := by
  rw [settle_steady]
  simp only [State.steady, h]

/-! ### The DRIVE_REPORT condition -/

/-- R114 (log 16): a report to DRIVE_REPORT changes that entry of the fault table only. -/
theorem reportDrive_keeps {β : Type} (read : State → β) (m : ModelId)
    (keeps : ∀ f t, read (t.modMarks (.model .driveReport m) f) = read t) (v : Bool) (s : State) :
    read (report (.model .driveReport m) v s) = read s := by
  unfold report activate
  simp only [FaultId.byReport, if_true]
  split
  · split
    · exact keeps _ _
    · exact (keeps _ _).trans (keeps _ _)
  · exact (keeps _ _).trans (keeps _ _)

/-- R112: the condition follows its source while detection is on; the latch stays as it is. -/
theorem reportDrive_marks (m : ModelId) (v : Bool) (s : State) (id : FaultId) :
    (report (.model .driveReport m) v s).marks id = if id = .model .driveReport m then
      ⟨v, v && (s.route 3).detect, (s.marks (.model .driveReport m)).latched⟩ else s.marks id := by
  have detects (f : Marks → Marks) : (s.modMarks (.model .driveReport m) f).detects (.model .driveReport m) =
    (s.route 3).detect := rfl
  unfold report activate
  simp only [FaultId.byReport, if_true, detects]
  by_cases e : id = .model .driveReport m
  · subst e
    cases v <;> cases (s.route 3).detect <;> cases active : (s.marks (.model .driveReport m)).active <;>
      simp [active]
  · by_cases on : (v && (s.route 3).detect) = true
    · by_cases active : (s.marks (.model .driveReport m)).active = true <;> simp [on, active, e, State.modMarks_marks]
    · simp [on, e, State.modMarks_marks]

/-! ### The entry -/

/-- R95: the model of an axis. -/
theorem boundModel_of_bindsOnly {s : State} {m : ModelId} {n : NodeId} {a : Axis} (h : s.bindsOnly m n a) :
    s.boundModel n a = some m := by
  have bound (k : ModelId) : (s.boundTo n k && (s.model k).config.axis == a) = true ↔ k = m := by
    simpa [State.boundTo, and_assoc] using h k
  unfold State.boundModel
  cases found : allModels.find? fun k => s.boundTo n k && (s.model k).config.axis == a with
  | none => exact absurd ((bound m).mpr rfl) (List.find?_eq_none.mp found m (mem_allModels m))
  | some k =>
    have holds := List.find?_some found
    exact congrArg some ((bound k).mp holds)

/-- R14: the reseat choice of a model with a fed-back position. -/
theorem asReseated_eq {x : Model} {p : Int} (fed : x.fedBack = some p) (occupied : Bool) :
    x.asReseated occupied = (x.seat p).goHome occupied := by
  cases x
  cases fed
  cases occupied <;> rfl

/-- R94: the hold-limit timer of an ENABLING model that takes the reseat choice. -/
theorem holdTimerAfter_goHome {x y : Model} {occupied : Bool} {t : Timer} (enabling : x.state = .enabling) :
    x.holdTimerAfter (y.goHome occupied) t =
      if occupied && !x.zoneHeld then some (y.config.holdLimit * 1000) else t := by
  have free : x.zoneHeld = false := by simp [Model.zoneHeld, enabling]
  have held : (y.goHome occupied).zoneHeld = occupied := by cases occupied <;> rfl
  have config : (y.goHome occupied).config = y.config := by cases occupied <;> rfl
  rw [Model.holdTimerAfter, free, held, config]
  rfl

/-- A change of a model keeps the buttons. -/
theorem changeModel_buttons (m : ModelId) (f : Model → Model) (s : State) :
    (changeModel m f s).press.buttons = s.press.buttons := by
  rw [changeModel_press, flushList_press]
  split <;> rfl

/-- R20: what the first entry of an ENABLING model makes of it. -/
def Model.firstFed (x : Model) (p : Int) (stop occupied : Bool) : Model :=
  let y := { x with fedBack := some p }.seat p
  if stop then { y with state := .stopped } else y.goHome occupied

theorem firstFeedback_eq (m : ModelId) (p : Int) (s : State) : firstFeedback m p s = quench (.model .follow m)
    (changeModel m (fun x => x.firstFed p s.sup.stopAsserted (s.maskOccupied (s.model m).config.zoneMask)) s) := rfl

/-- R20: the state in which the first entry of a model is judged. -/
def State.fed (s : State) (m : ModelId) (e : AxisEntry) : State :=
  ((s.modWatch m fun w => { w with energised := isEnergised e.flags }).modModel m fun x =>
    { x with fedBack := some e.position.toInt }).modModel m fun x => { x with flagSeen := hasDriveFlag e.flags }

theorem fed_model (s : State) (m k : ModelId) (e : AxisEntry) : (s.fed m e).model k = if k = m then
    { s.model m with fedBack := some e.position.toInt, flagSeen := hasDriveFlag e.flags } else s.model k := by
  simp only [State.fed, State.modModel_model, State.modWatch_model, if_true]
  split <;> rfl

/-- R20, R101: the first entry of an ENABLING model: its first feedback and the state of its drive. -/
def State.firstEntry (s : State) (m : ModelId) (e : AxisEntry) : State :=
  report (.model .driveReport m) (hasDriveFlag e.flags) (firstFeedback m e.position.toInt (s.fed m e))

/-- R95: a read that the updates of the fault table and `changeModel` keep is kept by the first entry. -/
theorem firstEntry_keeps {β : Type} (read : State → β) (m : ModelId) (e : AxisEntry) (s : State)
    (marks : ∀ id f t, read (State.modMarks t id f) = read t) (change : ∀ f t, read (changeModel m f t) = read t)
    (fed : read (s.fed m e) = read s) : read (s.firstEntry m e) = read s := by
  rw [State.firstEntry, reportDrive_keeps read m (marks _), firstFeedback_eq]
  exact (marks _ _ _).trans ((change _ _).trans fed)

/-- R95, R20: outside WAKING an ENABLING model takes the entry for its axis as its first. -/
theorem takeFeedback_of_enabling {n : NodeId} {e : AxisEntry} {m : ModelId} {s : State}
    (drive : (s.node n).role = .drive) (only : s.bindsOnly m n e.axis)
    (enabling : (s.model m).state = .enabling) (awake : s.gallery ≠ .waking) :
    takeFeedback n [e] s = s.firstEntry m e := by
  have mode : (s.firstEntry m e).gallery = s.gallery :=
    firstEntry_keeps State.gallery m e s (fun _ _ _ => rfl) (changeModel_gallery m) rfl
  have entry : takeFeedback n [e] s = takeAxisEntry n e s := if_pos drive
  rw [entry, takeAxisEntry, boundModel_of_bindsOnly only]
  simp only [enabling, beq_self_eq_true, if_true]
  split
  · rfl
  · exact endWakeTest_of_awake (mode ▸ awake)

/-! ### What the first entry makes of each block -/

section
variable (s : State) (m : ModelId) (e : AxisEntry)

/-- R20: the model before it is seated. -/
def State.fedModel : Model :=
  { s.model m with fedBack := some e.position.toInt, flagSeen := hasDriveFlag e.flags }

/-- R20: the model that the first entry seats. -/
def State.seated : Model := (s.fedModel m e).firstFed e.position.toInt s.sup.stopAsserted
  (s.maskOccupied (s.model m).config.zoneMask)

theorem firstEntry_model (k : ModelId) : (s.firstEntry m e).model k =
    if k = m then (s.fedModel m e).settled (s.seated m e) else s.model k := by
  have self : (s.fed m e).model m = s.fedModel m e := by rw [fed_model, if_pos rfl]; rfl
  rw [State.firstEntry, reportDrive_keeps (fun t => t.model k) m fun _ _ => rfl, firstFeedback_eq, quench_model,
    changeModel_model, self, fed_model]
  split <;> rfl

variable {s m}

/-- R14: with the STOP key released the model takes the reseat choice. -/
theorem seated_of_free (free : s.sup.stopAsserted = false) :
    s.seated m e = (s.fedModel m e).asReseated (s.maskOccupied (s.model m).config.zoneMask) := by
  rw [asReseated_eq (p := e.position.toInt) rfl, State.seated, free]
  rfl

/-- R14: with the STOP key asserted the model is seated, and STOPPED. -/
theorem seated_of_stop (stop : s.sup.stopAsserted = true) : s.seated m e =
    let x := s.fedModel m e
    { x.asReseated (s.maskOccupied (s.model m).config.zoneMask) with
      state := .stopped, holdZone := x.holdZone, holdPause := x.holdPause, target := x.target,
      pauseTimer := x.pauseTimer } := by
  dsimp only
  rw [asReseated_eq (p := e.position.toInt) rfl, State.seated, stop]
  cases s.maskOccupied (s.model m).config.zoneMask <;> rfl

variable (enabling : (s.model m).state = .enabling)
include enabling

/-- R14: the STOP key takes the model out of service. -/
theorem seated_leaves : (s.fedModel m e).leaves (s.seated m e) = s.sup.stopAsserted := by
  unfold State.seated
  cases s.sup.stopAsserted <;> cases s.maskOccupied (s.model m).config.zoneMask <;>
    simp [Model.leaves, Model.firstFed, Model.seat, Model.goHome, ModelState.outOfService, State.fedModel, enabling]

theorem firstEntry_waits :
    (s.firstEntry m e).waits m = if s.sup.stopAsserted then [] else s.waits m := by
  have self : (s.fed m e).model m = s.fedModel m e := by rw [fed_model, if_pos rfl]; rfl
  rw [State.firstEntry, reportDrive_keeps (fun t => t.waits m) m fun _ _ => rfl, firstFeedback_eq, quench_waits,
    changeModel_waits, self]
  have leaves := seated_leaves e enabling
  simp only [true_and]
  exact ite_congr (congrArg (· = true) leaves) (fun _ => rfl) fun _ => rfl

theorem firstEntry_watch : (s.firstEntry m e).watch m = { s.watch m with
    energised := isEnergised e.flags
    holdTimer := (s.fedModel m e).holdTimerAfter (s.seated m e) (s.watch m).holdTimer } := by
  have self : (s.fed m e).model m = s.fedModel m e := by rw [fed_model, if_pos rfl]; rfl
  have watch : (s.fed m e).watch m = { s.watch m with energised := isEnergised e.flags } :=
    State.modWatch_watch_self s m _
  rw [State.firstEntry, reportDrive_keeps (fun t => t.watch m) m fun _ _ => rfl, firstFeedback_eq, quench_watch,
    changeModel_watch_self, self, watch]
  have was : (s.fedModel m e).state = .enabling := enabling
  simp only [was, bne_self_eq_false, Bool.and_false, Bool.false_eq_true, if_false]
  rfl

end

/-- Settles O19: the first entry as a change of its model, and what the change leaves. -/
theorem firstFeedbackSeatsTheModel : Obligations.FirstFeedbackSeatsTheModel := by
  intro n e m s running drive only enabling awake
  dsimp only
  have flags : (e.flags.getLsbD 0 || e.flags.getLsbD 1 || e.flags.getLsbD 2) = hasDriveFlag e.flags := rfl
  rw [flags]
  refine ⟨_, (exec_feedback n [e] s).trans (act_of_running running), ?_⟩
  rw [takeFeedback_of_enabling drive only enabling awake]
  have model := firstEntry_model s m e
  have leaves := seated_leaves e enabling
  have marks := reportDrive_marks m (hasDriveFlag e.flags) (firstFeedback m e.position.toInt (s.fed m e))
  have route : (firstFeedback m e.position.toInt (s.fed m e)).route = s.route := by
    funext i
    exact congrArg (fun a : AlertUnit => tget a.routes i) (changeModel_alert m _ (s.fed m e))
  simp only [settle_model, settle_waits, settle_watch, settle_marks, settle_sup, settle_motion, settle_buttons]
  refine ⟨fun stop => ⟨?_, ?_⟩, fun free => ⟨?_, ?_, ?_⟩, ?_, ?_, ?_, ?_, ?_, fun k other => ?_, ?_, ?_, ?_, ?_, ?_⟩
  · rw [model, if_pos rfl, Model.settled, leaves, stop, if_pos rfl, seated_of_stop e stop]
    rfl
  · rw [firstEntry_waits e enabling, stop, if_pos rfl]
  · rw [model, if_pos rfl, Model.settled, leaves, free]
    exact seated_of_free e free
  · rw [firstEntry_waits e enabling, free]
    rfl
  · rw [firstEntry_watch e enabling, seated_of_free e free, asReseated_eq (p := e.position.toInt) rfl]
    exact holdTimerAfter_goHome enabling
  · rw [firstEntry_watch e enabling]
    rfl
  · exact congrArg Marks.underlying ((marks _).trans (if_pos rfl))
  · rw [← route]
    exact congrArg Marks.active ((marks _).trans (if_pos rfl))
  · refine (congrArg Marks.latched ((marks _).trans (if_pos rfl))).trans ?_
    rw [firstFeedback_eq, quench_marks, if_neg (by simp), changeModel_marks, if_neg (by simp)]
    rfl
  · refine (congrArg Marks.active ((marks _).trans (if_neg (by simp)))).trans ?_
    rw [firstFeedback_eq, quench_marks, if_pos rfl]
  · rw [model, if_neg other]
  · exact settle_steady_alert (firstEntry_keeps State.alert m e s (fun _ _ _ => rfl) (changeModel_alert m) rfl)
  · exact settle_steady_relay
      (firstEntry_keeps State.relay m e s (fun _ _ _ => rfl)
        (fun f t => State.relay_of_outer (changeModel_outer m f t)) rfl)
  · exact firstEntry_keeps (fun t => t.sup.zones) m e s (fun _ _ _ => rfl) (changeModel_zones m) rfl
  · exact firstEntry_keeps (fun t => t.press.buttons) m e s (fun _ _ _ => rfl) (changeModel_buttons m) rfl
  · exact firstEntry_keeps (fun t => t.motion.schedule) m e s (fun _ _ _ => rfl) (changeModel_schedule m) rfl

end Sys2Proof.Machine

/-! ## The ACK key and RESUME (R14, R16, R108, R109, R141) -/

namespace Sys2Proof.Machine

/-! ### A short press acknowledges -/

/-- R145: what is shown changes nothing of the queue, the overflow record and the routes. -/
theorem showAs_keeps (new : Showing) (a : AlertUnit) : (showAs new a).queue = a.queue ∧
    (showAs new a).overflow = a.overflow ∧ (showAs new a).lost = a.lost ∧
    (showAs new a).reportPending = a.reportPending ∧ (showAs new a).routes = a.routes ∧
    (showAs new a).lastNumber = a.lastNumber := by
  unfold showAs
  split
  · simp
  · cases new <;> exact ⟨rfl, rfl, rfl, rfl, rfl, rfl⟩

/-- R134: taking up an alert makes no overflow report. -/
theorem takeOffer_reportPending {s : State} (h : s.alert.reportPending = false) :
    (takeOffer s).1.alert.reportPending = false := by
  unfold takeOffer
  split
  · rfl
  · split <;> exact h

theorem takeSpine_reportPending {s : State} (h : s.alert.reportPending = false) :
    (takeSpine s).alert.reportPending = false := by
  unfold takeSpine
  split
  · exact h
  · split
    · exact h
    · split
      · rename_i t f taken
        split at taken
        · have offered := takeOffer_reportPending h
          rw [taken] at offered
          exact offered
        · cases taken
      · split <;> exact h

/-- R170: a settling takes up a pending report and makes none. -/
theorem settle_reportPending {s : State} (h : s.alert.reportPending = false) :
    (settle s).alert.reportPending = false := by
  have lamps := congrArg State.alert (deriveLamps_unlit s)
  simp only [State.unlit] at lamps
  have bay (t : State) : (takeBay t).alert = t.alert := by
    simp only [takeBay]
    (repeat' split) <;> rfl
  unfold settle takeUp
  split
  · exact takeSpine_reportPending (by rw [bay, lamps, h])
  · rw [lamps, h]

/-- R141, R142: acknowledgement by beacon route does not see what a settling may change of a record. -/
theorem ackedQueue_steady (s : State) :
    ((s.ackedQueue fun r => r.beacon).map fun r => { r with inFlight := false, resend := false }) =
    (s.alert.queue.map fun r => { r with inFlight := false, resend := false }).filterMap fun r =>
      if r.beacon = true ∧ r.state ≠ .acked then
        (match r.about with
          | .fault id => if (s.marks id).latched then some { r with state := .acked, deadline := none } else none
          | _ => none)
      else some r := by
  rw [State.ackedQueue, List.map_filterMap, List.filterMap_map]
  congr 1
  funext r
  dsimp only [Function.comp]
  by_cases open' : r.beacon = true ∧ r.state ≠ .acked
  · have picked : (r.beacon && r.unacked) = true := by simp [AlertRecord.unacked, open']
    rw [if_pos picked, if_pos open']
    cases about : r.about with
    | fault id => cases latched : (s.marks id).latched <;> simp [State.removable, ackRecord, about, latched]
    | _ => simp [State.removable, ackRecord, about]
  · have passed : (r.beacon && r.unacked) ≠ true := by simpa [AlertRecord.unacked] using open'
    rw [if_neg passed, if_neg open']
    rfl

/-! ### A resume reseats -/

theorem reseat_alters (m : ModelId) (s : State) : State.Alters m s (reseat m s) := by
  unfold reseat
  split
  · exact changeModel_alters _ _ _
  · exact (changeModel_alters _ _ _).trans (.of_view (quench_view _ _))

/-- R14: what a reseat makes of its model. -/
theorem reseat_model (m : ModelId) (s : State) : (reseat m s).model m =
    (s.model m).asReseated (s.maskOccupied (s.model m).config.zoneMask) := by
  have service {x y : Model} (h : y.state.outOfService = false) : x.settled y = y :=
    if_neg (by simp [Model.leaves, h])
  unfold reseat
  split
  · rename_i fed
    rw [changeModel_model_self, service rfl, Model.asReseated, fed]
  · rename_i p fed
    rw [quench_model, changeModel_model_self, asReseated_eq fed]
    exact service (by cases s.maskOccupied (s.model m).config.zoneMask <;> rfl)

/-- R16: what a run of reseats leaves. -/
theorem reseat_keeps_read {β : Type} (read : State → β) (marks : ∀ id f t, read (State.modMarks t id f) = read t)
    (change : ∀ m (f : Model → Model) t, (f (t.model m)).state.outOfService = false → read (changeModel m f t) = read t)
    (m : ModelId) (s : State) : read (reseat m s) = read s := by
  unfold reseat
  split
  · exact change m _ s rfl
  · refine (marks _ _ _).trans (change m _ s ?_)
    cases s.maskOccupied (s.model m).config.zoneMask <;> rfl

theorem resumeAll_keeps {β : Type} (read : State → β) (marks : ∀ id f t, read (State.modMarks t id f) = read t)
    (change : ∀ m (f : Model → Model) t, (f (t.model m)).state.outOfService = false → read (changeModel m f t) = read t)
    (s : State) : read (resumeAll s) = read s :=
  forEach_keeps read _ (fun m t => by
    split
    · exact reseat_keeps_read read marks change m t
    · rfl) allModels s

/-- A change that leaves its model in service keeps the Press Arbiter. -/
theorem changeModel_press_of_service (m : ModelId) (f : Model → Model) (s : State)
    (service : (f (s.model m)).state.outOfService = false) : (changeModel m f s).press = s.press := by
  rw [changeModel_press, if_neg (by simp [Model.leaves, service])]

/-- R16: a resume reseats every STOPPED model and no other. -/
theorem resumeAll_model (s : State) (m : ModelId) : (resumeAll s).model m = if (s.model m).state = .stopped then
    (s.model m).asReseated (s.maskOccupied (s.model m).config.zoneMask) else s.model m := by
  obtain ⟨t, same, after⟩ := (forEach_view (op := fun m t => if (t.model m).state = .stopped then reseat m t else t)
    (fun m t => by
      split
      · exact reseat_alters m t
      · exact .of_view rfl) m allModels allModels_nodup s).2 (mem_allModels m)
  have model : t.model m = s.model m := congrArg View.model same
  have occupied : t.maskOccupied = s.maskOccupied := congrArg View.occupied same
  have met := congrArg View.model after
  simp only [State.view] at met
  rw [resumeAll, met, ← model, ← occupied]
  split
  · exact reseat_model m t
  · rfl

@[simp] theorem resumeAll_press (s : State) : (resumeAll s).press = s.press :=
  resumeAll_keeps State.press (fun _ _ _ => rfl) changeModel_press_of_service s
@[simp] theorem resumeAll_alert (s : State) : (resumeAll s).alert = s.alert :=
  resumeAll_keeps State.alert (fun _ _ _ => rfl) (fun m f t _ => changeModel_alert m f t) s
@[simp] theorem resumeAll_relay (s : State) : (resumeAll s).relay = s.relay := State.relay_of_outer (by simp)
@[simp] theorem resumeAll_settings (s : State) : (resumeAll s).settings = s.settings :=
  State.settings_of_outer (by simp)
@[simp] theorem resumeAll_ack (s : State) : (resumeAll s).sup.ack = s.sup.ack :=
  resumeAll_keeps (fun t => t.sup.ack) (fun _ _ _ => rfl) (fun m f t _ => by rw [changeModel_sup]) s
@[simp] theorem resumeAll_ackTimer (s : State) : (resumeAll s).sup.ackTimer = s.sup.ackTimer :=
  resumeAll_keeps (fun t => t.sup.ackTimer) (fun _ _ _ => rfl) (fun m f t _ => by rw [changeModel_sup]) s

/-! ### The statement -/

/-- R109, R141: what letting go of the key from TIMING does to the Alert Unit. -/
theorem ackFromFloor_alert (s : State) : (ackFromFloor s).alert.queue = s.ackedQueue (fun r => r.beacon) ∧
    (ackFromFloor s).alert.overflow = false ∧ (ackFromFloor s).alert.lost = s.alert.lost ∧
    (ackFromFloor s).alert.reportPending = false ∧ (ackFromFloor s).alert.routes = s.alert.routes ∧
    (ackFromFloor s).alert.lastNumber = s.alert.lastNumber :=
  showAs_keeps _ _

/-- What equal steady states agree in of the Alert Unit. -/
theorem settle_alert (s : State) : (settle s).alert.overflow = s.alert.overflow ∧
    (settle s).alert.lost = s.alert.lost ∧ (settle s).alert.routes = s.alert.routes ∧
    (settle s).alert.lastNumber = s.alert.lastNumber := by
  have same := congrArg State.alert (settle_steady s)
  simp only [State.steady, AlertUnit.mk.injEq] at same
  obtain ⟨routes, -, number, overflow, lost, -⟩ := same
  exact ⟨overflow, lost, routes, number⟩

/-- R109, R141: a short press. -/
theorem ackLetGo_of_timing {s : State} (timing : s.sup.ack = .timing) : ackLetGo s = ackFromFloor
    ((s.onPins fun p => { p with ackClosed := false }).onSup fun q => { q with ack := .armed, ackTimer := none }) := by
  simp only [ackLetGo, State.onPins_sup, timing]

/-- R108: letting go from any other state arms the key. -/
theorem ackLetGo_of_idle {s : State} (idle : s.sup.ack ≠ .timing) : ackLetGo s =
    (s.onPins fun p => { p with ackClosed := false }).onSup fun q => { q with ack := .armed, ackTimer := none } := by
  simp only [ackLetGo, State.onPins_sup]
  cases ack : s.sup.ack with
  | timing => exact absurd ack idle
  | armed | long | blocked => rfl

/-- R108: 3 s are reached in TIMING. -/
theorem ackHeld_of_timing {s : State} (timing : s.sup.ack = .timing) (timer : s.sup.ackTimer.isSome = true) :
    ackHeld s = if s.sup.stopAsserted then s.onSup fun q => { q with ack := .long, ackTimer := none }
      else resumeAll (s.onSup fun q => { q with ack := .long, ackTimer := none }) :=
  if_pos ⟨timing, timer⟩

theorem act_resume {c : Sender} {args : List Byte} {s t : State} {r : Result} {d : Half} (h : s.carriesOut c = true)
    (done : resumeArgs args s = (t, (r, d))) :
    exec (.resume c args) s = .next (settle (t.answeredWith c (controlReply 0x09 r d))) := by
  rw [exec_resume]
  exact act_control (body := resumeArgs args) h done

/-- Settles O10: the key's states, the acknowledged queue, and the run of reseats. -/
theorem ackKeyAcknowledgesAndResumes : Obligations.AckKeyAcknowledgesAndResumes := by
  refine ⟨fun s running => ⟨?_, fun idle => ?_, fun timing => ?_⟩, fun c s => ⟨fun running timing timer =>
    ⟨fun stop => ?_, fun released => ?_⟩, fun running idle => ?_, fun carried => ⟨fun args some => ?_, fun stop => ?_,
      fun released => ?_⟩⟩⟩
  · rw [exec_ackKeyPressed, act_of_running running]
    cases ack : s.sup.ack <;> simp [ackPressed, ack, State.onPins, State.onSup, Config.ackPressMs]
  · rw [exec_ackKeyLetGo, act_of_running running, ackLetGo_of_idle idle]
    rfl
  · refine ⟨_, (exec_ackKeyLetGo s).trans (act_of_running running), ?_⟩
    rw [ackLetGo_of_timing timing]
    have queue := ackedQueue_steady
      ((s.onPins fun p => { p with ackClosed := false }).onSup fun q => { q with ack := .armed, ackTimer := none })
    generalize base : (s.onPins fun p => { p with ackClosed := false }).onSup
      (fun q => { q with ack := .armed, ackTimer := none }) = u at *
    obtain ⟨acked, overflow, lost, pending, routes, number⟩ := ackFromFloor_alert u
    obtain ⟨overflow', lost', routes', number'⟩ := settle_alert (ackFromFloor u)
    subst base
    refine ⟨settle_sup _, ?_, overflow'.trans overflow, lost'.trans lost, settle_reportPending pending,
      routes'.trans routes, number'.trans number, settle_motion _, settle_steady_relay rfl,
      settle_press_waits _, settle_modeCtl _, settle_settings _⟩
    rw [settle_steady]
    refine (congrArg (List.map fun r => { r with inFlight := false, resend := false }) acked).trans ?_
    exact queue
  · rw [exec_ackPressTimerExpiry, act_of_running running, ackHeld_of_timing timing timer, if_pos stop]
    rfl
  · refine ⟨_, (exec_ackPressTimerExpiry s).trans (act_of_running running), ?_⟩
    rw [ackHeld_of_timing timing timer, if_neg (by simp [released])]
    refine ⟨?_, ?_, fun m => ?_, settle_steady_alert (resumeAll_alert _), settle_steady_relay (resumeAll_relay _), ?_⟩
    · rw [settle_sup, resumeAll_ack]; rfl
    · rw [settle_sup, resumeAll_ackTimer]; rfl
    · rw [settle_model, resumeAll_model]; rfl
    · rw [settle_press_waits, resumeAll_press]; rfl
  · rw [exec_ackPressTimerExpiry, act_of_running running]
    have out : ackHeld s = s := if_neg (by rcases idle with e | e <;> simp [e])
    rw [out]
  · exact act_resume carried (if_pos some)
  · exact act_resume carried (by simp [resumeArgs, stop])
  · have done : resumeArgs [] s = (resumeAll s, (.ok, BitVec.ofNat 16 s.stoppedCount)) := by
      simp [resumeArgs, released]
    exact ⟨_, act_resume carried done, resumeAll_model s, resumeAll_alert s, resumeAll_relay s, resumeAll_press s,
      resumeAll_settings s⟩

end Sys2Proof.Machine

/-! ## The reset state -/

namespace Sys2Proof.Machine

theorem ModelConfig.unconfigured_inRange : unconfigured.InRange := by constructor <;> decide

namespace State

/-! ### Its tables -/

@[simp] theorem reset_model (m : ModelId) : reset.model m = Model.reset := tget_replicate _ m
@[simp] theorem reset_watch (m : ModelId) : reset.watch m = Watch.reset := tget_replicate _ m
@[simp] theorem reset_waits (m : ModelId) : reset.waits m = [] := tget_replicate _ m
@[simp] theorem reset_node (n : NodeId) : reset.node n = NodeEntry.reset := tget_replicate _ n
@[simp] theorem reset_entry (i : EntryIx) : reset.entry i = none := tget_replicate _ i
@[simp] theorem reset_cue (c : CueId) : reset.cue c = none := tget_replicate _ c
@[simp] theorem reset_profile (p : ProfileId) : reset.profile p = none := tget_replicate _ p

@[simp] theorem reset_lamp (k : Key) : reset.lamp k = .off :=
  (congrArg (tget · k.button) (tget_replicate _ k.node)).trans (tget_replicate _ k.button)

@[simp] theorem reset_marks (id : FaultId) : reset.marks id = .clear := by
  cases id with
  | model k m => exact (congrArg (tget · m) (tget_replicate _ k.index)).trans (tget_replicate _ m)
  | nodeSilent n => exact tget_replicate _ n
  | buttonStuck k => exact (congrArg (tget · k.button) (tget_replicate _ k.node)).trans (tget_replicate _ k.button)
  | bay k => exact tget_replicate _ k.index

@[simp] theorem reset_schedule : reset.motion.schedule = [] := rfl
@[simp] theorem reset_queue : reset.alert.queue = [] := rfl
@[simp] theorem reset_showing : reset.alert.showing = .dark := rfl

/-! ### It meets the invariants -/

theorem reset_safe : reset.MotionAgrees ∧ reset.MovesSafely :=
  (safe_iff reset).mp (safe_of_reset reset_model reset_watch)

theorem reset_withinTravel : reset.WithinTravel where
  config m := by rw [reset_model]; exact ModelConfig.unconfigured_inRange
  staged m c h := by rw [reset_model] at h; cases h
  travel m h := absurd rfl (reset_model m ▸ h)
  history m := by rw [reset_model]; rfl

theorem reset_scheduleWf : reset.ScheduleWf := ⟨by simp, by simp, by simp, by simp⟩

theorem reset_listsWf : reset.ListsWf := ⟨by simp, by simp, by simp, by simp⟩

theorem reset_balanced : reset.Balanced := by
  have none : reset.waitingCount = 0 := by simp [waitingCount]
  rw [Balanced, none]
  rfl

theorem reset_faultsAgree : reset.FaultsAgree where
  follows id := by simp [Marks.clear]
  watched := ⟨rfl, rfl⟩
  stopKey := by rw [reset_marks]; rfl
  stuck k := by simp [Marks.clear]
  ring := by rw [reset_marks]; rfl
  disabled m _ := by simp [Marks.clear, Watch.reset]
  tripped m k _ h := by simp [Marks.clear] at h
  cause m h := by simp [Model.reset] at h

theorem reset_keysApart : reset.KeysApart := fun i j b c h => by simp at h

theorem reset_lampsTrue : reset.LampsTrue := fun k => by
  have unmapped : reset.entryOf k = none := List.find?_eq_none.mpr fun i _ => by simp
  rw [reset_lamp, unmapped]

theorem reset_bounded : reset.Bounded := by constructor <;> decide

theorem reset_tier (c : Fin 15) : 1 ≤ (reset.route c).tier ∧ (reset.route c).tier ≤ 3 := by
  revert c
  decide

theorem reset_alertsWf : reset.AlertsWf := ⟨by simp, by simp, by simp, reset_tier⟩

theorem reset_showingTrue : reset.ShowingTrue := ⟨rfl, by simp⟩

theorem reset_outputsTrue : reset.OutputsTrue := ⟨fun _ => ⟨rfl, rfl, rfl⟩, nofun, nofun⟩

end State

/-- Settles O54: table by table, and each invariant from the reset tables. -/
theorem resetStateIsAsTheSpecGives : Obligations.ResetStateIsAsTheSpecGives := by
  refine ⟨fun m => ?_, fun n => ?_, State.reset_cue, State.reset_profile, State.reset_entry, State.reset_lamp,
    fun z => tget_replicate _ z, State.reset_marks, rfl, rfl, rfl, rfl, rfl, rfl, rfl, rfl, rfl, rfl, rfl, rfl, rfl,
    rfl, rfl, rfl, rfl, rfl, rfl, rfl, rfl, rfl, State.reset_safe.1, State.reset_safe.2, State.reset_withinTravel,
    State.reset_scheduleWf, State.reset_listsWf, State.reset_balanced, State.reset_faultsAgree, State.reset_keysApart,
    State.reset_lampsTrue, State.reset_bounded, State.reset_alertsWf, State.reset_showingTrue, State.reset_outputsTrue⟩
  · rw [State.reset_model, State.reset_watch, State.reset_waits]
    exact ⟨rfl, rfl, rfl, rfl, rfl, rfl, rfl, rfl, rfl, rfl, rfl, rfl, rfl⟩
  · rw [State.reset_node]
    exact ⟨rfl, rfl, rfl, tget_replicate _ n, tget_replicate _ n, tget_replicate _ n⟩

end Sys2Proof.Machine

/-! ## What an operation on one model leaves of the others

`State.localAt` is what belongs to one model, wherever it stands; `State.scene` is what no operation on a model touches.
`State.Beside m` says that an operation leaves the scene, and what belongs to every model but `m`. -/

namespace Sys2Proof.Machine

/-- What belongs to one model: its record, watch record and wait list, the DRIVE_REPORT entry of its fault table, its
schedule entries and whether a model-free notice is sent. -/
structure Local where
  model : Model
  watch : Watch
  waits : List Request
  report : Marks
  entries : List ScheduleEntry
  noticed : Prop

/-- The blocks' parts that no operation on one model touches. -/
structure Scene where
  cues : Vector (Option Cue) 32
  profiles : Vector (Option Profile) 64
  clock : Clock
  sampleTimer : Nat
  settings : Settings
  zones : Vector Zone 8
  stop : Bool
  gallery : GalleryMode
  buttons : Vector (Option Button) 128
  nodes : Vector NodeEntry 62

def State.localAt (s : State) (m : ModelId) : Local :=
  ⟨s.model m, s.watch m, s.waits m, s.marks (.model .driveReport m),
    s.motion.schedule.filter fun e => e.model == m, m ∈ s.motion.freeNotices⟩

def State.scene (s : State) : Scene :=
  ⟨s.motion.cues, s.motion.profiles, s.motion.clock, s.motion.sampleTimer, s.settings, s.sup.zones, s.sup.stopAsserted,
    s.gallery, s.press.buttons, s.relay.nodes⟩

/-- The operation touches what belongs to `m`, and nothing of the scene or of another model. -/
structure State.Beside (m : ModelId) (s t : State) : Prop where
  scene : t.scene = s.scene
  others : ∀ k, k ≠ m → t.localAt k = s.localAt k

namespace State.Beside

theorem refl (m : ModelId) (s : State) : Beside m s s := ⟨rfl, fun _ _ => rfl⟩

theorem trans {m : ModelId} {s t u : State} (h : Beside m s t) (g : Beside m t u) : Beside m s u :=
  ⟨g.scene.trans h.scene, fun k e => (g.others k e).trans (h.others k e)⟩

end State.Beside

/-! ### The operations -/

theorem modModel_beside (m : ModelId) (f : Model → Model) (s : State) : State.Beside m s (s.modModel m f) :=
  ⟨rfl, fun k e => by simp only [State.localAt, State.modModel_model, if_neg e]; rfl⟩

theorem modWatch_beside (m : ModelId) (f : Watch → Watch) (s : State) : State.Beside m s (s.modWatch m f) :=
  ⟨rfl, fun k e => by simp [State.localAt, State.modWatch_watch, e]⟩

theorem modMarks_beside (m : ModelId) (kind : ModelKind) (f : Marks → Marks) (s : State) :
    State.Beside m s (s.modMarks (.model kind m) f) :=
  ⟨rfl, fun k e => by simp [State.localAt, State.modMarks_marks, e]⟩

theorem changeModel_beside (m : ModelId) (f : Model → Model) (s : State) : State.Beside m s (changeModel m f s) := by
  have outer := changeModel_outer m f s
  refine ⟨?_, fun k e => ?_⟩
  · simp only [State.scene, changeModel_gallery, changeModel_buttons, changeModel_zones, State.settings_of_outer outer,
      State.relay_of_outer outer]
    rw [changeModel_motion, changeModel_sup]
  · simp only [State.localAt, changeModel_model_ne e, changeModel_watch_ne e, changeModel_waits, e, false_and, if_false,
      changeModel_schedule, changeModel_marks, FaultId.model.injEq, reduceCtorEq, and_false]
    rw [changeModel_motion]

theorem raise_local (a : About) (s : State) (k : ModelId) : (raise a s).localAt k = s.localAt k := by
  simp only [State.localAt, State.model, State.watch, State.waits, State.marks, raise_motion, raise_sup, raise_press]

theorem raise_beside (m : ModelId) (a : About) (s : State) : State.Beside m s (raise a s) := by
  have outer := raise_outer a s
  refine ⟨?_, fun k _ => raise_local a s k⟩
  simp only [State.scene, raise_motion, raise_sup, raise_press, State.settings_of_outer outer,
    State.relay_of_outer outer, State.gallery, raise_modeCtl]

theorem sendFreeNotice_beside (m : ModelId) (s : State) : State.Beside m s (sendFreeNotice m s) :=
  ⟨rfl, fun k e => by
    have kept : (k ∈ s.motion.freeNotices ++ [m]) = (k ∈ s.motion.freeNotices) := by simp [e]
    simp only [State.localAt, sendFreeNotice, State.onMotion_motion, kept]
    rfl⟩

theorem removeEntry_beside (m : ModelId) (s : State) : State.Beside m s (removeEntry m s) := by
  have outer := removeEntry_outer m s
  refine ⟨?_, fun k e => ?_⟩
  · simp only [State.scene, removeEntry_motion, removeEntry_sup, removeEntry_press, State.settings_of_outer outer,
      State.relay_of_outer outer, removeEntry_gallery]
  · have kept : (s.motion.schedule.filter fun e => e.model != m).filter (fun e => e.model == k) =
        s.motion.schedule.filter fun e => e.model == k := by
      rw [List.filter_filter]
      refine List.filter_congr fun d _ => ?_
      by_cases own : d.model = k <;> simp [own, e]
    simp only [State.localAt, removeEntry_model, removeEntry_watch, removeEntry_waits, removeEntry_marks,
      removeEntry_motion, kept]

/-- R114: the state in which a drive report has latched its entry. -/
def State.reported (m : ModelId) (s : State) : State :=
  s.modMarks (.model .driveReport m) fun k => { k with latched := true }

/-- R114: a drive report latches its entry, trips its model where the latch is new, and is raised. -/
theorem driveReport_eq (m : ModelId) (s : State) : driveReport m s = raise (.fault (.model .driveReport m))
    (if (s.marks (.model .driveReport m)).latched then s.reported m else tripModel m (s.reported m)) := by
  unfold driveReport latchAndRaise
  cases (s.marks (.model .driveReport m)).latched <;> rfl

theorem driveReport_beside (m : ModelId) (s : State) : State.Beside m s (driveReport m s) := by
  rw [driveReport_eq]
  refine .trans (t := s.reported m) (modMarks_beside m .driveReport _ s) ?_
  split
  · exact raise_beside m _ _
  · exact .trans (changeModel_beside m _ _) (raise_beside m _ _)

theorem trimList_beside (m : ModelId) (d : Nat) (s : State) : State.Beside m s (trimList m d s) := by
  have outer := trimList_outer m d s
  refine ⟨?_, fun k e => ?_⟩
  · simp only [State.scene, trimList_motion, trimList_sup, trimList_press, trimList_gallery,
      State.settings_of_outer outer, State.relay_of_outer outer]
  · simp only [State.localAt, State.model, State.watch, State.waits, State.marks, trimList_motion, trimList_sup,
      trimList_press, tget_tput, if_neg e]

theorem applyFields_beside (m : ModelId) (c : ModelConfig) (s : State) : State.Beside m s (applyFields m c s) :=
  (modModel_beside m _ s).trans ((modMarks_beside m .follow _ _).trans (trimList_beside m c.waitDepth _))

theorem startRequest_beside (m : ModelId) (c : CueId) (o : Owner) (p : Bool) (s : State) :
    State.Beside m s (startRequest m c o p s).1 := by
  unfold startRequest
  split
  · dsimp only [startCue]
    exact changeModel_beside m _ s
  · exact driveReport_beside m s
  all_goals exact .refl m s

theorem serveEntry_beside (m : ModelId) (c : CueId) (s : State) : State.Beside m s (serveEntry m c s).1 := by
  have request := startRequest_beside m c .control false s
  unfold serveEntry
  split <;> rename_i t asked <;> rw [asked] at request
  · exact request.trans (removeEntry_beside m t)
  · exact request.trans ((removeEntry_beside m t).trans (raise_beside m _ _))
  all_goals exact request

theorem becomeFree_beside (m : ModelId) (s : State) : State.Beside m s (becomeFree m s) := by
  unfold becomeFree
  split
  · exact sendFreeNotice_beside m s
  · rename_i e due
    have served := serveEntry_beside m e.cue s
    split <;> rename_i t answer <;> rw [answer] at served
    · exact served
    · exact served.trans (sendFreeNotice_beside m t)

theorem freeIfStartable_beside (m : ModelId) (s : State) : State.Beside m s (freeIfStartable m s) := by
  unfold freeIfStartable
  split
  · exact becomeFree_beside m s
  · exact .refl m s

/-- R24: the commit that waited for IDLE is taken up. -/
def State.taken (m : ModelId) (s : State) : State := s.modModel m fun x => { x with commitPending := false }

theorem deferredCommit_of_none {m : ModelId} {s : State} (none : (s.model m).commitPending = false) :
    deferredCommit m s = s := if_neg (by simp [none])

theorem deferredCommit_of_unstaged {m : ModelId} {s : State} (pending : (s.model m).commitPending = true)
    (none : (s.model m).staged = none) : deferredCommit m s = s.taken m := by
  have same : ((s.taken m).model m).staged = Option.none := by simp [State.taken, none]
  rw [deferredCommit, if_pos pending]
  dsimp only
  rw [State.taken] at same
  rw [same]
  rfl

/-- R24: a staged record is applied where it fits, and COMMIT_FAILED is raised where it does not. -/
theorem deferredCommit_of_staged {m : ModelId} {f : ModelConfig} {s : State}
    (pending : (s.model m).commitPending = true) (staged : (s.model m).staged = some f) : deferredCommit m s =
      if commitFits f (s.model m).lastSetpoint then
        (applyFields m f (s.taken m)).modWatch m fun w => { w with maskOccupied := s.maskOccupied f.zoneMask }
      else raise (.commitFailed m) (s.taken m) := by
  have same : ((s.taken m).model m).staged = some f := by simp [State.taken, staged]
  have last : ((s.taken m).model m).lastSetpoint = (s.model m).lastSetpoint := by simp [State.taken]
  have occupied : (applyFields m f (s.taken m)).maskOccupied f.zoneMask = s.maskOccupied f.zoneMask :=
    applyFields_maskOccupied m f (s.taken m) _
  rw [deferredCommit, if_pos pending, ← occupied]
  dsimp only
  rw [State.taken] at same last ⊢
  rw [same]
  dsimp only
  rw [last]

theorem deferredCommit_beside (m : ModelId) (s : State) : State.Beside m s (deferredCommit m s) := by
  have taken : State.Beside m s (s.taken m) := modModel_beside m _ s
  cases pending : (s.model m).commitPending with
  | false => rw [deferredCommit_of_none pending]; exact .refl m s
  | true =>
    cases staged : (s.model m).staged with
    | none => rw [deferredCommit_of_unstaged pending staged]; exact taken
    | some f =>
      rw [deferredCommit_of_staged pending staged]
      split
      · exact taken.trans ((applyFields_beside m f _).trans (modWatch_beside m _ _))
      · exact taken.trans (raise_beside m _ _)

theorem enterIdle_beside (m : ModelId) (s : State) : State.Beside m s (enterIdle m s) :=
  (changeModel_beside m _ s).trans ((deferredCommit_beside m _).trans (freeIfStartable_beside m _))

theorem cueEnds_beside (m : ModelId) (c : CueId) (s : State) : State.Beside m s (cueEnds m c s) := by
  unfold cueEnds
  split
  · exact enterIdle_beside m s
  all_goals exact changeModel_beside m _ s

/-- R31: the sample of one model. -/
theorem sampleModel_beside (m : ModelId) (s : State) : State.Beside m s (sampleModel m s).1 := by
  cases state : (s.model m).state
  case disabled => rw [sampleModel_of_out (.inl state)]; exact .refl m s
  case enabling => rw [sampleModel_of_out (.inr state)]; exact .refl m s
  case returning =>
    have recorded := modModel_beside m (fun y => y.record (s.model m).returnSample) s
    rw [sampleModel_of_returning state]
    split
    · exact recorded.trans (enterIdle_beside m _)
    · exact recorded
  case running =>
    cases place : (s.model m).position with
    | none => rw [sampleModel_of_lost state place]; exact modModel_beside m _ s
    | some pos =>
      have recorded := modModel_beside m (fun y => y.played (s.playSample (s.model m) pos)) s
      rw [sampleModel_of_running state place]
      split
      · exact recorded.trans (cueEnds_beside m _ _)
      · exact recorded
  all_goals rw [sampleModel_of_still (by simp [state])]; exact modModel_beside m _ s

end Sys2Proof.Machine

/-! ## A sample of every model, seen from one of them -/

namespace Sys2Proof.Machine

/-! ### Reads of the scene and of what belongs to a model -/

section
variable {s t : State} (h : t.scene = s.scene)
include h

theorem State.cues_of_scene : t.motion.cues = s.motion.cues := congrArg Scene.cues h
theorem State.profiles_of_scene : t.motion.profiles = s.motion.profiles := congrArg Scene.profiles h
theorem State.clock_of_scene : t.clock = s.clock := congrArg Scene.clock h
theorem State.settings_of_scene : t.settings = s.settings := congrArg Scene.settings h
theorem State.stop_of_scene : t.sup.stopAsserted = s.sup.stopAsserted := congrArg Scene.stop h
theorem State.gallery_of_scene : t.gallery = s.gallery := congrArg Scene.gallery h

theorem State.maskOccupied_of_scene (mask : BitVec 8) : t.maskOccupied mask = s.maskOccupied mask := by
  have zones : t.sup.zones = s.sup.zones := congrArg Scene.zones h
  simp only [State.maskOccupied, State.zoneOccupied, zones]

theorem State.cueValid_of_scene (c : CueId) : t.cueValid c = s.cueValid c := by
  simp only [State.cueValid, State.cue, State.profile, State.cues_of_scene h, State.profiles_of_scene h]

theorem State.cue_of_scene : t.cue = s.cue := funext fun c => congrArg (tget · c) (State.cues_of_scene h)

theorem State.profile_of_scene : t.profile = s.profile :=
  funext fun p => congrArg (tget · p) (State.profiles_of_scene h)

end

/-! ### A cue in play depends on the tables and the sample period only -/

section
variable {s t : State} (cues : t.cue = s.cue) (profiles : t.profile = s.profile)

include profiles in
theorem State.beginSegment_congr (c : ModelConfig) (st : CueStep) (pos : CuePosition) :
    t.beginSegment c st pos = s.beginSegment c st pos := by
  simp only [State.beginSegment, profiles]

include profiles in
theorem State.beginStep_congr (c : ModelConfig) (steps : List CueStep) (last : Int) (k : Nat) (pos : CuePosition) :
    t.beginStep c steps last k pos = s.beginStep c steps last k pos := by
  simp only [State.beginStep, State.beginSegment_congr profiles]

include cues profiles

theorem State.startPosition_congr (c : ModelConfig) (q : CueId) (last : Int) :
    t.startPosition c q last = s.startPosition c q last := by
  simp only [State.startPosition, cues, State.beginStep_congr profiles]

theorem State.nextPlace_congr (c : ModelConfig) (last : Int) (pos : CuePosition) :
    t.nextPlace c last pos = s.nextPlace c last pos := by
  have count (st : CueStep) : t.segmentCount st = s.segmentCount st := by
    cases st <;> simp only [State.segmentCount, profiles]
  simp only [State.nextPlace, cues, State.beginStep_congr profiles, State.beginSegment_congr profiles, count]

theorem State.advance_congr (c : ModelConfig) (last : Int) (fuel : Nat) (pos : CuePosition) :
    t.advance c last fuel pos = s.advance c last fuel pos := by
  induction fuel generalizing pos with
  | zero => rfl
  | succ n ih => simp only [State.advance, State.nextPlace_congr cues profiles, ih]

theorem State.playSample_congr (settings : t.settings = s.settings) (x : Model) (pos : CuePosition) :
    t.playSample x pos = s.playSample x pos := by
  simp only [State.playSample, settings, State.advance_congr cues profiles]

end

/-- R56: the due entry of a model is one of its own entries. -/
theorem State.dueEntry_eq (s : State) (m : ModelId) :
    s.dueEntry m = (s.localAt m).entries.find? fun e => e.due.isSome := by
  simp only [State.dueEntry, State.localAt, List.find?_filter, Bool.decide_and, Bool.decide_eq_true]

theorem State.mem_entries {s : State} {m : ModelId} {e : ScheduleEntry} :
    e ∈ (s.localAt m).entries ↔ e ∈ s.motion.schedule ∧ e.model = m := by
  simp [State.localAt]

/-! ### A run over the models -/

theorem allModels_split (k : ModelId) : ∃ before after, allModels = before ++ k :: after ∧ k ∉ before ∧ k ∉ after := by
  obtain ⟨before, after, split⟩ := List.append_of_mem (mem_allModels k)
  have apart := allModels_nodup
  rw [split, List.nodup_middle, List.nodup_cons, List.mem_append, not_or] at apart
  exact ⟨before, after, split, apart.1.1, apart.1.2⟩

/-- A run over other models touches nothing of a model. -/
theorem forEach_beside {op : ModelId → State → State} (beside : ∀ m t, State.Beside m t (op m t)) {k : ModelId}
    (ms : List ModelId) (out : k ∉ ms) (s : State) :
    (forEach ms op s).scene = s.scene ∧ (forEach ms op s).localAt k = s.localAt k := by
  induction ms generalizing s with
  | nil => exact ⟨rfl, rfl⟩
  | cons m rest ih =>
    obtain ⟨first, others⟩ := List.ne_and_not_mem_of_not_mem_cons out
    obtain ⟨scene, place⟩ := ih others (op m s)
    exact ⟨scene.trans (beside m s).scene, place.trans ((beside m s).others k first)⟩

/-- Every other model is neither playing nor on its way home. -/
def State.Alone (s : State) (m : ModelId) : Prop :=
  ∀ k, k ≠ m → (s.model k).state ≠ .running ∧ (s.model k).state ≠ .returning

/-- R31: a model that does not move records at most its last setpoint. -/
theorem sampleModel_of_rest {m : ModelId} {s : State}
    (rest : (s.model m).state ≠ .running ∧ (s.model m).state ≠ .returning) :
    (sampleModel m s).1 = s ∨ (sampleModel m s).1 = repeatSetpoint m s := by
  cases state : (s.model m).state
  case disabled => exact .inl (sampleModel_of_out (.inl state))
  case enabling => exact .inl (sampleModel_of_out (.inr state))
  case running => exact absurd state rest.1
  case returning => exact absurd state rest.2
  all_goals exact .inr (sampleModel_of_still (by simp [state]))

/-- A run of samples of models that do not move raises nothing. -/
theorem forEach_sample_alert {k : ModelId} (ms : List ModelId) (out : k ∉ ms) {s : State} (alone : s.Alone k) :
    (forEach ms (fun m t => (sampleModel m t).1) s).alert = s.alert ∧
    (forEach ms (fun m t => (sampleModel m t).1) s).Alone k := by
  induction ms generalizing s with
  | nil => exact ⟨rfl, alone⟩
  | cons m rest ih =>
    obtain ⟨first, others⟩ := List.ne_and_not_mem_of_not_mem_cons out
    have step : (sampleModel m s).1.alert = s.alert ∧ (sampleModel m s).1.Alone k := by
      rcases sampleModel_of_rest (alone m (Ne.symm first)) with same | same
      · rw [same]; exact ⟨rfl, alone⟩
      · rw [same]
        refine ⟨rfl, fun j e => ?_⟩
        have state : ((repeatSetpoint m s).model j).state = (s.model j).state := by
          simp only [repeatSetpoint, State.modModel_model]
          split
          · rename_i own; rw [own]; rfl
          · rfl
        rw [state]
        exact alone j e
    obtain ⟨alert, alone'⟩ := ih others step.2
    exact ⟨alert.trans step.1, alone'⟩

/-- What a sample makes of one model: that model is sampled in the scene of the start, as it stood at the start; where
all others are at rest, the alert unit too is as it stood. -/
structure State.SampledFrom (m : ModelId) (s v t : State) : Prop where
  scene : v.scene = s.scene
  before : v.localAt m = s.localAt m
  after : t.localAt m = (sampleModel m v).1.localAt m
  alert : s.Alone m → v.alert = s.alert ∧ t.alert = (sampleModel m v).1.alert

/-- A run over all models, seen from one of them. -/
theorem forEach_split (op : ModelId → State → State) {m : ModelId} {before after : List ModelId}
    (split : allModels = before ++ m :: after) (s : State) :
    forEach allModels op s = forEach after op (op m (forEach before op s)) := by
  rw [split, forEach, List.foldl_append]
  rfl

theorem sampleModels_from (m : ModelId) (s : State) :
    (sampleModels s).1.scene = s.scene ∧ ∃ v, State.SampledFrom m s v (sampleModels s).1 := by
  have beside (k : ModelId) (t : State) : State.Beside k t (sampleModel k t).1 := sampleModel_beside k t
  obtain ⟨before, after, split, notBefore, notAfter⟩ := allModels_split m
  rw [sampleModels_state, forEach_split _ split]
  obtain ⟨scene, place⟩ := forEach_beside beside before notBefore s
  have quiet := forEach_sample_alert (s := s) before notBefore
  generalize forEach before (fun k t => (sampleModel k t).1) s = v at *
  obtain ⟨scene', place'⟩ := forEach_beside beside after notAfter (sampleModel m v).1
  refine ⟨scene'.trans ((beside m v).scene.trans scene), v, scene, place, place', fun alone => ?_⟩
  obtain ⟨alert, still⟩ := quiet alone
  refine ⟨alert, (forEach_sample_alert after notAfter fun k e => ?_).1⟩
  have same : (sampleModel m v).1.model k = v.model k := congrArg Local.model ((beside m v).others k e)
  rw [same]
  exact still k e

end Sys2Proof.Machine

/-! ## A model comes to rest (R8, R9, R23, R24, R56) -/

namespace Sys2Proof.Machine

/-! ### The test of R5 and a due entry -/

theorem startable_iff (s : State) (m : ModelId) : s.startable m .control = true ↔ (s.model m).state = .idle ∧
    s.maskOccupied (s.model m).config.zoneMask = false ∧ s.sup.stopAsserted = false ∧
    (s.gallery = .opened ∨ s.gallery = .service) := by
  simp only [State.startable, Bool.and_eq_true, beq_iff_eq, Bool.not_eq_true', modeAllows_control, and_assoc]

/-- R6: the points of a start that the startable test leaves open. -/
theorem verdict_of_startable {s : State} {m : ModelId} (free : s.startable m .control = true) (c : CueId) :
    s.verdict m c .control = if s.cueValid c = true then if (s.model m).flagSeen = true then .faultLatched else .ok
      else .cueInvalid := by
  obtain ⟨idle, clear, stop, mode⟩ := (startable_iff s m).mp free
  have allows : modeAllows s.gallery .control = true := (modeAllows_control _).mpr mode
  unfold State.verdict
  rw [idle]
  cases s.cueValid c <;> simp [allows, clear, stop]

theorem sendFreeNotice_local (m : ModelId) (s : State) :
    (sendFreeNotice m s).localAt m = { s.localAt m with noticed := True } := by
  have sent : (m ∈ s.motion.freeNotices ++ [m]) = True := by simp
  simp only [State.localAt, sendFreeNotice, State.onMotion_motion, sent]
  rfl

theorem removeEntry_local (m : ModelId) (s : State) :
    (removeEntry m s).localAt m = { s.localAt m with entries := [] } := by
  have gone : (s.motion.schedule.filter fun e => e.model != m).filter (fun e => e.model == m) = [] := by
    rw [List.filter_filter, List.filter_eq_nil_iff]
    intro e _
    by_cases own : e.model = m <;> simp [own]
  simp only [State.localAt, removeEntry_model, removeEntry_watch, removeEntry_waits, removeEntry_marks,
    removeEntry_motion, gone]

section
variable {s : State} {m : ModelId}

/-- R9: without a due entry a startable model sends its notice. -/
theorem freeIfStartable_of_noDue (none : s.dueEntry m = none) : (freeIfStartable m s).localAt m = { s.localAt m with
      noticed := (s.localAt m).noticed ∨ s.startable m .control = true } ∧
    (freeIfStartable m s).alert = s.alert := by
  unfold freeIfStartable
  by_cases free : s.startable m .control = true
  · have frees : becomeFree m s = sendFreeNotice m s := by rw [becomeFree, none]
    rw [if_pos free, frees, sendFreeNotice_local]
    simp only [free, or_true]
    exact ⟨trivial, rfl⟩
  · rw [if_neg free]
    simp only [free, Bool.false_eq_true, or_false]
    exact ⟨trivial, trivial⟩

variable {e : ScheduleEntry} (free : s.startable m .control = true) (due : s.dueEntry m = some e)
include free due

/-- R56: a due entry starts its cue, and no notice is sent. -/
theorem freeIfStartable_of_start (valid : s.cueValid e.cue = true) (unseen : (s.model m).flagSeen = false) :
    freeIfStartable m s = removeEntry m (startCue m e.cue .control false s) := by
  have ok : s.verdict m e.cue .control = .ok := by simp [verdict_of_startable free, valid, unseen]
  simp only [freeIfStartable, if_pos free, becomeFree, due, serveEntry, startRequest, ok]

/-- R56: a due entry for a cue that is not valid is missed. -/
theorem freeIfStartable_of_missed (invalid : s.cueValid e.cue = false) :
    freeIfStartable m s = sendFreeNotice m (raise (.startMissed m) (removeEntry m s)) := by
  have missed : s.verdict m e.cue .control = .cueInvalid := by simp [verdict_of_startable free, invalid]
  simp only [freeIfStartable, if_pos free, becomeFree, due, serveEntry, startRequest, missed]

/-- R56: a due entry that finds a drive flag seen stays. -/
theorem freeIfStartable_of_flagged (valid : s.cueValid e.cue = true) (seen : (s.model m).flagSeen = true) :
    freeIfStartable m s = sendFreeNotice m (driveReport m s) := by
  have latched : s.verdict m e.cue .control = .faultLatched := by simp [verdict_of_startable free, valid, seen]
  simp only [freeIfStartable, if_pos free, becomeFree, due, serveEntry, startRequest, latched]

end

/-- R6, R33: a start of an IDLE model for CONTROL changes its record, and the doze timer. -/
theorem startCue_local {s : State} {m : ModelId} (idle : (s.model m).state = .idle) (c : CueId) :
    (startCue m c .control false s).localAt m = { s.localAt m with model := { s.model m with
      state := .running, owner := some .control
      position := some (s.startPosition (s.model m).config c (s.model m).lastSetpoint) } } := by
  rw [startCue_of_idle idle]
  have model := s.modModel_model_self m fun x => { x with
    state := .running, owner := some .control
    position := some (s.startPosition (s.model m).config c (s.model m).lastSetpoint) }
  exact congrArg (fun x => ({ s.localAt m with model := x } : Local)) model

/-- R114, R17: a drive report latches; the first of them takes an IDLE model to FAULTED. -/
theorem driveReport_local (m : ModelId) (s : State) : ((driveReport m s).localAt m).report.latched = true ∧
    ((driveReport m s).localAt m).entries = (s.localAt m).entries ∧
    ((s.model m).state = .idle → (s.marks (.model .driveReport m)).latched = false →
      ((driveReport m s).localAt m).model.state = .faulted) := by
  have latched : ((s.reported m).marks (.model .driveReport m)).latched = true :=
    congrArg Marks.latched (State.modMarks_marks_self s _ _)
  rw [driveReport_eq, raise_local]
  split
  · rename_i was
    exact ⟨latched, rfl, fun _ new => by simp [was] at new⟩
  · refine ⟨?_, congrArg (List.filter _) (changeModel_schedule m _ _), fun idle _ => ?_⟩
    · have same : (tripModel m (s.reported m)).marks (.model .driveReport m) = _ := changeModel_marks m _ _ _
      rw [if_neg (by simp)] at same
      exact (congrArg Marks.latched same).trans latched
    · have model : (tripModel m (s.reported m)).model m = (s.model m).settled (s.model m).trip :=
        changeModel_model_self m Model.trip (s.reported m)
      obtain ⟨r, settled⟩ := (s.model m).settled_eq (s.model m).trip
      have faulted : (s.model m).trip.state = .faulted := by simp [Model.trip, idle]
      exact (congrArg Model.state (model.trans settled)).trans faulted

/-! ### Entry into IDLE -/

/-- R8: a model in motion has come to rest. -/
def State.resting (m : ModelId) (s : State) : State := changeModel m (fun x => { x.dropCue with state := .idle }) s

theorem resting_local {m : ModelId} {s : State}
    (moving : (s.model m).state = .running ∨ (s.model m).state = .returning) :
    (s.resting m).localAt m = { s.localAt m with model := { (s.model m).dropCue with state := .idle } } := by
  have free : (s.model m).zoneHeld = false := by rcases moving with e | e <;> simp [Model.zoneHeld, e]
  unfold State.resting
  rw [changeModel_of_kept (by rw [free]; rfl) rfl (by simp)]
  obtain ⟨q, quiet, -⟩ := syncQuiet_eq (s.model m) { (s.model m).dropCue with state := .idle }
    (s.modModel m fun x => { x.dropCue with state := .idle })
  rw [quiet]
  have model := s.modModel_model_self m fun x => { x.dropCue with state := .idle }
  exact congrArg (fun x => ({ s.localAt m with model := x } : Local)) model

theorem taken_local (m : ModelId) (s : State) :
    (s.taken m).localAt m = { s.localAt m with model := { s.model m with commitPending := false } } :=
  congrArg (fun x => ({ s.localAt m with model := x } : Local)) (s.modModel_model_self m _)

theorem modWatch_local (m : ModelId) (g : Watch → Watch) (s : State) :
    (s.modWatch m g).localAt m = { s.localAt m with watch := g (s.watch m) } :=
  congrArg (fun w => ({ s.localAt m with watch := w } : Local)) (s.modWatch_watch_self m g)

/-- R23: the staged fields become the configured ones, and the wait list is cut to its depth. -/
theorem applyFields_local (m : ModelId) (f : ModelConfig) (s : State) : (applyFields m f s).localAt m =
    { s.localAt m with
      model := { s.model m with config := f, staged := none, run := 0 }
      waits := (s.waits m).take f.waitDepth } := by
  have marks : (applyFields m f s).marks (.model .driveReport m) = s.marks (.model .driveReport m) :=
    (congrArg (fun q : Supervisor => q.faults.get (.model .driveReport m)) (applyFields_sup m f s)).trans
      ((quench_marks _ _ s).trans (if_neg (by simp)))
  simp only [State.localAt, applyFields_model, applyFields_waits, applyFields_watch, applyFields_motion, if_true, marks]
  rfl

section
variable {s : State} {m : ModelId}

/-- R24: without a staged record the commit that waited is over. -/
theorem deferredCommit_local_of_none (none : (s.model m).commitPending = false ∨ (s.model m).staged = none) :
    (deferredCommit m s).localAt m = { s.localAt m with model := { s.model m with commitPending := false } } ∧
    (deferredCommit m s).alert = s.alert := by
  cases pending : (s.model m).commitPending with
  | false =>
    have same : { s.model m with commitPending := false } = s.model m := by rw [← pending]
    rw [deferredCommit_of_none pending, same]
    exact ⟨rfl, rfl⟩
  | true =>
    rw [deferredCommit_of_unstaged pending (none.resolve_left (by simp [pending])), taken_local]
    exact ⟨rfl, rfl⟩

variable {f : ModelConfig} (pending : (s.model m).commitPending = true) (staged : (s.model m).staged = some f)
include pending staged

/-- R23, R24, R93: a staged record that fits is applied, and the mark is worked out from its mask. -/
theorem deferredCommit_local_of_fits (fits : commitFits f (s.model m).lastSetpoint = true) :
    (deferredCommit m s).localAt m = { s.localAt m with
      model := { s.model m with config := f, staged := none, run := 0, commitPending := false }
      watch := { s.watch m with maskOccupied := s.maskOccupied f.zoneMask }
      waits := (s.waits m).take f.waitDepth } := by
  have taken := taken_local m s
  have model : (s.taken m).model m = { s.model m with commitPending := false } := congrArg Local.model taken
  have watch : (applyFields m f (s.taken m)).watch m = s.watch m := applyFields_watch m m f (s.taken m)
  rw [deferredCommit_of_staged pending staged, if_pos fits, modWatch_local, applyFields_local, taken, watch, model]
  rfl

/-- R24: a staged record that does not fit stays, and COMMIT_FAILED is raised. -/
theorem deferredCommit_local_of_unfit (unfit : commitFits f (s.model m).lastSetpoint ≠ true) :
    (deferredCommit m s).localAt m = { s.localAt m with model := { s.model m with commitPending := false } } ∧
    (deferredCommit m s).alert = (raise (.commitFailed m) s).alert := by
  rw [deferredCommit_of_staged pending staged, if_neg unfit, raise_local, taken_local]
  exact ⟨rfl, raise_alert_congr _ rfl rfl⟩

end

end Sys2Proof.Machine

/-! ## The sample timer expires (R30, R31) -/

namespace Sys2Proof.Machine

/-! ### A model that comes to rest, as the statement has it -/

/-- No entry of the model is due. -/
def State.NoDue (s : State) (m : ModelId) : Prop := ∀ e ∈ s.motion.schedule, e.model = m → e.due = none

/-- R5: what a start needs besides an IDLE model. -/
def State.Free (s : State) (mask : BitVec 8) : Prop :=
  s.maskOccupied mask = false ∧ s.sup.stopAsserted = false ∧ (s.gallery = .opened ∨ s.gallery = .service)

/-- R8: a model at rest, whose commit no longer waits. -/
def Model.rested (y : Model) : Model :=
  { y with state := .idle, owner := none, position := none, commitPending := false }

/-- R8, R24: the model comes to rest with no entry due and no staged record to apply. -/
def State.RestsPlainly (s t : State) (m : ModelId) (y : Model) : Prop :=
  s.NoDue m → (s.model m).commitPending = false ∨ (s.model m).staged = none →
    t.model m = y.rested ∧ (s.Free (s.model m).config.zoneMask → m ∈ t.motion.freeNotices)

/-- R23, R24, R93: the model comes to rest with a commit that waited. -/
def State.RestsCommitting (s t : State) (m : ModelId) (y : Model) : Prop :=
  ∀ f, s.NoDue m → (s.model m).commitPending = true → (s.model m).staged = some f →
    let fits := f.travelMin ≤ y.lastSetpoint ∧ y.lastSetpoint ≤ f.travelMax ∧ f.travelMin ≤ f.home ∧
      f.home ≤ f.travelMax
    (fits → t.model m = { y.rested with config := f, staged := none, run := 0 } ∧
      t.waits m = (s.waits m).take f.waitDepth ∧ (t.watch m).maskOccupied = s.maskOccupied f.zoneMask ∧
      (s.Free f.zoneMask → m ∈ t.motion.freeNotices)) ∧
    (¬ fits → t.model m = y.rested ∧ t.waits m = s.waits m ∧
      (s.Alone m → t.steady.alert = (raise (.commitFailed m) s).steady.alert) ∧
      (s.Free (s.model m).config.zoneMask → m ∈ t.motion.freeNotices))

/-- R56: the model comes to rest with an entry due. -/
def State.RestsDue (s t : State) (m : ModelId) (y : Model) : Prop :=
  ∀ e ∈ s.motion.schedule, e.model = m → e.due.isSome = true → s.ScheduleWf → (s.model m).commitPending = false →
    s.Free (s.model m).config.zoneMask →
    (s.cueValid e.cue = true → (s.model m).flagSeen = false →
      t.model m = { y.rested with
        state := .running, owner := some .control
        position := some (s.startPosition (s.model m).config e.cue y.lastSetpoint) } ∧
      (∀ d ∈ t.motion.schedule, d.model ≠ m) ∧ t.waits m = s.waits m ∧
      (m ∈ t.motion.freeNotices ↔ m ∈ s.motion.freeNotices)) ∧
    (s.cueValid e.cue = false →
      t.model m = y.rested ∧ (∀ d ∈ t.motion.schedule, d.model ≠ m) ∧ m ∈ t.motion.freeNotices ∧
      (s.Alone m → t.steady.alert = (raise (.startMissed m) s).steady.alert)) ∧
    (s.cueValid e.cue = true → (s.model m).flagSeen = true →
      (t.marks (.model .driveReport m)).latched = true ∧ m ∈ t.motion.freeNotices ∧
      e ∈ t.motion.schedule ∧
      ((s.marks (.model .driveReport m)).latched = false → (t.model m).state = .faulted))

/-- What entry into IDLE makes of a model, as one that stood in the scene of `s` with a setpoint recorded. -/
structure State.EntersIdle (m : ModelId) (y : Model) (s v t : State) : Prop where
  scene : v.scene = s.scene
  moving : y.state = .running ∨ y.state = .returning
  config : y.config = (s.model m).config
  pending : y.commitPending = (s.model m).commitPending
  staged : y.staged = (s.model m).staged
  seen : y.flagSeen = (s.model m).flagSeen
  place : v.localAt m = { s.localAt m with model := y }
  after : t.localAt m = (enterIdle m v).localAt m
  alert : s.Alone m → v.alert = s.alert ∧ t.steady.alert = (enterIdle m v).steady.alert

/-- R56: where no entry of a model is due, it has no due entry. -/
theorem dueEntry_of_noDue {s t : State} {m : ModelId} (noDue : s.NoDue m)
    (entries : (t.localAt m).entries = (s.localAt m).entries) : t.dueEntry m = none := by
  rw [State.dueEntry_eq, entries, List.find?_eq_none]
  intro e member
  obtain ⟨listed, own⟩ := State.mem_entries.mp member
  simp [noDue e listed own]

/-- R52, R56: a model has one entry at most, so a due one is its due entry. -/
theorem dueEntry_of_due {s t : State} {m : ModelId} {e : ScheduleEntry} (wf : s.ScheduleWf)
    (listed : e ∈ s.motion.schedule) (own : e.model = m) (due : e.due.isSome = true)
    (entries : (t.localAt m).entries = (s.localAt m).entries) : t.dueEntry m = some e := by
  rw [State.dueEntry_eq, entries]
  cases found : (s.localAt m).entries.find? fun e => e.due.isSome with
  | none => exact absurd due (List.find?_eq_none.mp found e (State.mem_entries.mpr ⟨listed, own⟩))
  | some d =>
    obtain ⟨listed', own'⟩ := State.mem_entries.mp (List.mem_of_find?_eq_some found)
    exact congrArg some (List.inj_on_of_nodup_map wf.apart listed' listed (own'.trans own.symm))

/-- R5: an IDLE model in a free scene is startable. -/
theorem startable_of_free {s t : State} {m : ModelId} {mask : BitVec 8} (scene : t.scene = s.scene)
    (idle : (t.model m).state = .idle) (config : (t.model m).config.zoneMask = mask) (free : s.Free mask) :
    t.startable m .control = true := by
  obtain ⟨clear, stop, mode⟩ := free
  refine (startable_iff t m).mpr ⟨idle, ?_, (State.stop_of_scene scene).trans stop, ?_⟩
  · rw [config, State.maskOccupied_of_scene scene, clear]
  · rw [State.gallery_of_scene scene]; exact mode

section
variable {s v t : State} {m : ModelId} {y : Model}

/-- The state in which the deferred commit finds the model. -/
theorem State.EntersIdle.resting (h : State.EntersIdle m y s v t) : (v.resting m).scene = s.scene ∧
    (v.resting m).localAt m = { s.localAt m with model := { y.dropCue with state := .idle } } ∧
    (v.resting m).alert = v.alert := by
  have model : v.model m = y := congrArg Local.model h.place
  refine ⟨((changeModel_beside m _ v).scene).trans h.scene, ?_, changeModel_alert m _ v⟩
  rw [resting_local (model ▸ h.moving), h.place, model]

theorem enterIdle_eq (m : ModelId) (v : State) :
    enterIdle m v = freeIfStartable m (deferredCommit m (v.resting m)) := rfl

theorem State.EntersIdle.deferred_scene (h : State.EntersIdle m y s v t) :
    (deferredCommit m (v.resting m)).scene = s.scene :=
  (deferredCommit_beside m _).scene.trans h.resting.1

/-- R9: a model at rest with no entry due keeps what it has, and sends its notice where it is free. -/
theorem freed_of_noDue {b : State} (noDue : s.NoDue m) (scene : b.scene = s.scene)
    (entries : (b.localAt m).entries = (s.localAt m).entries) (idle : (b.model m).state = .idle)
    (after : t.localAt m = (freeIfStartable m b).localAt m) : t.model m = b.model m ∧ t.waits m = b.waits m ∧
      t.watch m = b.watch m ∧ (s.Free (b.model m).config.zoneMask → m ∈ t.motion.freeNotices) := by
  rw [(freeIfStartable_of_noDue (dueEntry_of_noDue noDue entries)).1] at after
  refine ⟨congrArg Local.model after, congrArg Local.waits after, congrArg Local.watch after, fun free => ?_⟩
  have noticed : (m ∈ t.motion.freeNotices) = _ := congrArg Local.noticed after
  rw [noticed]
  exact .inr (startable_of_free scene idle rfl free)

theorem State.EntersIdle.freed (h : State.EntersIdle m y s v t) :
    t.localAt m = (freeIfStartable m (deferredCommit m (v.resting m))).localAt m := h.after

theorem State.EntersIdle.plain (h : State.EntersIdle m y s v t) : s.RestsPlainly t m y := by
  intro noDue none
  obtain ⟨-, place, -⟩ := h.resting
  have model : (v.resting m).model m = { y.dropCue with state := .idle } := congrArg Local.model place
  obtain ⟨committed, -⟩ := deferredCommit_local_of_none (s := v.resting m) (m := m)
    (by rw [model]; exact h.pending ▸ h.staged ▸ none)
  rw [place, model] at committed
  have rested : (deferredCommit m (v.resting m)).model m = y.rested := congrArg Local.model committed
  have entries := congrArg Local.entries committed
  obtain ⟨kept, -, -, notice⟩ := freed_of_noDue noDue h.deferred_scene entries (congrArg Model.state rested) h.freed
  rw [rested] at kept notice
  exact ⟨kept, h.config ▸ notice⟩

/-- R24: the raise of a deferred commit, or of a missed entry, is the raise from the start of the sample. -/
theorem State.EntersIdle.raised (h : State.EntersIdle m y s v t) (alone : s.Alone m) {b : State} (a : About)
    (alert : (enterIdle m v).alert = (raise a b).alert) (same : b.alert = v.alert) (scene : b.scene = s.scene) :
    t.steady.alert = (raise a s).steady.alert := by
  obtain ⟨before, after⟩ := h.alert alone
  have raised : (raise a b).alert = (raise a s).alert :=
    raise_alert_congr a (same.trans before) (State.clock_of_scene scene)
  rw [after]
  simp only [State.steady, alert.trans raised]

theorem State.EntersIdle.committing (h : State.EntersIdle m y s v t) : s.RestsCommitting t m y := by
  intro f noDue pending staged
  obtain ⟨scene, place, same⟩ := h.resting
  have model : (v.resting m).model m = { y.dropCue with state := .idle } := congrArg Local.model place
  have waits : ((v.resting m).waits m) = s.waits m := congrArg Local.waits place
  have waiting : ((v.resting m).model m).commitPending = true := by rw [model]; exact h.pending.trans pending
  have held : ((v.resting m).model m).staged = some f := by rw [model]; exact h.staged.trans staged
  have last : ((v.resting m).model m).lastSetpoint = y.lastSetpoint := by rw [model]; rfl
  refine ⟨fun fits => ?_, fun unfit => ?_⟩
  · have committed := deferredCommit_local_of_fits waiting held
      (by rw [last]; simpa [commitFits] using fits)
    rw [place, model, waits, State.maskOccupied_of_scene scene] at committed
    have rested : (deferredCommit m (v.resting m)).model m = { y.rested with config := f, staged := none, run := 0 } :=
      congrArg Local.model committed
    have entries := congrArg Local.entries committed
    obtain ⟨kept, cut, watch, notice⟩ :=
      freed_of_noDue noDue h.deferred_scene entries (congrArg Model.state rested) h.freed
    have list := congrArg Local.waits committed
    have mark := congrArg (fun l : Local => l.watch.maskOccupied) committed
    rw [rested] at kept notice
    exact ⟨kept, cut.trans list, (congrArg Watch.maskOccupied watch).trans mark, notice⟩
  · obtain ⟨committed, raised⟩ := deferredCommit_local_of_unfit waiting held
      (by rw [last]; simpa [commitFits] using unfit)
    rw [place, model] at committed
    have rested : (deferredCommit m (v.resting m)).model m = y.rested := congrArg Local.model committed
    have entries := congrArg Local.entries committed
    obtain ⟨kept, cut, -, notice⟩ :=
      freed_of_noDue noDue h.deferred_scene entries (congrArg Model.state rested) h.freed
    have list := congrArg Local.waits committed
    rw [rested] at kept notice
    have quiet := (freeIfStartable_of_noDue (dueEntry_of_noDue noDue entries)).2
    exact ⟨kept, cut.trans list, fun alone => h.raised alone (.commitFailed m) (quiet.trans raised) same scene,
      h.config ▸ notice⟩

/-- R56: entry into IDLE with a due entry for a free model, and no commit that waits, is the service of that entry. -/
theorem State.EntersIdle.serving (h : State.EntersIdle m y s v t) (none : (s.model m).commitPending = false) :
    (v.resting m).model m = y.rested ∧ enterIdle m v = freeIfStartable m (v.resting m) := by
  have settled : y.commitPending = false := h.pending.trans none
  have model : (v.resting m).model m = { y.dropCue with state := .idle } := congrArg Local.model h.resting.2.1
  have rested : (v.resting m).model m = y.rested := by
    rw [model, Model.rested, ← settled]
    rfl
  refine ⟨rested, ?_⟩
  rw [enterIdle_eq, deferredCommit_of_none (by rw [rested]; rfl)]

theorem no_entries (h : (t.localAt m).entries = []) : ∀ d ∈ t.motion.schedule, d.model ≠ m := fun d listed own => by
  have member : d ∈ (t.localAt m).entries := State.mem_entries.mpr ⟨listed, own⟩
  rw [h] at member
  cases member

theorem State.EntersIdle.due (h : State.EntersIdle m y s v t) : s.RestsDue t m y := by
  intro e listed own due wf none free
  obtain ⟨scene, place, same⟩ := h.resting
  obtain ⟨rested, served⟩ := h.serving none
  have entries := congrArg Local.entries place
  have next : (v.resting m).dueEntry m = some e := dueEntry_of_due wf listed own due entries
  have startable : (v.resting m).startable m .control = true :=
    startable_of_free scene (congrArg Model.state rested) (by rw [rested]; rfl) (h.config ▸ free)
  have valid : (v.resting m).cueValid e.cue = s.cueValid e.cue := State.cueValid_of_scene scene e.cue
  have seen : ((v.resting m).model m).flagSeen = (s.model m).flagSeen := by rw [rested]; exact h.seen
  have after := h.after
  rw [served] at after
  refine ⟨fun ok unseen => ?_, fun invalid => ?_, fun ok flagged => ?_⟩
  · rw [freeIfStartable_of_start startable next (valid.trans ok) (seen.trans unseen), removeEntry_local,
      startCue_local (congrArg Model.state rested), rested,
      State.startPosition_congr (State.cue_of_scene scene) (State.profile_of_scene scene), place] at after
    have model := congrArg Local.model after
    have noticed := congrArg Local.noticed after
    refine ⟨?_, no_entries (congrArg Local.entries after), congrArg Local.waits after, iff_of_eq noticed⟩
    rw [← h.config]
    exact model
  · have missed := freeIfStartable_of_missed startable next (valid.trans invalid)
    rw [missed, sendFreeNotice_local, raise_local, removeEntry_local, place] at after
    have model : t.model m = (v.resting m).model m :=
      (congrArg Local.model after).trans (congrArg Local.model place).symm
    have noticed : (m ∈ t.motion.freeNotices) = True := congrArg Local.noticed after
    refine ⟨model.trans rested, no_entries (congrArg Local.entries after), of_eq_true noticed, fun alone => ?_⟩
    refine h.raised alone (.startMissed m) (b := removeEntry m (v.resting m)) ?_ ((removeEntry_alert m _).trans same)
      ((removeEntry_beside m _).scene.trans scene)
    rw [served, missed]
    rfl
  · rw [freeIfStartable_of_flagged startable next (valid.trans ok) (seen.trans flagged), sendFreeNotice_local] at after
    obtain ⟨latched, kept, faulted⟩ := driveReport_local m (v.resting m)
    have report : t.marks (.model .driveReport m) = _ := congrArg Local.report after
    have noticed : (m ∈ t.motion.freeNotices) = True := congrArg Local.noticed after
    have list := (congrArg Local.entries after).trans (kept.trans entries)
    have model : t.model m = _ := congrArg Local.model after
    have mark : (v.resting m).marks (.model .driveReport m) = s.marks (.model .driveReport m) :=
      congrArg Local.report place
    refine ⟨(congrArg Marks.latched report).trans latched, of_eq_true noticed, ?_, fun new => ?_⟩
    · have member : e ∈ (s.localAt m).entries := State.mem_entries.mpr ⟨listed, own⟩
      have here : e ∈ (t.localAt m).entries := by rw [list]; exact member
      exact (State.mem_entries.mp here).1
    · exact (congrArg Model.state model).trans
        (faulted (congrArg Model.state rested) ((congrArg Marks.latched mark).trans new))

end

end Sys2Proof.Machine

/-! ## The statement about the sample timer -/

namespace Sys2Proof.Machine

/-! ### From the run of samples to the next state -/

theorem fillSlot_keeps (outs : List AxisOut) (n : NodeId) (s : State) : (fillSlot outs n s).scene = s.scene ∧
    (∀ m, (fillSlot outs n s).localAt m = s.localAt m) ∧ (fillSlot outs n s).alert = s.alert := by
  unfold fillSlot
  split <;> exact ⟨rfl, fun _ => rfl, rfl⟩

theorem settle_scene (s : State) : (settle s).scene = s.scene := by
  have nodes : (settle s).relay.nodes = s.relay.nodes := State.nodes_of_steady (settle_steady s)
  have mode : (settle s).gallery = s.gallery := congrArg ModeControl.mode (settle_modeCtl s)
  simp only [State.scene, settle_motion, settle_sup, settle_settings, settle_buttons, nodes, mode]

theorem settle_local (s : State) (m : ModelId) : (settle s).localAt m = s.localAt m := by
  simp only [State.localAt, settle_model, settle_watch, settle_waits, settle_marks, settle_motion]

/-- R30: the sample timer starts again. -/
def State.timed (s : State) : State := s.onMotion fun q => { q with sampleTimer := s.settings.samplePeriod }

/-- R31, R46: the next state is the run of samples, but for what a settling may change. -/
theorem sampleExpiry_settled (s : State) : (settle (sampleExpiry s)).scene = (sampleModels s.timed).1.scene ∧
    (∀ m, (settle (sampleExpiry s)).localAt m = (sampleModels s.timed).1.localAt m) ∧
    (settle (sampleExpiry s)).steady.alert = (sampleModels s.timed).1.steady.alert := by
  have expiry : sampleExpiry s =
      forEach allNodes (fillSlot (sampleModels s.timed).2) (sampleModels s.timed).1 := by
    unfold sampleExpiry State.timed
    dsimp only
  rw [expiry]
  generalize (sampleModels s.timed).1 = t
  generalize (sampleModels s.timed).2 = outs
  refine ⟨?_, fun m => ?_, settle_steady_alert ?_⟩
  · rw [settle_scene]
    exact forEach_keeps State.scene _ (fun n u => (fillSlot_keeps outs n u).1) allNodes t
  · rw [settle_local]
    exact forEach_keeps (fun u => u.localAt m) _ (fun n u => (fillSlot_keeps outs n u).2.1 m) allNodes t
  · exact forEach_keeps State.alert _ (fun n u => (fillSlot_keeps outs n u).2.2) allNodes t

/-- A raise does not see the sample timer. -/
theorem raise_timed (a : About) (s : State) : (raise a s.timed).steady.alert = (raise a s).steady.alert := by
  have same : (raise a s.timed).alert = (raise a s).alert := raise_alert_congr a rfl rfl
  simp only [State.steady, same]

/-! ### The states of a model in a sample -/

theorem modModel_local (m : ModelId) (g : Model → Model) (s : State) :
    (s.modModel m g).localAt m = { s.localAt m with model := g (s.model m) } :=
  congrArg (fun x => ({ s.localAt m with model := x } : Local)) (s.modModel_model_self m g)

/-- R7: a cue that stays ends in IDLE. -/
theorem cueEnds_of_stay {m : ModelId} {c : CueId} {u : Cue} {s : State} (cue : s.cue c = some u)
    (stay : u.endAction = .stay) : cueEnds m c s = enterIdle m s := by
  simp only [cueEnds, cue, Option.map_some, stay]

/-- R7: any other cue sends its model home. -/
theorem cueEnds_of_goHome {m : ModelId} {c : CueId} {u : Cue} {s : State} (cue : s.cue c = some u)
    (home : u.endAction = .goHome) :
    cueEnds m c s = changeModel m (fun x => { x.dropCue with state := .returning }) s := by
  simp only [cueEnds, cue, Option.map_some, home]

/-- What the statement says of a model that comes to rest. -/
def State.ComesToRest (s t : State) (m : ModelId) (y : Model) : Prop :=
  s.RestsPlainly t m y ∧ s.RestsCommitting t m y ∧ s.RestsDue t m y

theorem State.EntersIdle.comesToRest {s v t : State} {m : ModelId} {y : Model}
    (h : State.EntersIdle m y s.timed v t) : s.ComesToRest t m y := by
  refine ⟨h.plain, fun f noDue pending staged => ?_, fun e listed own due wf none free => ?_⟩
  · obtain ⟨fits, unfit⟩ := h.committing f noDue pending staged
    refine ⟨fits, fun out => ?_⟩
    obtain ⟨model, waits, alert, notice⟩ := unfit out
    exact ⟨model, waits, fun alone => (alert alone).trans (raise_timed _ s), notice⟩
  · obtain ⟨start, missed, flagged⟩ := h.due e listed own due ⟨wf.1, wf.2, wf.3, wf.4⟩ none free
    refine ⟨start, fun invalid => ?_, flagged⟩
    obtain ⟨model, gone, notice, alert⟩ := missed invalid
    exact ⟨model, gone, notice, fun alone => (alert alone).trans (raise_timed _ s)⟩

/-- What the sample leaves of one model, in the words of the statement. -/
structure State.Sampled (s t : State) (m : ModelId) : Prop where
  out : (s.model m).state = .disabled ∨ (s.model m).state = .enabling → t.model m = s.model m
  still : (s.model m).state = .idle ∨ (s.model m).state = .holding ∨ (s.model m).state = .stopped ∨
    (s.model m).state = .faulted → t.model m = (s.model m).record (s.model m).lastSetpoint
  returning : (s.model m).state = .returning → (s.model m).returnSample ≠ (s.model m).config.home →
    t.model m = (s.model m).record (s.model m).returnSample
  home : (s.model m).state = .returning → (s.model m).returnSample = (s.model m).config.home →
    s.ComesToRest t m ((s.model m).record (s.model m).config.home)
  playing : ∀ pos, (s.model m).state = .running → (s.model m).position = some pos →
    (s.playSample (s.model m) pos).1 = false → t.model m = (s.model m).played (s.playSample (s.model m) pos)
  goHome : ∀ pos u, (s.model m).state = .running → (s.model m).position = some pos →
    (s.playSample (s.model m) pos).1 = true → s.cue (s.playSample (s.model m) pos).2.1.cue = some u →
    u.endAction = .goHome → t.model m =
      { ((s.model m).played (s.playSample (s.model m) pos)).dropCue with state := .returning }
  stay : ∀ pos u, (s.model m).state = .running → (s.model m).position = some pos →
    (s.playSample (s.model m) pos).1 = true → s.cue (s.playSample (s.model m) pos).2.1.cue = some u →
    u.endAction = .stay → s.ComesToRest t m ((s.model m).played (s.playSample (s.model m) pos))

section
variable {s v t : State} {m : ModelId} (scene : v.scene = s.timed.scene) (before : v.localAt m = s.localAt m)
  (after : t.localAt m = (sampleModel m v).1.localAt m)
  (alert : s.Alone m → v.alert = s.alert ∧ t.steady.alert = (sampleModel m v).1.steady.alert)
include scene before after alert

/-- R8: the sampled model enters IDLE with its setpoint recorded. -/
theorem entersIdle_of_sampled {g : Model → Model} (sample : (sampleModel m v).1 = enterIdle m (v.modModel m g))
    (moving : (g (s.model m)).state = .running ∨ (g (s.model m)).state = .returning)
    (config : (g (s.model m)).config = (s.model m).config)
    (pending : (g (s.model m)).commitPending = (s.model m).commitPending)
    (staged : (g (s.model m)).staged = (s.model m).staged) (seen : (g (s.model m)).flagSeen = (s.model m).flagSeen) :
    State.EntersIdle m (g (s.model m)) s.timed (v.modModel m g) t where
  scene := scene
  moving := moving
  config := config
  pending := pending
  staged := staged
  seen := seen
  place := by
    have model : v.model m = s.model m := congrArg Local.model before
    rw [modModel_local, before, model]
    rfl
  after := by rw [after, sample]
  alert alone := by
    obtain ⟨same, steady⟩ := alert alone
    exact ⟨same, by rw [steady, sample]⟩

theorem sampled_of_run : s.Sampled t m := by
  have model : v.model m = s.model m := congrArg Local.model before
  have state : (v.model m).state = (s.model m).state := congrArg Model.state model
  have result {u : State} (sample : (sampleModel m v).1 = u) : t.model m = u.model m :=
    congrArg Local.model (after.trans (congrArg (fun u : State => u.localAt m) sample))
  have recorded {g : Model → Model} (sample : (sampleModel m v).1 = v.modModel m g) : t.model m = g (s.model m) := by
    rw [result sample, State.modModel_model_self, model]
  have cues : v.cue = s.cue := State.cue_of_scene (s := s.timed) scene
  have profiles : v.profile = s.profile := State.profile_of_scene (s := s.timed) scene
  have settings : v.settings = s.settings := State.settings_of_scene (s := s.timed) scene
  have sample (pos : CuePosition) : v.playSample (v.model m) pos = s.playSample (s.model m) pos := by
    rw [State.playSample_congr cues profiles settings, model]
  refine ⟨fun out => ?_, fun still => ?_, fun returning away => ?_, fun returning home => ?_,
    fun pos running place playing => ?_, fun pos u running place ended cue action => ?_,
    fun pos u running place ended cue action => ?_⟩
  · rw [result (sampleModel_of_out (state ▸ out)), model]
  · exact recorded (sampleModel_of_still (state ▸ still))
  · rw [recorded ((sampleModel_of_returning (state.trans returning)).trans (if_neg (by rw [model]; exact away))), model]
  · have enters : (sampleModel m v).1 = enterIdle m (v.modModel m fun y => y.record (s.model m).config.home) := by
      rw [sampleModel_of_returning (state.trans returning), model, if_pos home, home]
    exact (entersIdle_of_sampled scene before after alert enters (.inr returning) rfl rfl rfl rfl).comesToRest
  · have play : (v.model m).position = some pos := by rw [model, place]
    have run := sampleModel_of_running (state.trans running) play
    rw [sample, if_neg (by simp [playing])] at run
    exact recorded run
  · have play : (v.model m).position = some pos := by rw [model, place]
    have run := sampleModel_of_running (state.trans running) play
    have found : (v.modModel m fun y => y.played (s.playSample (s.model m) pos)).cue
        (s.playSample (s.model m) pos).2.1.cue = some u := (congrFun cues _).trans cue
    rw [sample, if_pos ended, cueEnds_of_goHome found action] at run
    rw [result run, changeModel_model_self, State.modModel_model_self, model]
    rfl
  · have play : (v.model m).position = some pos := by rw [model, place]
    have run := sampleModel_of_running (state.trans running) play
    have found : (v.modModel m fun y => y.played (s.playSample (s.model m) pos)).cue
        (s.playSample (s.model m) pos).2.1.cue = some u := (congrFun cues _).trans cue
    rw [sample, if_pos ended, cueEnds_of_stay found action] at run
    exact (entersIdle_of_sampled scene before after alert run (.inl running) rfl rfl rfl rfl).comesToRest

end

/-- Settles O47: each model in the run of samples, by its state, and what the run leaves. -/
theorem sampleMovesEveryModel : Obligations.SampleMovesEveryModel := by
  intro s running
  refine ⟨_, (exec_sampleTimerExpiry s).trans (act_of_running running), ?_⟩
  obtain ⟨scene, place, alert⟩ := sampleExpiry_settled s
  have kept : (settle (sampleExpiry s)).scene = s.timed.scene := scene.trans (sampleModels_from 0 s.timed).1
  have sampled (m : ModelId) : s.Sampled (settle (sampleExpiry s)) m := by
    obtain ⟨-, v, seen, before, after, quiet⟩ := sampleModels_from m s.timed
    refine sampled_of_run seen before ((place m).trans after) fun alone => ?_
    obtain ⟨same, steady⟩ := quiet alone
    refine ⟨same, alert.trans ?_⟩
    simp only [State.steady, steady]
  generalize settle (sampleExpiry s) = t at *
  refine ⟨congrArg Scene.sampleTimer kept, congrArg Scene.clock kept, congrArg Scene.cues kept,
    congrArg Scene.profiles kept, congrArg Scene.settings kept, congrArg Scene.gallery kept, congrArg Scene.zones kept,
    congrArg Scene.buttons kept, congrArg Scene.nodes kept, fun m => ?_⟩
  obtain ⟨out, still, returning, home, playing, goHome, stay⟩ := sampled m
  exact ⟨out, still, returning, home, fun pos running place => ⟨playing pos running place,
    fun u => goHome pos u running place, fun u => stay pos u running place⟩⟩

end Sys2Proof.Machine

/-! ## Playback: segments, samples and the two clamps (R33 to R44) -/

namespace Sys2Proof.Machine

/-! ### Working values (R33 to R37) -/

theorem stretched_of_pos {d : Nat} {o : Int} (h : 0 < (d : Int) + 10 * o) : (stretched d o : Int) = d + 10 * o :=
  Int.toNat_of_nonneg h.le

theorem stretched_of_nonpos {d : Nat} {o : Int} (h : (d : Int) + 10 * o ≤ 0) : stretched d o = 0 :=
  Int.toNat_of_nonpos h

/-- R36: the longest stretched duration of fields in range. -/
theorem stretched_le {d : Nat} {o : Int} (duration : d ≤ 10000) (offset : o ≤ 127) : stretched d o ≤ 11270 := by
  unfold stretched; omega

/-- R35 to R37: the working values of a segment of a PLAY step. -/
theorem beginSegment_play {s : State} {k : ProfileId} {p : Profile} {g : Segment} {pos : CuePosition}
    (profile : s.profile k = some p) (segment : p.segments[pos.segment]? = some g) (c : ModelConfig) :
    s.beginSegment c (.play k) pos = { pos with
      duration := stretched g.duration (c.offset g.stretch)
      segStart := if pos.segment = 0 then pos.stepStart else pos.segEnd
      segEnd := segmentEnd p.mode pos.stepStart g.target } := by
  simp [State.beginSegment, profile, segment]

theorem saturate16_eq (x : Int) : saturate16 x = if 32767 < x then 32767 else if x < -32768 then -32768 else x := by
  unfold saturate16
  split
  · omega
  · split <;> omega

/-- R34: a step that the cue has begins with its first segment. -/
theorem beginStep_of_step {s : State} {steps : List CueStep} {k : Nat} {step : CueStep} (h : steps[k]? = some step)
    (c : ModelConfig) (last : Int) (pos : CuePosition) :
    s.beginStep c steps last k pos = s.beginSegment c step { pos with step := k, segment := 0, stepStart := last } := by
  simp only [State.beginStep, h]

/-- What the segments leave of a position: its cue, its place in the cue, its elapsed time and its step start. -/
theorem beginSegment_place (s : State) (c : ModelConfig) (step : CueStep) (pos : CuePosition) :
    s.beginSegment c step pos = { pos with
      duration := (s.beginSegment c step pos).duration
      segStart := (s.beginSegment c step pos).segStart
      segEnd := (s.beginSegment c step pos).segEnd } := by
  unfold State.beginSegment
  cases step with
  | dwell n => rfl
  | play k => dsimp only; split <;> rfl

theorem beginStep_place (s : State) (c : ModelConfig) (steps : List CueStep) (last : Int) (k : Nat)
    (pos : CuePosition) : s.beginStep c steps last k pos = { pos with
      step := k, segment := 0, stepStart := last
      duration := (s.beginStep c steps last k pos).duration
      segStart := (s.beginStep c steps last k pos).segStart
      segEnd := (s.beginStep c steps last k pos).segEnd } := by
  cases h : steps[k]? with
  | none => simp only [State.beginStep, h]
  | some step => rw [beginStep_of_step h]; exact beginSegment_place s c step _

/-- Settles O37: the working values of a PLAY segment and of a DWELL step, and the position of a cue that starts. -/
theorem segmentsBeginWithTheirWorkingValues : Obligations.SegmentsBeginWithTheirWorkingValues := by
  refine ⟨fun s f k p g pos profile segment => ?_, fun s f n pos => rfl, fun s f q u last cue => ?_⟩
  · intro o begun
    have offset : f.offset g.stretch = o := by cases hs : g.stretch <;> simp only [ModelConfig.offset, o, hs]
    have working : begun = { pos with
        duration := stretched g.duration o
        segStart := if pos.segment = 0 then pos.stepStart else pos.segEnd
        segEnd := segmentEnd p.mode pos.stepStart g.target } := offset ▸ beginSegment_play profile segment f
    clear_value begun
    subst working
    refine ⟨stretched_of_pos, stretched_of_nonpos, fun d _ top => stretched_le d top, fun abs => ?_, fun rel => ?_, rfl,
      rfl, rfl, rfl, rfl, rfl, rfl⟩
    · dsimp only; rw [abs]; rfl
    · dsimp only; rw [rel]; exact saturate16_eq _
  · intro pos
    have begun : pos = s.beginStep f u.steps last 0
        { cue := q, repeats := u.repeats, step := 0, segment := 0, elapsed := 0, stepStart := last, duration := 0,
          segStart := last, segEnd := last } := by
      simp only [pos, State.startPosition, cue, Option.map_some, Option.getD_some]
    clear_value pos
    subst begun
    refine ⟨?_, ?_, ?_, ?_, ?_, ?_, fun first rest steps => ?_⟩
    case refine_7 => exact beginStep_of_step (by rw [steps]; rfl) f last _
    all_goals rw [beginStep_place]

/-! ### The clamps (R41, R42) -/

/-- R42: a rate-limited setpoint lies between the one before and its target. -/
theorem clampRate_between (rate : Nat) (prev target : Int) :
    min prev target ≤ clampRate rate prev target ∧ clampRate rate prev target ≤ max prev target := by
  unfold clampRate; omega

/-- R42: how far a setpoint moves: all the way where the rate allows it, and by the rate otherwise. -/
theorem clampRate_moves (rate : Nat) (prev target : Int) :
    |clampRate rate prev target - prev| ≤ rate ∧
    (|target - prev| ≤ rate → clampRate rate prev target = target) ∧
    ((rate : Int) < |target - prev| → |clampRate rate prev target - prev| = rate) := by
  simp only [Int.abs_eq_natAbs, clampRate]; omega

/-! ### Within a segment (R40) -/

/-- Truncated division loses less than the divisor, and toward 0. -/
theorem tdiv_mul_bounds (n : Int) {d : Int} (h : 0 < d) :
    |n.tdiv d * d| ≤ |n| ∧ |n - n.tdiv d * d| < d := by
  have nonneg (n : Int) (hn : 0 ≤ n) : 0 ≤ n.tdiv d * d ∧ n.tdiv d * d ≤ n ∧ n - n.tdiv d * d < d := by
    have parts := Int.mul_tdiv_add_tmod n d
    have below := Int.tmod_lt_of_pos n h
    have above := Int.tmod_nonneg d hn
    have quotient := mul_nonneg (Int.tdiv_nonneg hn h.le) h.le
    rw [mul_comm] at parts
    omega
  rcases le_total 0 n with hn | hn
  · obtain ⟨low, high, near⟩ := nonneg n hn
    rw [abs_of_nonneg low, abs_of_nonneg hn, abs_of_nonneg (by omega)]
    exact ⟨high, near⟩
  · obtain ⟨low, high, near⟩ := nonneg (-n) (by omega)
    rw [Int.neg_tdiv, neg_mul] at low high near
    rw [abs_of_nonpos (by omega), abs_of_nonpos hn, abs_of_nonpos (by omega)]
    omega

/-- R40: the quotient of a segment's line lies between 0 and the segment's length, and short of its end. -/
theorem tdiv_within {len : Int} {e d : Nat} (h : e < d) :
    min 0 len ≤ (len * e).tdiv d ∧ (len * e).tdiv d ≤ max 0 len ∧ ((len * e).tdiv d = len → len = 0) := by
  have up (len : Int) (hl : 0 ≤ len) :
      0 ≤ (len * e).tdiv d ∧ (len * e).tdiv d ≤ len ∧ ((len * e).tdiv d = len → len = 0) := by
    have reached : 0 ≤ len * e := mul_nonneg hl (by omega)
    have quotient := Int.tdiv_nonneg reached (show (0 : Int) ≤ d by omega)
    rw [Int.tdiv_eq_ediv_of_nonneg reached] at *
    rcases hl.eq_or_lt with rfl | pos
    · simp
    · have short : len * e / d < len := Int.ediv_lt_of_lt_mul (by omega) (by
        exact mul_lt_mul_of_pos_left (by omega) pos)
      omega
  rcases le_total 0 len with hl | hl
  · obtain ⟨low, high, short⟩ := up len hl
    omega
  · obtain ⟨low, high, short⟩ := up (-len) (by omega)
    rw [neg_mul, Int.neg_tdiv] at low high short
    omega

/-! ### The advance (R38) -/

/-- R38: a segment in play goes on. -/
theorem advance_of_playing {s : State} {pos : CuePosition} (h : pos.elapsed < pos.duration) (c : ModelConfig)
    (last : Int) (fuel : Nat) : s.advance c last (fuel + 1) pos = (false, pos) := by simp [State.advance, h]

/-- R38: a segment whose stretched duration is reached ends; what is left of the elapsed time counts on in the place
that begins. -/
theorem advance_of_next {s : State} {c : ModelConfig} {last : Int} {pos next : CuePosition}
    (ended : pos.duration ≤ pos.elapsed)
    (begins : s.nextPlace c last { pos with elapsed := pos.elapsed - pos.duration } = some next) (fuel : Nat) :
    s.advance c last (fuel + 1) pos = s.advance c last fuel next := by
  simp only [State.advance, if_neg (Nat.not_lt.mpr ended), begins]

/-- R38: a segment ends and nothing begins: the cue has ended. -/
theorem advance_of_last {s : State} {c : ModelConfig} {last : Int} {pos : CuePosition}
    (ended : pos.duration ≤ pos.elapsed)
    (final : s.nextPlace c last { pos with elapsed := pos.elapsed - pos.duration } = none) (fuel : Nat) :
    s.advance c last (fuel + 1) pos = (true, { pos with elapsed := pos.elapsed - pos.duration }) := by
  simp only [State.advance, if_neg (Nat.not_lt.mpr ended), final]

/-- R38 points 2 to 4 for a position whose cue and step are defined. -/
theorem nextPlace_eq {s : State} {pos : CuePosition} {u : Cue} {step : CueStep} (cue : s.cue pos.cue = some u)
    (place : u.steps[pos.step]? = some step) (c : ModelConfig) (last : Int) : s.nextPlace c last pos =
      if pos.segment + 1 < s.segmentCount step then
        some (s.beginSegment c step { pos with segment := pos.segment + 1 })
      else if pos.step + 1 < u.steps.length then some (s.beginStep c u.steps last (pos.step + 1) pos)
      else if 1 < pos.repeats then some (s.beginStep c u.steps last 0 { pos with repeats := pos.repeats - 1 })
      else none := by
  simp only [State.nextPlace, cue, place]

/-- Settles O46: the line of a segment, the rate clamp, the advance by its tests, and what a sample makes of them. -/
theorem setpointsFollowThePath : Obligations.SetpointsFollowThePath := by
  refine ⟨fun pos playing => ?_, fun rate prev target => ?_, fun s f last fuel pos => ?_,
    fun s f last pos u step cue place => ?_, fun s x pos => ?_⟩
  · obtain ⟨low, high, short⟩ := tdiv_within (len := pos.segEnd - pos.segStart) playing
    obtain ⟨toward, near⟩ := tdiv_mul_bounds ((pos.segEnd - pos.segStart) * pos.elapsed)
      (show (0 : Int) < pos.duration by omega)
    have moved : interpolate pos - pos.segStart =
        ((pos.segEnd - pos.segStart) * (pos.elapsed : Int)).tdiv (pos.duration : Int) := by
      unfold interpolate; omega
    rw [← moved] at low high short toward near
    exact ⟨by omega, by omega, by omega, toward, near⟩
  · obtain ⟨step, whole, rated⟩ := clampRate_moves rate prev target
    obtain ⟨low, high⟩ := clampRate_between rate prev target
    exact ⟨step, low, high, whole, rated⟩
  · exact ⟨fun playing => advance_of_playing playing f last fuel,
      fun next ended begins => advance_of_next ended begins fuel, fun ended final => advance_of_last ended final fuel⟩
  · rw [nextPlace_eq cue place]
    refine ⟨fun more => if_pos more, fun other done begins => ?_, fun first done final again begins => ?_,
      fun done final once => ?_⟩
    · have more : pos.step + 1 < u.steps.length := (List.getElem?_eq_some_iff.mp begins).1
      rw [if_neg (by omega), if_pos more, beginStep_of_step begins]
    · rw [if_neg (by omega), if_neg (by omega), if_pos again, beginStep_of_step begins]
    · rw [if_neg (by omega), if_neg (by omega), if_neg (by omega)]
  · exact ⟨rfl, rfl⟩

end Sys2Proof.Machine

/-! ## Models within their travel: what most operations leave

`WithinTravel` reads of a model its records, whether it is in service, its last setpoint and the length of its history:
its berth. Most operations leave every berth, which the views show. -/

namespace Sys2Proof.Machine

/-! ### One model's berth -/

/-- What `WithinTravel` says of one model. -/
structure Model.Fits (x : Model) : Prop where
  config : x.config.InRange
  staged : ∀ c, x.staged = some c → c.InRange ∧ c.driveNode = x.config.driveNode ∧ c.axis = x.config.axis
  travel : x.state ≠ .disabled → x.config.travelMin ≤ x.lastSetpoint ∧ x.lastSetpoint ≤ x.config.travelMax
  history : x.history.length = 8

theorem State.withinTravel_iff (s : State) : s.WithinTravel ↔ ∀ m, (s.model m).Fits :=
  ⟨fun h m => ⟨h.config m, h.staged m, h.travel m, h.history m⟩,
    fun h => ⟨fun m => (h m).config, fun m => (h m).staged, fun m => (h m).travel, fun m => (h m).history⟩⟩

/-- The fields of a model that `Fits` reads. -/
def Model.berth (x : Model) : ModelConfig × Option ModelConfig × Bool × Int × Nat :=
  (x.config, x.staged, x.state == .disabled, x.lastSetpoint, x.history.length)

theorem Model.Fits.of_berth {x y : Model} (h : x.Fits) (same : y.berth = x.berth) : y.Fits := by
  simp only [Model.berth, Prod.mk.injEq] at same
  obtain ⟨config, staged, disabled, setpoint, history⟩ := same
  have service : y.state ≠ .disabled → x.state ≠ .disabled := by
    intro out e; rw [e] at disabled; simp at disabled; exact out disabled
  exact ⟨config ▸ h.config, fun c e => config ▸ h.staged c (staged ▸ e),
    fun e => by rw [config, setpoint]; exact h.travel (service e), history ▸ h.history⟩

/-- The berth of the model in a view. -/
def View.berth (v : View) : ModelConfig × Option ModelConfig × Bool × Int × Nat := v.model.berth

theorem State.view_berth (s : State) (k : ModelId) : (s.view k).berth = (s.model k).berth := rfl

/-- An operation that leaves every berth leaves the models within their travel. -/
theorem State.WithinTravel.of_berth {s t : State} (h : s.WithinTravel)
    (same : ∀ k, (t.view k).berth = (s.view k).berth) : t.WithinTravel :=
  t.withinTravel_iff.mpr fun k => (s.withinTravel_iff.mp h k).of_berth (same k)

/-- An operation on one model leaves the models within their travel where it leaves that model so. -/
theorem State.WithinTravel.of_alters {m : ModelId} {s t : State} (h : s.WithinTravel) (alters : State.Alters m s t)
    (fits : (s.model m).Fits → (t.model m).Fits) : t.WithinTravel :=
  t.withinTravel_iff.mpr fun k => by
    have before := s.withinTravel_iff.mp h
    by_cases e : k = m
    · rw [e]; exact fits (before m)
    · have same : t.model k = s.model k := congrArg View.model (alters.others k e)
      rw [same]; exact before k

theorem withinTravel_ite {c : Prop} [Decidable c] {t u : State} (ht : t.WithinTravel) (hu : u.WithinTravel) :
    (if c then t else u).WithinTravel := by split <;> assumption

@[simp] theorem ite_view_berth (c : Prop) [Decidable c] (t u : State) (k : ModelId) :
    (State.view (if c then t else u) k).berth = if c then (t.view k).berth else (u.view k).berth :=
  apply_ite (fun s : State => (s.view k).berth) c t u

/-! ### Changes that leave the berth -/

theorem modModel_berth {s : State} {m : ModelId} {f : Model → Model} (same : (f (s.model m)).berth = (s.model m).berth)
    (k : ModelId) : ((s.modModel m f).view k).berth = (s.view k).berth := by
  rw [modModel_view]
  split
  · rename_i e; rw [e]; exact same
  · rfl

@[simp] theorem modWatch_berth (s : State) (m : ModelId) (f : Watch → Watch) (k : ModelId) :
    ((s.modWatch m f).view k).berth = (s.view k).berth := by
  rw [modWatch_view]
  split
  · rename_i e; rw [e]; rfl
  · rfl

@[simp] theorem onMode_berth (s : State) (f : ModeControl → ModeControl) (k : ModelId) :
    ((s.onMode f).view k).berth = (s.view k).berth := rfl

@[simp] theorem onSup_berth (s : State) (f : Supervisor → Supervisor) (k : ModelId) :
    ((s.onSup f).view k).berth = (s.view k).berth := rfl

theorem changeModel_berth {m : ModelId} {f : Model → Model} {s : State}
    (same : (f (s.model m)).berth = (s.model m).berth) (k : ModelId) :
    ((changeModel m f s).view k).berth = (s.view k).berth := by
  rw [changeModel_view]
  split
  · rename_i e
    obtain ⟨r, run⟩ := (s.model m).settled_eq (f (s.model m))
    rw [e]
    exact (congrArg Model.berth run).trans same
  · rfl

theorem Model.cut_berth (x : Model) : x.cut.berth = x.berth := by
  unfold Model.cut
  cases hs : x.state
  case holding => dsimp only; split <;> simp [Model.berth, Model.dropCue, hs]
  all_goals simp [Model.berth, Model.dropCue, hs]

theorem Model.pause_berth (x : Model) : x.pause.berth = x.berth := by
  unfold Model.pause
  cases hs : x.state <;> simp only [Model.berth, hs]
  all_goals try rfl
  split <;> simp [hs]

theorem Model.resumeEdge_berth (x : Model) : x.resumeEdge.berth = x.berth := by
  unfold Model.resumeEdge
  split
  · rename_i held
    dsimp only
    split <;> simp [Model.berth, held]
  · rfl

theorem Model.zoneHold_berth (x : Model) : x.zoneHold.berth = x.berth := by
  unfold Model.zoneHold
  cases hs : x.state <;> simp only [Model.berth, hs] <;> rfl

theorem Model.zoneRelease_berth (g : GalleryMode) (x : Model) : (x.zoneRelease g).berth = x.berth := by
  unfold Model.zoneRelease
  split
  · rename_i held
    dsimp only
    split
    · rfl
    · split
      · split
        · simp [Model.berth, held]
        · exact Model.cut_berth _
      all_goals simp [Model.berth, held]
  · rfl

theorem Model.stop_berth (x : Model) : x.stop.berth = x.berth := by
  unfold Model.stop
  cases hs : x.state <;> simp only [Model.berth, hs, Model.dropCue, Model.dropHold] <;> rfl

theorem Model.trip_berth (x : Model) : x.trip.berth = x.berth := by
  unfold Model.trip
  cases hs : x.state <;> simp only [Model.berth, hs, Model.dropCue, Model.dropHold] <;> rfl

theorem Model.started_berth {x : Model} (idle : x.state = .idle) (pos : CuePosition) (o : Owner) (paused : Bool) :
    (x.started pos o paused).berth = x.berth := by
  cases paused <;> simp [Model.started, Model.berth, idle]

@[simp] theorem cutModel_berth (m k : ModelId) (s : State) : ((cutModel m s).view k).berth = (s.view k).berth :=
  changeModel_berth (Model.cut_berth _) k

@[simp] theorem pauseModel_berth (m k : ModelId) (s : State) : ((pauseModel m s).view k).berth = (s.view k).berth :=
  changeModel_berth (Model.pause_berth _) k

@[simp] theorem resumeModel_berth (m k : ModelId) (s : State) : ((resumeModel m s).view k).berth = (s.view k).berth :=
  changeModel_berth (Model.resumeEdge_berth _) k

@[simp] theorem pauseWindowEnds_berth (m k : ModelId) (s : State) :
    ((pauseWindowEnds m s).view k).berth = (s.view k).berth := by
  unfold pauseWindowEnds
  split
  · refine changeModel_berth ?_ k
    rw [Model.cut_berth]
    rfl
  · rfl

@[simp] theorem holdModel_berth (m k : ModelId) (s : State) : ((holdModel m s).view k).berth = (s.view k).berth :=
  changeModel_berth (Model.zoneHold_berth _) k

@[simp] theorem stopModel_berth (m k : ModelId) (s : State) : ((stopModel m s).view k).berth = (s.view k).berth :=
  changeModel_berth (Model.stop_berth _) k

@[simp] theorem tripModel_berth (m k : ModelId) (s : State) : ((tripModel m s).view k).berth = (s.view k).berth :=
  changeModel_berth (Model.trip_berth _) k

/-! ### Faults -/

@[simp] theorem latchAndRaise_berth (id : FaultId) (k : ModelId) (s : State) :
    ((latchAndRaise id s).view k).berth = (s.view k).berth := by
  unfold latchAndRaise
  rw [raise_view]
  split <;> simp

@[simp] theorem activate_berth (id : FaultId) (k : ModelId) (s : State) :
    ((activate id s).view k).berth = (s.view k).berth := by simp [activate]

@[simp] theorem report_berth (id : FaultId) (v : Bool) (k : ModelId) (s : State) :
    ((report id v s).view k).berth = (s.view k).berth := by simp [report]

@[simp] theorem driveReport_berth (m k : ModelId) (s : State) : ((driveReport m s).view k).berth = (s.view k).berth :=
  latchAndRaise_berth _ k s

@[simp] theorem redetect_berth (code : Fin 15) (k : ModelId) (s : State) :
    ((redetect code s).view k).berth = (s.view k).berth :=
  forEach_keeps (fun t => (t.view k).berth) _ (fun id t => report_berth id _ k t) _ s

/-! ### Starts and zones -/

@[simp] theorem startRequest_berth (m : ModelId) (c : CueId) (o : Owner) (paused : Bool) (k : ModelId) (s : State) :
    ((startRequest m c o paused s).1.view k).berth = (s.view k).berth := by
  unfold startRequest
  split
  · rename_i ok
    exact changeModel_berth (Model.started_berth (verdict_ok ok).1 _ o paused) k
  all_goals simp

@[simp] theorem serveEntry_berth (m : ModelId) (c : CueId) (k : ModelId) (s : State) :
    ((serveEntry m c s).1.view k).berth = (s.view k).berth := by
  have decided := startRequest_berth m c .control false k s
  unfold serveEntry
  split <;> rename_i e <;> rw [e] at decided <;> simpa using decided

@[simp] theorem becomeFree_berth (m k : ModelId) (s : State) : ((becomeFree m s).view k).berth = (s.view k).berth := by
  unfold becomeFree
  split
  · simp
  · rename_i entry _
    have served := serveEntry_berth m entry.cue k s
    split <;> rename_i e <;> rw [e] at served <;> simpa using served

@[simp] theorem freeIfStartable_berth (m k : ModelId) (s : State) :
    ((freeIfStartable m s).view k).berth = (s.view k).berth := by simp [freeIfStartable]

@[simp] theorem freeAll_berth (k : ModelId) (s : State) : ((freeAll s).view k).berth = (s.view k).berth :=
  forEach_keeps (fun t => (t.view k).berth) _ (fun m t => freeIfStartable_berth m k t) _ s

@[simp] theorem releaseModel_berth (m k : ModelId) (s : State) :
    ((releaseModel m s).view k).berth = (s.view k).berth := by
  unfold releaseModel
  split
  · simp
  · exact changeModel_berth (Model.zoneRelease_berth _ _) k

@[simp] theorem updateMark_berth (m k : ModelId) (s : State) : ((updateMark m s).view k).berth = (s.view k).berth := by
  simp [updateMark]

@[simp] theorem setZone_berth (z : ZoneId) (new : Zone) (k : ModelId) (s : State) :
    ((setZone z new s).view k).berth = (s.view k).berth := by
  unfold setZone
  dsimp only
  split
  · rfl
  · exact forEach_keeps (fun t => (t.view k).berth) _ (fun m t => by simp) _ _

@[simp] theorem reviewZone_berth (z : ZoneId) (k : ModelId) (s : State) :
    ((reviewZone z s).view k).berth = (s.view k).berth := by
  unfold reviewZone
  dsimp only
  split
  · simp
  · split <;> simp

@[simp] theorem reviewZones_berth (k : ModelId) (s : State) : ((reviewZones s).view k).berth = (s.view k).berth :=
  forEach_keeps (fun t => (t.view k).berth) _ (fun z t => reviewZone_berth z k t) _ s

@[simp] theorem settleEnds_berth (z : ZoneId) (k : ModelId) (s : State) :
    ((settleEnds z s).view k).berth = (s.view k).berth := by simp [settleEnds]

/-! ### Gallery modes and the schedule list -/

@[simp] theorem setMode_berth (g : GalleryMode) (k : ModelId) (s : State) :
    ((setMode g s).view k).berth = (s.view k).berth := rfl

@[simp] theorem cutAllInPlay_berth (k : ModelId) (s : State) : ((cutAllInPlay s).view k).berth = (s.view k).berth :=
  forEach_keeps (fun t => (t.view k).berth) _ (fun m t => by simp) _ s

@[simp] theorem cutVisitors_berth (k : ModelId) (s : State) : ((cutVisitors s).view k).berth = (s.view k).berth :=
  forEach_keeps (fun t => (t.view k).berth) _ (fun m t => by split <;> simp) _ s

@[simp] theorem relaxFollowing_berth (k : ModelId) (s : State) :
    ((relaxFollowing s).view k).berth = (s.view k).berth :=
  forEach_keeps (fun t => (t.view k).berth) _ (fun m t => by
    split
    · rw [quench_view]; exact modModel_berth rfl k
    · rfl) _ s

@[simp] theorem enterClosed_berth (k : ModelId) (s : State) : ((enterClosed s).view k).berth = (s.view k).berth := by
  simp [enterClosed]

@[simp] theorem enterService_berth (k : ModelId) (s : State) : ((enterService s).view k).berth = (s.view k).berth := by
  simp [enterService]

@[simp] theorem enterOpen_berth (k : ModelId) (s : State) : ((enterOpen s).view k).berth = (s.view k).berth := by
  simp [enterOpen]

@[simp] theorem enterDoze_berth (k : ModelId) (s : State) : ((enterDoze s).view k).berth = (s.view k).berth := by
  simp [enterDoze]

@[simp] theorem endWakeTest_berth (k : ModelId) (s : State) : ((endWakeTest s).view k).berth = (s.view k).berth := by
  simp [endWakeTest]

@[simp] theorem sendWake_berth (k : ModelId) (s : State) : ((sendWake s).view k).berth = (s.view k).berth := by
  simp [sendWake, beginWake]

theorem withEntryTest_berth {taking : State → State} {k : ModelId} {s : State}
    (same : ((taking s).view k).berth = (s.view k).berth) :
    ((withEntryTest taking s).view k).berth = (s.view k).berth := by simp [withEntryTest, same]

@[simp] theorem requestWake_berth (k : ModelId) (s : State) : ((requestWake s).view k).berth = (s.view k).berth :=
  withEntryTest_berth (sendWake_berth k s)

@[simp] theorem dozeEnds_berth (k : ModelId) (s : State) : ((dozeEnds s).view k).berth = (s.view k).berth := by
  simp [dozeEnds]

@[simp] theorem wakeLimitEnds_berth (k : ModelId) (s : State) :
    ((wakeLimitEnds s).view k).berth = (s.view k).berth := by
  unfold wakeLimitEnds
  split
  · rw [enterOpen_berth]
    exact forEach_keeps (fun t => (t.view k).berth) _ (fun m t => driveReport_berth m k t) _ _
  · rfl

@[simp] theorem modeCommand_berth (g : GalleryMode) (k : ModelId) (s : State) :
    ((modeCommand g s).1.view k).berth = (s.view k).berth := by
  cases g <;> simp only [modeCommand]
  case doze => split <;> simp
  case opened => split <;> simp
  all_goals simp

@[simp] theorem modeArgs_berth (args : List Byte) (k : ModelId) (s : State) :
    ((modeArgs args s).1.view k).berth = (s.view k).berth := by
  unfold modeArgs
  (repeat' split) <;> simp

@[simp] theorem becomeDue_berth (m k : ModelId) (s : State) : ((becomeDue m s).view k).berth = (s.view k).berth := by
  unfold becomeDue
  split
  · rfl
  · dsimp only
    split
    · simp [State.onMotion_view]
    · rw [withEntryTest_berth (by simp)]
      simp [State.onMotion_view]

@[simp] theorem nextDue_berth (k : ModelId) (s : State) : ((nextDue s).view k).berth = (s.view k).berth := by
  unfold nextDue
  split <;> simp

@[simp] theorem syncClock_berth (v : Clock) (k : ModelId) (s : State) :
    ((syncClock v s).view k).berth = (s.view k).berth :=
  forEach_keeps (fun t => (t.view k).berth) _ (fun m t => becomeDue_berth m k t) _ _

@[simp] theorem scheduleStart_berth (m : ModelId) (c : CueId) (start : Clock) (late : Nat) (k : ModelId) (s : State) :
    ((scheduleStart m c start late s).1.view k).berth = (s.view k).berth := by
  unfold scheduleStart
  split
  · rfl
  · dsimp only
    split
    · rfl
    · simp [State.onMotion_view]

/-! ### Presses -/

@[simp] theorem serveList_berth (m k : ModelId) (fuel : Nat) (s : State) :
    ((serveList m fuel s).view k).berth = (s.view k).berth := by
  induction fuel generalizing s with
  | zero => rfl
  | succ fuel ih =>
    unfold serveList
    split
    · rfl
    · rename_i r rest _
      have decided := startRequest_berth m r.cue (.button r.key) (s.startsPaused r.key) k s
      split <;> rename_i e <;> rw [e] at decided <;> simpa [ih] using decided

@[simp] theorem takeFreeNotice_berth (m k : ModelId) (s : State) :
    ((takeFreeNotice m s).view k).berth = (s.view k).berth := by simp [takeFreeNotice, State.onMotion_view]

@[simp] theorem pressStart_berth (i : EntryIx) (b : Button) (k : ModelId) (s : State) :
    ((pressStart i b s).view k).berth = (s.view k).berth := by
  have decided := startRequest_berth b.modelId b.cueId (.button b.key) false k s
  unfold pressStart
  split <;> rename_i e <;> rw [e] at decided <;> simpa using decided

@[simp] theorem press_berth (i : EntryIx) (b : Button) (k : ModelId) (s : State) :
    ((press i b s).view k).berth = (s.view k).berth := by
  unfold press
  dsimp only
  split
  · rfl
  · split <;> simp

@[simp] theorem callEdge_berth (i : EntryIx) (b : Button) (k : ModelId) (s : State) :
    ((callEdge i b s).view k).berth = (s.view k).berth := by
  unfold callEdge callPress
  (repeat' split) <;> simp

@[simp] theorem edgeCases_berth (i : EntryIx) (b : Button) (e : Edge) (k : ModelId) (s : State) :
    ((edgeCases i b e s).view k).berth = (s.view k).berth := by
  unfold edgeCases
  split <;> simp

@[simp] theorem takeEdge_berth (i : EntryIx) (e : Edge) (k : ModelId) (s : State) :
    ((takeEdge i e s).view k).berth = (s.view k).berth := by
  unfold takeEdge
  dsimp only
  split
  · simp
  · split
    · split <;> simp [clearSuspect_view]
    · split <;> simp

@[simp] theorem panelButton_berth (n : NodeId) (d : BitVec 16) (b : ButtonIx) (k : ModelId) (s : State) :
    ((panelButton n d b s).view k).berth = (s.view k).berth := by
  unfold panelButton
  dsimp only
  split
  · rfl
  · split <;> simp

@[simp] theorem takePanel_berth (n : NodeId) (d : BitVec 16) (hello : Bool) (k : ModelId) (s : State) :
    ((takePanel n d hello s).view k).berth = (s.view k).berth := by
  have taken : ((withEntryTest (forEach allButtons (panelButton n d)) s).view k).berth = (s.view k).berth :=
    withEntryTest_berth (forEach_keeps (fun t => (t.view k).berth) _ (fun b t => panelButton_berth n d b k t) _ s)
  simp [takePanel, taken]

@[simp] theorem dropButton_berth (key : Key) (k : ModelId) (s : State) :
    ((dropButton key s).view k).berth = (s.view k).berth := by
  unfold dropButton
  split
  · rfl
  · dsimp only
    split <;> simp [clearSuspect_view]

@[simp] theorem emptyRecorded_berth (n : NodeId) (k : ModelId) (s : State) :
    ((emptyRecorded n s).view k).berth = (s.view k).berth :=
  forEach_keeps (fun t => (t.view k).berth) _ (fun b t => dropButton_berth ⟨n, b⟩ k t) _ _

end Sys2Proof.Machine

/-! ## Models within their travel: what moves a model or writes its records (R14, R19, R22, R23, R43) -/

namespace Sys2Proof.Machine

/-! ### Nodes, drives and the ring -/

theorem quench_berth (id : FaultId) (k : ModelId) (s : State) : ((quench id s).view k).berth = (s.view k).berth := rfl

@[simp] theorem driveHeard_berth (n : NodeId) (k : ModelId) (s : State) :
    ((driveHeard n s).view k).berth = (s.view k).berth :=
  forEach_keeps (fun t => (t.view k).berth) _ (fun m t => by simp) _ s

@[simp] theorem nodeHeard_berth (n : NodeId) (k : ModelId) (s : State) :
    ((nodeHeard n s).view k).berth = (s.view k).berth := by simp [nodeHeard]

@[simp] theorem nodeSilenceEnds_berth (n : NodeId) (k : ModelId) (s : State) :
    ((nodeSilenceEnds n s).view k).berth = (s.view k).berth := by simp [nodeSilenceEnds]

@[simp] theorem driveSilenceEnds_berth (m k : ModelId) (s : State) :
    ((driveSilenceEnds m s).view k).berth = (s.view k).berth := by simp [driveSilenceEnds]

@[simp] theorem reportRing_berth (v : Bool) (k : ModelId) (s : State) :
    ((reportRing v s).view k).berth = (s.view k).berth := by simp [reportRing]

@[simp] theorem ringReturn_berth (k : ModelId) (s : State) : ((ringReturn s).view k).berth = (s.view k).berth := by
  simp [ringReturn]

@[simp] theorem ringMiss_berth (k : ModelId) (s : State) : ((ringMiss s).view k).berth = (s.view k).berth := by
  unfold ringMiss
  dsimp only
  split
  · split <;> simp
  · rfl

@[simp] theorem takePresence_berth (n : NodeId) (occupied : BitVec 8) (k : ModelId) (s : State) :
    ((takePresence n occupied s).view k).berth = (s.view k).berth := by simp [takePresence]

@[simp] theorem stopAsserts_berth (k : ModelId) (s : State) : ((stopAsserts s).view k).berth = (s.view k).berth := by
  have stopped (t : State) : ((forEach allModels stopModel t).view k).berth = (t.view k).berth :=
    forEach_keeps (fun t => (t.view k).berth) _ (fun m t => stopModel_berth m k t) _ t
  unfold stopAsserts
  dsimp only
  split
  · rfl
  · simp [stopped]

@[simp] theorem stopReleases_berth (k : ModelId) (s : State) :
    ((stopReleases s).view k).berth = (s.view k).berth := by
  unfold stopReleases
  dsimp only
  split <;> simp

@[simp] theorem holdLimitEnds_berth (m k : ModelId) (s : State) :
    ((holdLimitEnds m s).view k).berth = (s.view k).berth := by simp [holdLimitEnds]

/-! ### Table writes and sub-commands that leave every berth -/

@[simp] theorem storeNode_berth (n : NodeId) (f : NodeFields) (k : ModelId) (s : State) :
    ((storeNode n f s).view k).berth = (s.view k).berth := by simp [storeNode]

@[simp] theorem writeNode_berth (n : NodeId) (record : List Byte) (k : ModelId) (s : State) :
    ((writeNode n record s).1.view k).berth = (s.view k).berth := by
  unfold writeNode
  split
  · rfl
  · split <;> simp

@[simp] theorem storeRoute_berth (code : Fin 15) (r : Route) (k : ModelId) (s : State) :
    ((storeRoute code r s).view k).berth = (s.view k).berth := by simp [storeRoute, fillSilent_view]

@[simp] theorem writeRoute_berth (code : Fin 15) (record : List Byte) (k : ModelId) (s : State) :
    ((writeRoute code record s).1.view k).berth = (s.view k).berth := by
  unfold writeRoute
  split <;> simp

@[simp] theorem startNow_berth (args : List Byte) (k : ModelId) (s : State) :
    ((startNow args s).1.view k).berth = (s.view k).berth := by
  unfold startNow
  split
  · rfl
  · split <;> simp

@[simp] theorem startLater_berth (args : List Byte) (k : ModelId) (s : State) :
    ((startLater args s).1.view k).berth = (s.view k).berth := by
  unfold startLater
  split
  · rfl
  · split <;> simp

@[simp] theorem stopCue_berth (m k : ModelId) (s : State) : ((stopCue m s).1.view k).berth = (s.view k).berth := by
  unfold stopCue
  split <;> simp

@[simp] theorem syncArgs_berth (args : List Byte) (k : ModelId) (s : State) :
    ((syncArgs args s).1.view k).berth = (s.view k).berth := by
  unfold syncArgs
  split <;> simp

@[simp] theorem checkEntry_berth (m : ModelId) (position : Int) (load : Nat) (flagged : Bool) (k : ModelId)
    (s : State) : ((checkEntry m position load flagged s).view k).berth = (s.view k).berth := by
  have counted (run : Nat) (loads : List Nat) (seen : Model → Bool) :
      ((s.modModel m fun y => { y with run, loads, flagSeen := seen y }).view k).berth = (s.view k).berth :=
    modModel_berth rfl k
  simp [checkEntry, counted]

/-! ### Positions within travel -/

/-- A position lies within the travel of a record. -/
def ModelConfig.Covers (c : ModelConfig) (p : Int) : Prop := c.travelMin ≤ p ∧ p ≤ c.travelMax

/-- R41: a target brought into travel. -/
theorem clampTravel_covered {c : ModelConfig} (h : c.InRange) (raw : Int) : c.Covers (clampTravel c raw) := by
  have travel := h.travel
  unfold clampTravel ModelConfig.Covers
  split
  · omega
  · split <;> omega

/-- R42: a setpoint that moves from one position within travel toward another stays within travel. -/
theorem clampRate_covered {c : ModelConfig} {prev target : Int} (rate : Nat) (from' : c.Covers prev)
    (toward : c.Covers target) : c.Covers (clampRate rate prev target) := by
  have between := clampRate_between rate prev target
  unfold ModelConfig.Covers at *
  omega

/-- A model keeps its records and takes a position within travel. -/
theorem Model.Fits.moved {x y : Model} (h : x.Fits) (config : y.config = x.config) (staged : y.staged = x.staged)
    (travel : x.config.Covers y.lastSetpoint) (history : y.history.length = 8) : y.Fits where
  config := config ▸ h.config
  staged c e := config ▸ h.staged c (staged ▸ e)
  travel _ := config ▸ travel
  history := history

/-- R32, R43: a model records a position within travel. -/
theorem Model.Fits.record {x : Model} (h : x.Fits) {p : Int} (travel : x.config.Covers p) : (x.record p).Fits :=
  h.moved rfl rfl travel (by simp [Model.record, h.history])

/-- R14: a model is seated at the fed-back position, brought into travel. -/
theorem Model.Fits.seat {x : Model} (h : x.Fits) (p : Int) : (x.seat p).Fits :=
  h.moved rfl rfl (clampTravel_covered h.config p) rfl

/-- A model in service keeps its records, its position and its history. -/
theorem Model.Fits.goesOn {x y : Model} (h : x.Fits) (config : y.config = x.config) (staged : y.staged = x.staged)
    (setpoint : y.lastSetpoint = x.lastSetpoint) (history : y.history = x.history) (service : x.state ≠ .disabled) :
    y.Fits :=
  h.moved config staged (setpoint ▸ h.travel service) (history ▸ h.history)

/-- R23: a staged record that fits becomes the configured one. -/
theorem Model.Fits.apply {x : Model} (h : x.Fits) {c : ModelConfig} (staged : x.staged = some c)
    (fits : commitFits c x.lastSetpoint = true) : ({ x with config := c, staged := none, run := 0 } : Model).Fits := by
  have test := of_decide_eq_true fits
  exact ⟨(h.staged c staged).1, nofun, fun _ => ⟨test.1, test.2.1⟩, h.history⟩

/-- The run count of a model is not read. -/
theorem Model.Fits.settled {x y : Model} (h : y.Fits) : (x.settled y).Fits := by
  obtain ⟨r, e⟩ := x.settled_eq y
  rw [e]
  exact h.of_berth rfl

/-! ### Reseats -/

theorem changeModel_withinTravel {m : ModelId} {f : Model → Model} {s : State} (h : s.WithinTravel)
    (fits : (s.model m).Fits → (f (s.model m)).Fits) : (changeModel m f s).WithinTravel :=
  h.of_alters (changeModel_alters m f s) fun x => by rw [changeModel_model_self]; exact (fits x).settled

theorem modModel_withinTravel {m : ModelId} {f : Model → Model} {s : State} (h : s.WithinTravel)
    (fits : (s.model m).Fits → (f (s.model m)).Fits) : (s.modModel m f).WithinTravel :=
  h.of_alters (modModel_alters s m f) fun x => by rw [State.modModel_model_self]; exact fits x

/-- R14: the reseat choice of a seated model. -/
theorem Model.Fits.seatHome {x : Model} (h : x.Fits) (p : Int) (occupied : Bool) : ((x.seat p).goHome occupied).Fits := by
  have seated := h.seat p
  cases occupied <;>
    exact seated.moved rfl rfl (clampTravel_covered h.config p) seated.history

theorem reseat_withinTravel {m : ModelId} {s : State} (service : (s.model m).state ≠ .disabled) (h : s.WithinTravel) :
    (reseat m s).WithinTravel := by
  unfold reseat
  split
  · exact changeModel_withinTravel h fun x => x.goesOn rfl rfl rfl rfl service
  · rename_i p _
    refine State.WithinTravel.of_berth ?_ (quench_berth _ · _)
    exact changeModel_withinTravel h fun x => x.seatHome p _

theorem resumeAll_withinTravel {s : State} (h : s.WithinTravel) : (resumeAll s).WithinTravel := by
  refine forEach_invariant (fun m t good => ?_) allModels h
  split
  · rename_i stopped; exact reseat_withinTravel (by simp [stopped]) good
  · exact good

theorem releaseTrip_withinTravel (m : ModelId) {s : State} (h : s.WithinTravel) : (releaseTrip m s).WithinTravel := by
  unfold releaseTrip
  split
  · rename_i faulted
    have service : (s.model m).state ≠ .disabled := by simp [faulted]
    exact withinTravel_ite (changeModel_withinTravel h fun x => x.goesOn rfl rfl rfl rfl service)
      (reseat_withinTravel service h)
  · exact h

theorem firstFeedback_withinTravel (m : ModelId) (p : Int) {s : State} (h : s.WithinTravel) :
    (firstFeedback m p s).WithinTravel := by
  refine State.WithinTravel.of_berth ?_ (quench_berth _ · _)
  refine changeModel_withinTravel h fun x => ?_
  have fedBack : ({ s.model m with fedBack := some p } : Model).Fits := x.of_berth rfl
  dsimp only
  split
  · exact (fedBack.seat p).moved rfl rfl (clampTravel_covered x.config p) (fedBack.seat p).history
  · exact fedBack.seatHome p _

theorem takeAxisEntry_withinTravel (n : NodeId) (e : AxisEntry) {s : State} (h : s.WithinTravel) :
    (takeAxisEntry n e s).WithinTravel := by
  unfold takeAxisEntry
  split
  · exact h
  · rename_i m _
    dsimp only
    have woken (c : Prop) [Decidable c] {t : State} (good : t.WithinTravel) :
        (if c then t else endWakeTest t).WithinTravel := withinTravel_ite good (good.of_berth (endWakeTest_berth · t))
    refine woken _ (withinTravel_ite ?_ ?_)
    · refine State.WithinTravel.of_berth (firstFeedback_withinTravel m _ ?_) (report_berth _ _ · _)
      exact h.of_berth fun k => (modModel_berth rfl k).trans ((modModel_berth rfl k).trans (modWatch_berth _ _ _ k))
    · exact h.of_berth fun k => (checkEntry_berth m _ _ _ k _).trans
        ((modModel_berth rfl k).trans (modWatch_berth _ _ _ k))

theorem takeFeedback_withinTravel (n : NodeId) (entries : List AxisEntry) {s : State} (h : s.WithinTravel) :
    (takeFeedback n entries s).WithinTravel :=
  withinTravel_ite (forEach_invariant (fun e _ good => takeAxisEntry_withinTravel n e good) entries h) h

/-! ### Commits and the sample -/

theorem applyFields_withinTravel {m : ModelId} {c : ModelConfig} {s : State} (h : s.WithinTravel)
    (staged : (s.model m).staged = some c) (fits : commitFits c (s.model m).lastSetpoint = true) :
    (applyFields m c s).WithinTravel :=
  h.of_alters (applyFields_alters m c s) fun x => by
    rw [applyFields_model, if_pos rfl]; exact x.apply staged fits

theorem deferredCommit_withinTravel (m : ModelId) {s : State} (h : s.WithinTravel) :
    (deferredCommit m s).WithinTravel := by
  unfold deferredCommit
  split
  · dsimp only
    have taken : (s.modModel m fun x => { x with commitPending := false }).WithinTravel :=
      h.of_berth (modModel_berth rfl)
    split
    · exact taken
    · rename_i c staged
      split
      · rename_i fits
        exact (applyFields_withinTravel taken staged fits).of_berth (modWatch_berth _ _ _)
      · exact taken.of_berth fun k => by rw [raise_view]
  · exact h

theorem enterIdle_withinTravel {m : ModelId} {s : State} (service : (s.model m).state ≠ .disabled)
    (h : s.WithinTravel) : (enterIdle m s).WithinTravel := by
  refine State.WithinTravel.of_berth (deferredCommit_withinTravel m ?_) (freeIfStartable_berth m · _)
  exact changeModel_withinTravel h fun x => x.goesOn rfl rfl rfl rfl service

theorem cueEnds_withinTravel {m : ModelId} {c : CueId} {s : State} (service : (s.model m).state ≠ .disabled)
    (h : s.WithinTravel) : (cueEnds m c s).WithinTravel := by
  unfold cueEnds
  split
  · exact enterIdle_withinTravel service h
  all_goals exact changeModel_withinTravel h fun x => x.goesOn rfl rfl rfl rfl service

theorem repeatSetpoint_withinTravel {m : ModelId} {s : State} (service : (s.model m).state ≠ .disabled)
    (h : s.WithinTravel) : (repeatSetpoint m s).WithinTravel :=
  modModel_withinTravel h fun x => x.record (x.travel service)

/-- R41 to R44: what a sample records lies within travel. -/
theorem sampleModel_withinTravel (m : ModelId) {s : State} (h : s.WithinTravel) :
    (sampleModel m s).1.WithinTravel := by
  cases state : (s.model m).state
  case disabled => rw [sampleModel_of_out (.inl state)]; exact h
  case enabling => rw [sampleModel_of_out (.inr state)]; exact h
  case returning =>
    have service : (s.model m).state ≠ .disabled := by simp [state]
    have recorded : (s.modModel m fun y => y.record (s.model m).returnSample).WithinTravel :=
      modModel_withinTravel h fun x => x.record (clampRate_covered _ (x.travel service) x.config.home)
    rw [sampleModel_of_returning state]
    exact withinTravel_ite (enterIdle_withinTravel (by simp [Model.record, state]) recorded) recorded
  case running =>
    have service : (s.model m).state ≠ .disabled := by simp [state]
    cases place : (s.model m).position with
    | none => rw [sampleModel_of_lost state place]; exact repeatSetpoint_withinTravel service h
    | some pos =>
      have recorded : (s.modModel m fun y => y.played (s.playSample (s.model m) pos)).WithinTravel :=
        modModel_withinTravel h fun x =>
          (x.record (clampRate_covered _ (x.travel service) (clampTravel_covered x.config _))).of_berth rfl
      rw [sampleModel_of_running state place]
      exact withinTravel_ite (cueEnds_withinTravel (by simp [Model.played, Model.record, state]) recorded) recorded
  all_goals
    rw [sampleModel_of_still (by simp [state])]
    exact repeatSetpoint_withinTravel (by simp [state]) h

theorem sampleExpiry_withinTravel {s : State} (h : s.WithinTravel) : (sampleExpiry s).WithinTravel := by
  unfold sampleExpiry
  dsimp only
  refine State.WithinTravel.of_berth ?_
    (fun k => forEach_keeps (fun t => (t.view k).berth) _ (fun n t => by rw [fillSlot_view]) _ _)
  rw [sampleModels_state]
  exact forEach_invariant (fun m _ good => sampleModel_withinTravel m good) allModels (h.of_berth fun _ => rfl)

/-! ### MODEL records, ENABLE, DISABLE and COMMIT -/

theorem firstFault_eq_none_iff (checks : List (Nat × Bool)) :
    firstFault checks = none ↔ ∀ c ∈ checks, c.2 = true := by
  simp [firstFault]

/-- An accepted record has passed its form and structure checks. -/
theorem stages_ok_iff {α : Type} {form fault : Option Half} {value v : α} {clamped b : Bool} :
    stages form value clamped fault = .ok (v, b) ↔ form = none ∧ fault = none ∧ value = v ∧ clamped = b := by
  unfold stages
  cases form <;> cases fault <;> simp

theorem clampDepth_mem (n : Nat) : clampDepth n ∈ [1, 2, 4, 8] := by
  unfold clampDepth
  (repeat' split) <;> simp

/-- R176, R177: a MODEL record that is accepted is in range. -/
theorem readModel_inRange {isDrive : NodeId → Bool} {r : List Byte} {c : ModelConfig} {clamped : Bool}
    (read : readModel isDrive r = .ok (c, clamped)) : c.InRange := by
  obtain ⟨-, structured, rfl, -⟩ := stages_ok_iff.mp read
  simp only [firstFault_eq_none_iff, List.mem_cons, List.not_mem_nil, or_false, forall_eq_or_imp, forall_eq,
    decide_eq_true_iff] at structured
  obtain ⟨-, -, travel, home, loads, release⟩ := structured
  have half (i : Nat) : -32768 ≤ (halfAt r i).toInt ∧ (halfAt r i).toInt ≤ 32767 :=
    ⟨BitVec.le_toInt _, Int.le_of_lt_add_one BitVec.toInt_lt⟩
  have byte (i : Nat) : -128 ≤ (byteAt r i).toInt ∧ (byteAt r i).toInt ≤ 127 :=
    ⟨BitVec.le_toInt _, Int.le_of_lt_add_one BitVec.toInt_lt⟩
  have nat (i : Nat) : natAt r i ≤ 255 := Nat.le_of_lt_succ (byteAt r i).isLt
  refine ⟨⟨(half 2).1, travel, (half 4).2⟩, home, ?_, ⟨byte 12, byte 13, byte 14⟩, ?_,
    ⟨clampDepth_mem _, loads, min_le_left _ _, release⟩, ?_, min_le_left _ _⟩
  · simp only [modelFields, clampTo]; omega
  · simp only [modelFields, clampTo]; omega
  · have hold := nat 27
    have age := nat 30
    simp only [modelFields, clampTo]
    omega

theorem writeModel_withinTravel (m : ModelId) (record : List Byte) {s : State} (h : s.WithinTravel) :
    (writeModel m record s).1.WithinTravel := by
  unfold writeModel
  split
  · exact h
  · rename_i c clamped read
    have inRange := readModel_inRange read
    split
    · rename_i out
      exact modModel_withinTravel h fun x => ⟨inRange, nofun, absurd out, x.history⟩
    · split
      · exact h
      · rename_i same
        push Not at same
        exact modModel_withinTravel h fun x =>
          ⟨x.config, fun d e => Option.some.inj e ▸ ⟨inRange, same⟩, x.travel, x.history⟩

theorem enableModel_withinTravel (m : ModelId) {s : State} (h : s.WithinTravel) :
    (enableModel m s).1.WithinTravel := by
  have entered : (enterEnabling m s).WithinTravel := by
    refine State.WithinTravel.of_berth (s := changeModel m Model.enable s) ?_ fun k => ?_
    · exact changeModel_withinTravel h fun x => x.moved rfl rfl x.config.home rfl
    · simp [enterEnabling]
  have kept {c : Prop} [Decidable c] {v : Verdict16} {r : State × Verdict16} (rest : r.1.WithinTravel) :
      (if c then (s, v) else r).1.WithinTravel := by
    split
    · exact h
    · exact rest
  exact kept (kept (kept (kept entered)))

theorem disableModel_withinTravel (m : ModelId) {s : State} (h : s.WithinTravel) :
    (disableModel m s).1.WithinTravel := by
  unfold disableModel
  split
  · exact h
  · refine State.WithinTravel.of_berth (s := changeModel m Model.disable s) ?_ fun k => by simp
    exact changeModel_withinTravel h fun x => ⟨x.config, nofun, absurd rfl, x.history⟩

theorem commitModel_withinTravel (m : ModelId) {s : State} (h : s.WithinTravel) :
    (commitModel m s).1.WithinTravel := by
  unfold commitModel
  split
  · exact h
  · rename_i c staged
    split
    · exact h
    · split
      · rename_i fits
        exact (applyFields_withinTravel h staged fits).of_berth (updateMark_berth m · _)
      · exact h
    all_goals exact h.of_berth (modModel_berth rfl)

/-! ### Faults cleared and stops resumed -/

theorem clearLatches_withinTravel (ids : List FaultId) {s : State} (h : s.WithinTravel) :
    (clearLatches ids s).WithinTravel := by
  unfold clearLatches
  have noticed (t : State) (k : ModelId) : ((forEach ids clearNotice t).view k).berth = (t.view k).berth :=
    forEach_keeps (fun t => (t.view k).berth) _ (fun id t => by rw [clearNotice_view]) ids t
  refine State.WithinTravel.of_berth ?_ (noticed _)
  refine forEach_invariant (fun m t good => withinTravel_ite (releaseTrip_withinTravel m good) good) _ ?_
  exact h.of_berth fun k =>
    forEach_keeps (fun t => (t.view k).berth) _ (fun id t => by rw [State.modMarks_view]) ids s

theorem clearArgs_withinTravel (args : List Byte) {s : State} (h : s.WithinTravel) :
    (clearArgs args s).1.WithinTravel := by
  unfold clearArgs
  split
  · exact h
  · split
    · exact h
    · exact clearLatches_withinTravel _ h

theorem resumeArgs_withinTravel (args : List Byte) {s : State} (h : s.WithinTravel) :
    (resumeArgs args s).1.WithinTravel := by
  unfold resumeArgs
  split
  · exact h
  · split
    · exact h
    · dsimp only; exact resumeAll_withinTravel h

theorem ackHeld_withinTravel {s : State} (h : s.WithinTravel) : (ackHeld s).WithinTravel := by
  have pressed : (s.onSup fun q => { q with ack := .long, ackTimer := none }).WithinTravel := h.of_berth fun _ => rfl
  unfold ackHeld
  split
  · dsimp only
    split
    · exact pressed
    · exact resumeAll_withinTravel pressed
  · exact h

end Sys2Proof.Machine

/-! ## Models within their travel: every step -/

namespace Sys2Proof.Machine

/-! ### Commands and their answers -/

/-- An operation that no view sees leaves the models within their travel. -/
theorem State.WithinTravel.of_view {s t : State} (h : s.WithinTravel) (same : t.view = s.view) : t.WithinTravel :=
  h.of_berth fun k => congrArg View.berth (congrFun same k)

theorem answered_withinTravel {c : Sender} {body : State → State × Answer} {s : State}
    (done : (body s).1.WithinTravel) (h : s.WithinTravel) : (answered c body s).WithinTravel :=
  withinTravel_ite done (withinTravel_ite (h.of_view (overrun_view s)) (done.of_view (pushReply_view _ _ _ _)))

theorem control_withinTravel {code : Byte} {c : Sender} {body : State → State × Verdict16} {s : State}
    (done : (body s).1.WithinTravel) (h : s.WithinTravel) : (control code c body s).WithinTravel :=
  answered_withinTravel done h

theorem modelCommand_withinTravel {code : Byte} {c : Sender} {args : List Byte}
    {body : ModelId → State → State × Verdict16} {s : State} (done : ∀ m, (body m s).1.WithinTravel)
    (h : s.WithinTravel) : (modelCommand code c args body s).WithinTravel := by
  refine control_withinTravel ?_ h
  split
  · split
    · exact done _
    · exact h
  · exact h

theorem tableWrite_withinTravel {id : Byte} {c : Sender} {index : Byte} {record : List Byte}
    {body : State → State × Verdict16} {s : State} (done : (body s).1.WithinTravel) (h : s.WithinTravel) :
    (tableWrite id c index record body s).WithinTravel := by
  refine answered_withinTravel ?_ h
  split
  · exact h
  · exact done

theorem nodeWrite_withinTravel (c : Sender) (i : Byte) (r : List Byte) {s : State} (h : s.WithinTravel) :
    (nodeWrite c i r s).WithinTravel :=
  tableWrite_withinTravel (by split; exacts [h.of_berth (writeNode_berth _ r · s), h]) h

theorem buttonWrite_withinTravel (c : Sender) (i : Byte) (r : List Byte) {s : State} (h : s.WithinTravel) :
    (buttonWrite c i r s).WithinTravel :=
  tableWrite_withinTravel (by split; exacts [h.of_view (writeButton_view _ r s), h]) h

theorem cueWrite_withinTravel (c : Sender) (i : Byte) (r : List Byte) {s : State} (h : s.WithinTravel) :
    (cueWrite c i r s).WithinTravel :=
  tableWrite_withinTravel (by split; exacts [h.of_view (writeCue_view _ r s), h]) h

theorem profileWrite_withinTravel (c : Sender) (i : Byte) (r : List Byte) {s : State} (h : s.WithinTravel) :
    (profileWrite c i r s).WithinTravel :=
  tableWrite_withinTravel (by split; exacts [h.of_view (writeProfile_view _ r s), h]) h

theorem modelWrite_withinTravel (c : Sender) (i : Byte) (r : List Byte) {s : State} (h : s.WithinTravel) :
    (modelWrite c i r s).WithinTravel :=
  tableWrite_withinTravel (by split; exacts [writeModel_withinTravel _ r h, h]) h

theorem routeWrite_withinTravel (c : Sender) (i : Byte) (r : List Byte) {s : State} (h : s.WithinTravel) :
    (routeWrite c i r s).WithinTravel :=
  tableWrite_withinTravel (by split; exacts [h.of_berth (writeRoute_berth _ r · s), h]) h

theorem patternWrite_withinTravel (c : Sender) (i : Byte) (r : List Byte) {s : State} (h : s.WithinTravel) :
    (patternWrite c i r s).WithinTravel :=
  tableWrite_withinTravel (by split; exacts [h.of_view (writePattern_view _ r s), h]) h

theorem settingsWrite_withinTravel (c : Sender) (i : Byte) (r : List Byte) {s : State} (h : s.WithinTravel) :
    (settingsWrite c i r s).WithinTravel :=
  tableWrite_withinTravel (h.of_view (writeSettings_view r s)) h

theorem badTable_withinTravel (c : Sender) (p : List Byte) {s : State} (h : s.WithinTravel) :
    (badTable c p s).WithinTravel := by
  unfold badTable
  split
  · exact answered_withinTravel h h
  · exact h

theorem tableRead_withinTravel (c : Sender) (p : List Byte) {s : State} (h : s.WithinTravel) :
    (tableRead c p s).WithinTravel := answered_withinTravel h h

theorem enable_withinTravel (c : Sender) (a : List Byte) {s : State} (h : s.WithinTravel) :
    (enable c a s).WithinTravel := modelCommand_withinTravel (enableModel_withinTravel · h) h

theorem disable_withinTravel (c : Sender) (a : List Byte) {s : State} (h : s.WithinTravel) :
    (disable c a s).WithinTravel := modelCommand_withinTravel (disableModel_withinTravel · h) h

theorem commit_withinTravel (c : Sender) (a : List Byte) {s : State} (h : s.WithinTravel) :
    (commit c a s).WithinTravel := modelCommand_withinTravel (commitModel_withinTravel · h) h

theorem cueStart_withinTravel (c : Sender) (a : List Byte) {s : State} (h : s.WithinTravel) :
    (cueStart c a s).WithinTravel := control_withinTravel (h.of_berth (startNow_berth a · s)) h

theorem cueStartScheduled_withinTravel (c : Sender) (a : List Byte) {s : State} (h : s.WithinTravel) :
    (cueStartScheduled c a s).WithinTravel := control_withinTravel (h.of_berth (startLater_berth a · s)) h

theorem cueStop_withinTravel (c : Sender) (a : List Byte) {s : State} (h : s.WithinTravel) :
    (cueStop c a s).WithinTravel := modelCommand_withinTravel (fun m => h.of_berth (stopCue_berth m · s)) h

theorem modeChange_withinTravel (c : Sender) (a : List Byte) {s : State} (h : s.WithinTravel) :
    (modeChange c a s).WithinTravel := control_withinTravel (h.of_berth (modeArgs_berth a · s)) h

theorem showSync_withinTravel (c : Sender) (a : List Byte) {s : State} (h : s.WithinTravel) :
    (showSync c a s).WithinTravel := control_withinTravel (h.of_berth (syncArgs_berth a · s)) h

theorem clearFault_withinTravel (c : Sender) (a : List Byte) {s : State} (h : s.WithinTravel) :
    (clearFault c a s).WithinTravel := control_withinTravel (clearArgs_withinTravel a h) h

theorem resume_withinTravel (c : Sender) (a : List Byte) {s : State} (h : s.WithinTravel) :
    (resume c a s).WithinTravel := control_withinTravel (resumeArgs_withinTravel a h) h

theorem statusQuery_withinTravel (c : Sender) (a : List Byte) {s : State} (h : s.WithinTravel) :
    (statusQuery c a s).WithinTravel := answered_withinTravel h h

theorem statusQueryClear_withinTravel (c : Sender) (a : List Byte) {s : State} (h : s.WithinTravel) :
    (statusQueryClear c a s).WithinTravel :=
  answered_withinTravel (withinTravel_ite (h.of_view (clearCounts_view s)) h) h

theorem alertAck_withinTravel (c : Sender) (p : List Byte) {s : State} (h : s.WithinTravel) :
    (alertAck c p s).WithinTravel := answered_withinTravel (h.of_view (ackArgs_view p s)) h

theorem badCommand_withinTravel (c : Sender) (p : List Byte) {s : State} (h : s.WithinTravel) :
    (badCommand c p s).WithinTravel := withinTravel_ite h (control_withinTravel h h)

/-! ### Resets -/

theorem Model.reset_fits : Model.reset.Fits := ⟨ModelConfig.unconfigured_inRange, nofun, absurd rfl, rfl⟩

theorem withinTravel_of_reset {s : State} (models : ∀ m, s.model m = Model.reset) : s.WithinTravel :=
  s.withinTravel_iff.mpr fun m => by rw [models]; exact Model.reset_fits

theorem sampleKeys_withinTravel {s : State} (models : ∀ m, s.model m = Model.reset) :
    (sampleKeys s).WithinTravel := by
  have h := withinTravel_of_reset models
  unfold sampleKeys
  dsimp only
  exact withinTravel_ite (h.of_berth fun k => (report_berth _ _ k _).trans (onSup_berth s _ k))
    (h.of_berth (onSup_berth s _))

theorem hardResetEnds_withinTravel (s : State) : (hardResetEnds s).WithinTravel := by
  unfold hardResetEnds
  refine State.WithinTravel.of_view (sampleKeys_withinTravel ?_) (placeStartUp_view _ _)
  exact fun m => reset_model m

theorem hardResetHolds_withinTravel (s : State) : (hardResetHolds s).WithinTravel := withinTravel_of_reset reset_model

theorem softReset_withinTravel (s : State) : (softReset s).WithinTravel := by
  unfold softReset
  refine State.WithinTravel.of_view (sampleKeys_withinTravel ?_) (placeStartUp_view _ _)
  exact fun m => reset_model m

theorem restart_withinTravel (c : Sender) (a : List Byte) {s : State} (h : s.WithinTravel) :
    (restart c a s).WithinTravel := by
  have all : (restartAll s).WithinTravel := withinTravel_ite (h.of_berth fun _ => rfl) (softReset_withinTravel s)
  have own : (restartOwn c a s).WithinTravel := withinTravel_ite (h.of_view (overrun_view s))
    (withinTravel_ite (h.of_view (pushReply_view _ _ _ s)) (h.of_berth fun _ => rfl))
  exact withinTravel_ite (withinTravel_ite all h) own

theorem spineLeft_withinTravel {s : State} (h : s.WithinTravel) : (spineLeft s).WithinTravel := by
  unfold spineLeft
  split
  · exact h
  · refine withinTravel_ite (softReset_withinTravel _) ?_
    split
    · exact h.of_view (alertLeft_view _)
    · exact withinTravel_ite (softReset_withinTravel _) (h.of_berth fun _ => rfl)
    · exact h.of_berth fun _ => rfl

/-! ### Frames -/

theorem receive_withinTravel {p : Port} {classify : Frame → State → State}
    (keeps : ∀ f t, t.WithinTravel → (classify f t).WithinTravel) (f : Frame) {s : State} (h : s.WithinTravel) :
    (receive p classify f s).WithinTravel := by
  have waiting : (setReceiver p .waiting s).WithinTravel := h.of_view (setReceiver_view _ _ _)
  exact withinTravel_ite h (withinTravel_ite (h.of_view (abandon_view _ _ _))
    (withinTravel_ite (keeps f _ (waiting.of_view (countGood_view _ _)))
      (waiting.of_view (countCheckError_view _ _))))

theorem handOn_withinTravel (n : NodeId) (f : Frame) {s : State} (h : s.WithinTravel) :
    (handOn n f s).WithinTravel := by
  have taken (b : Byte) : (mirrorUp n f (markHello n b s)).WithinTravel := h.of_view (by simp)
  have misrouted : (misroutedBay s).WithinTravel := h.of_view (misroutedBay_view s)
  unfold handOn
  cases (s.node n).role <;> dsimp only
  case panel => exact withinTravel_ite ((taken _).of_berth (takePanel_berth _ _ _ · _)) misrouted
  case drive =>
    refine withinTravel_ite ?_ misrouted
    split
    · exact takeFeedback_withinTravel _ _ (taken _)
    · exact misrouted
  case sensor => exact withinTravel_ite ((taken _).of_berth (takePresence_berth _ _ · _)) misrouted
  all_goals exact misrouted

theorem routeBay_withinTravel {controller : State → State} (f : Frame) {s : State}
    (done : (controller s).WithinTravel) (h : s.WithinTravel) : (routeBay controller f s).WithinTravel := by
  have misrouted : (misroutedBay s).WithinTravel := h.of_view (misroutedBay_view s)
  exact withinTravel_ite misrouted (withinTravel_ite done (withinTravel_ite (h.of_view (forwardDown_view _ _))
    (withinTravel_ite (h.of_view (forwardUp_view _ _)) misrouted)))

theorem classifyBay_withinTravel (f : Frame) {s : State} (h : s.WithinTravel) : (classifyBay f s).WithinTravel := by
  have counted (g : BayCounters → BayCounters) : (s.onBayCounters g).WithinTravel := h.of_view rfl
  unfold classifyBay
  refine withinTravel_ite (withinTravel_ite (h.of_berth (ringReturn_berth · s)) (counted _))
    (withinTravel_ite (counted _) ?_)
  split
  · rename_i n _
    have heard : (nodeHeard n s).WithinTravel := h.of_berth (nodeHeard_berth n · s)
    exact withinTravel_ite (counted _) (withinTravel_ite (heard.of_view (forwardUp_view _ _))
      (routeBay_withinTravel f (handOn_withinTravel n f heard) heard))
  · exact routeBay_withinTravel f (h.of_view (misroutedBay_view s)) h

theorem dispatchWrite_withinTravel (c : Sender) (p : List Byte) {s : State} (h : s.WithinTravel) :
    (dispatchWrite c p s).WithinTravel := by
  unfold dispatchWrite
  split
  · split
    · exact nodeWrite_withinTravel c _ _ h
    · exact buttonWrite_withinTravel c _ _ h
    · exact cueWrite_withinTravel c _ _ h
    · exact profileWrite_withinTravel c _ _ h
    · exact modelWrite_withinTravel c _ _ h
    · exact routeWrite_withinTravel c _ _ h
    · exact patternWrite_withinTravel c _ _ h
    · exact settingsWrite_withinTravel c _ _ h
  · exact badTable_withinTravel c _ h

theorem dispatchControl_withinTravel (c : Sender) (p : List Byte) {s : State} (h : s.WithinTravel) :
    (dispatchControl c p s).WithinTravel := by
  unfold dispatchControl
  split
  · exact badCommand_withinTravel c _ h
  · split
    · exact enable_withinTravel c _ h
    · exact disable_withinTravel c _ h
    · exact commit_withinTravel c _ h
    · exact withinTravel_ite (cueStartScheduled_withinTravel c _ h) (cueStart_withinTravel c _ h)
    · exact cueStop_withinTravel c _ h
    · exact modeChange_withinTravel c _ h
    · exact showSync_withinTravel c _ h
    · exact clearFault_withinTravel c _ h
    · exact resume_withinTravel c _ h
    · exact withinTravel_ite (statusQueryClear_withinTravel c _ h) (statusQuery_withinTravel c _ h)
    · exact restart_withinTravel c _ h
    · exact badCommand_withinTravel c _ h

theorem classifySpine_withinTravel (f : Frame) {s : State} (h : s.WithinTravel) :
    (classifySpine f s).WithinTravel := by
  have heard : (spineHeard s).WithinTravel := h.of_view (spineHeard_view s)
  have misrouted : (misroutedSpine (spineHeard s)).WithinTravel := heard.of_view (misroutedSpine_view _)
  have commands : (dispatchCommand f (spineHeard s)).WithinTravel :=
    withinTravel_ite (dispatchWrite_withinTravel _ _ heard) (withinTravel_ite (tableRead_withinTravel _ _ heard)
      (withinTravel_ite (dispatchControl_withinTravel _ _ heard)
        (withinTravel_ite (alertAck_withinTravel _ _ heard) misrouted)))
  exact withinTravel_ite misrouted (withinTravel_ite (withinTravel_ite commands
    (withinTravel_ite (heard.of_view (forwardDown_view _ _)) misrouted)) misrouted)

/-! ### Steps -/

theorem idle_withinTravel {s : State} (h : s.WithinTravel) : (idle s).WithinTravel := by
  have ticked : (tick s).WithinTravel := h.of_berth fun k => by rw [tick_view]; rfl
  exact withinTravel_ite (ticked.of_view (takeUp_view _)) h

/-- An outcome whose next state, if there is one, has its models within their travel. -/
def OutcomeWithinTravel (o : Outcome) : Prop := ∀ t, o = .next t → t.WithinTravel

theorem next_withinTravel {t : State} (h : t.WithinTravel) : OutcomeWithinTravel (.next t) :=
  fun _ e => Host.Outcome.next.inj e ▸ h

theorem act_withinTravel {op : State → State} {s : State} (done : (op s).WithinTravel) (h : s.WithinTravel) :
    OutcomeWithinTravel (act op s) := next_withinTravel (withinTravel_ite (done.of_view (settle_view (op s))) h)

theorem actOutOfReset_withinTravel {op : State → State} {s : State} (done : (op s).WithinTravel)
    (h : s.WithinTravel) : OutcomeWithinTravel (actOutOfReset op s) :=
  next_withinTravel (withinTravel_ite (done.of_view (settle_view (op s))) h)

theorem actAlways_withinTravel {op : State → State} {s : State} (done : (op s).WithinTravel) :
    OutcomeWithinTravel (actAlways op s) := next_withinTravel (done.of_view (settle_view (op s)))

theorem exec_withinTravel (i : Instr) {s : State} (h : s.WithinTravel) : OutcomeWithinTravel (exec i s) := by
  cases i with
  | hardReset b r stop ack =>
    exact actAlways_withinTravel (withinTravel_ite (hardResetEnds_withinTravel _) (hardResetHolds_withinTravel _))
  | softReset stop ack =>
    rw [exec_softReset]
    exact act_withinTravel (softReset_withinTravel _) h
  | stopKeyAsserted => exact actOutOfReset_withinTravel (h.of_berth (stopAsserts_berth · s)) h
  | stopKeyReleased => exact act_withinTravel (h.of_berth (stopReleases_berth · s)) h
  | ackKeyPressed => exact act_withinTravel (h.of_view (ackPressed_view s)) h
  | ackKeyLetGo => exact act_withinTravel (h.of_view (ackLetGo_view s)) h
  | ackPressTimerExpiry => exact act_withinTravel (ackHeld_withinTravel h) h
  | receiverGapTimeout p => exact act_withinTravel (h.of_view (abandon_view p _ s)) h
  | framingError p => exact act_withinTravel (h.of_view (abandon_view p _ s)) h
  | receiverIdleTimeout p => exact act_withinTravel (h.of_view (lineIdle_view p s)) h
  | bayFrameReceived f =>
    exact act_withinTravel (receive_withinTravel (fun f _ => classifyBay_withinTravel f) f h) h
  | panel n d hello => exact act_withinTravel (h.of_berth (takePanel_berth n d hello · s)) h
  | feedback n entries => exact act_withinTravel (takeFeedback_withinTravel n entries h) h
  | presence n occupied => exact act_withinTravel (h.of_berth (takePresence_berth n occupied · s)) h
  | ringCheckReturn => exact act_withinTravel (h.of_berth (ringReturn_berth · s)) h
  | spineFrameReceived f =>
    exact act_withinTravel (receive_withinTravel (fun f _ => classifySpine_withinTravel f) f h) h
  | nodeWrite c i r => exact act_withinTravel (nodeWrite_withinTravel c i r h) h
  | buttonWrite c i r => exact act_withinTravel (buttonWrite_withinTravel c i r h) h
  | cueWrite c i r => exact act_withinTravel (cueWrite_withinTravel c i r h) h
  | profileWrite c i r => exact act_withinTravel (profileWrite_withinTravel c i r h) h
  | modelWrite c i r => exact act_withinTravel (modelWrite_withinTravel c i r h) h
  | routeWrite c i r => exact act_withinTravel (routeWrite_withinTravel c i r h) h
  | patternWrite c i r => exact act_withinTravel (patternWrite_withinTravel c i r h) h
  | settingsWrite c i r => exact act_withinTravel (settingsWrite_withinTravel c i r h) h
  | badTable c p => exact act_withinTravel (badTable_withinTravel c p h) h
  | tableRead c p => exact act_withinTravel (tableRead_withinTravel c p h) h
  | enable c a => exact act_withinTravel (enable_withinTravel c a h) h
  | disable c a => exact act_withinTravel (disable_withinTravel c a h) h
  | commit c a => exact act_withinTravel (commit_withinTravel c a h) h
  | cueStart c a => exact act_withinTravel (cueStart_withinTravel c a h) h
  | cueStartScheduled c a => exact act_withinTravel (cueStartScheduled_withinTravel c a h) h
  | cueStop c a => exact act_withinTravel (cueStop_withinTravel c a h) h
  | mode c a => exact act_withinTravel (modeChange_withinTravel c a h) h
  | showSync c a => exact act_withinTravel (showSync_withinTravel c a h) h
  | clearFault c a => exact act_withinTravel (clearFault_withinTravel c a h) h
  | resume c a => exact act_withinTravel (resume_withinTravel c a h) h
  | statusQuery c a => exact act_withinTravel (statusQuery_withinTravel c a h) h
  | statusQueryClear c a => exact act_withinTravel (statusQueryClear_withinTravel c a h) h
  | restart c a => exact act_withinTravel (restart_withinTravel c a h) h
  | alertAck c p => exact act_withinTravel (alertAck_withinTravel c p h) h
  | bayOutFrameSent => exact act_withinTravel (h.of_view (bayLeft_view s)) h
  | spineOutFrameSent => exact act_withinTravel (spineLeft_withinTravel h) h
  | sampleTimerExpiry => exact act_withinTravel (sampleExpiry_withinTravel h) h
  | modelFreeNotice m => exact actOutOfReset_withinTravel (h.of_berth (takeFreeNotice_berth m · s)) h
  | scheduleEntryDue => exact act_withinTravel (h.of_berth (nextDue_berth · s)) h
  | lateCountdownExpiry m => exact act_withinTravel (h.of_view (lateExpires_view m s)) h
  | pauseWindowExpiry m => exact act_withinTravel (h.of_berth (pauseWindowEnds_berth m · s)) h
  | holdLimitExpiry m => exact act_withinTravel (h.of_berth (holdLimitEnds_berth m · s)) h
  | stuckTimerExpiry k => exact act_withinTravel (h.of_view (stuckExpires_view k s)) h
  | lockoutEnd k => exact act_withinTravel (h.of_view (lockoutEnds_view k s)) h
  | requestExpiry m k => exact act_withinTravel (h.of_view (requestExpires_view m k s)) h
  | refreshTimerExpiry n => exact act_withinTravel (h.of_view (refreshEnds_view n s)) h
  | nodeSilenceExpiry n => exact act_withinTravel (h.of_berth (nodeSilenceEnds_berth n · s)) h
  | driveSilenceExpiry m => exact act_withinTravel (h.of_berth (driveSilenceEnds_berth m · s)) h
  | zoneSettleExpiry z => exact act_withinTravel (h.of_berth (settleEnds_berth z · s)) h
  | spineSilenceExpiry => exact act_withinTravel (h.of_view (spineSilenceEnds_view s)) h
  | ringCheckTimerExpiry => exact act_withinTravel (h.of_view (ringTimerEnds_view s)) h
  | ringCheckMiss => exact act_withinTravel (h.of_berth (ringMiss_berth · s)) h
  | bayCheckWindowEnd => exact act_withinTravel (h.of_view (windowEnds_view s)) h
  | escalationDeadlineExpiry n => exact act_withinTravel (h.of_view (escalate_view n.toNat s)) h
  | beaconPhaseEnd =>
    rw [exec_beaconPhaseEnd]
    exact act_withinTravel (h.of_view (State.onAlert_view s _)) h
  | dozeTimerExpiry => exact act_withinTravel (h.of_berth (dozeEnds_berth · s)) h
  | wakeLimitExpiry => exact act_withinTravel (h.of_berth (wakeLimitEnds_berth · s)) h
  | resetNLow =>
    rw [exec_resetNLow]
    exact actAlways_withinTravel (hardResetHolds_withinTravel _)
  | clkStop =>
    rw [exec_clkStop]
    exact actAlways_withinTravel (h.of_view (State.onPins_view s _))
  | clkResume =>
    rw [exec_clkResume]
    exact actAlways_withinTravel (withinTravel_ite (hardResetEnds_withinTravel _) (h.of_view (State.onPins_view s _)))
  | badCommand c p => exact act_withinTravel (badCommand_withinTravel c p h) h

/-- Settles O56: what each operation makes of a model's records, position and history, command by command; a sample
records what the two clamps of R41 and R42 leave within travel. -/
theorem stepKeepsModelsWithinTravel : Obligations.StepKeepsModelsWithinTravel := by
  intro s t h run
  unfold step at run
  split at run
  · exact exec_withinTravel _ (h.of_view (State.withPending_view s _)) t run
  · cases run
    exact idle_withinTravel h

end Sys2Proof.Machine

/-! ## A sample fills the setpoint slots (R3, R46) -/

namespace Sys2Proof.Machine

/-! ### The axis entries that a sample builds -/

/-- R3, R46: the axis entry that a sample builds for a model in service. -/
def State.axisOut (s : State) (m : ModelId) : AxisOut :=
  let x := s.model m
  match x.state with
  | .disabled | .enabling => ⟨m, .none, 0⟩
  | .idle => ⟨m, idleCommand s.gallery, x.lastSetpoint⟩
  | .holding => ⟨m, .run, x.lastSetpoint⟩
  | .stopped | .faulted => ⟨m, .halt, x.lastSetpoint⟩
  | .returning => ⟨m, .run, x.returnSample⟩
  | .running =>
    match x.position with
    | none => ⟨m, .run, x.lastSetpoint⟩
    | some pos => ⟨m, .run, (s.playSample x pos).2.2⟩

theorem State.axisOut_model (s : State) (m : ModelId) : (s.axisOut m).model = m := by
  unfold State.axisOut
  cases state : (s.model m).state <;> simp only [state]
  case running => split <;> rfl

theorem sampleModel_out (m : ModelId) (s : State) :
    (sampleModel m s).2 = if (s.model m).state = .disabled then [] else [s.axisOut m] := by
  unfold sampleModel State.axisOut
  cases state : (s.model m).state <;> simp only [state, reduceCtorEq, if_true, if_false]
  case running => cases (s.model m).position <;> rfl

/-- The entry of a model reads its record and, of the rest, what a sample of another model leaves. -/
theorem State.axisOut_congr {s t : State} {m : ModelId} (model : t.model m = s.model m) (gallery : t.gallery = s.gallery)
    (cue : t.cue = s.cue) (profile : t.profile = s.profile) (settings : t.settings = s.settings) :
    t.axisOut m = s.axisOut m := by
  unfold State.axisOut
  simp only [model, gallery, State.playSample_congr cue profile settings]

/-- R31: a run of samples builds the entries of the models as they stand at its start. -/
theorem foldl_sample_out (ms : List ModelId) (apart : ms.Nodup) {s : State} (acc : State × List AxisOut)
    (scene : acc.1.scene = s.scene) (place : ∀ m ∈ ms, acc.1.localAt m = s.localAt m) :
    (ms.foldl (fun (acc : State × List AxisOut) m =>
      ((sampleModel m acc.1).1, acc.2 ++ (sampleModel m acc.1).2)) acc).2 =
    acc.2 ++ ms.flatMap fun m => if (s.model m).state = .disabled then [] else [s.axisOut m] := by
  induction ms generalizing acc with
  | nil => simp
  | cons m rest ih =>
    obtain ⟨first, apart⟩ := List.nodup_cons.mp apart
    have beside := sampleModel_beside m acc.1
    have model : acc.1.model m = s.model m := congrArg Local.model (place m List.mem_cons_self)
    have out : acc.1.axisOut m = s.axisOut m := State.axisOut_congr model (State.gallery_of_scene scene)
      (State.cue_of_scene scene) (State.profile_of_scene scene) (State.settings_of_scene scene)
    have run := ih apart ((sampleModel m acc.1).1, acc.2 ++ (sampleModel m acc.1).2) (beside.scene.trans scene)
      fun k h => (beside.others k fun e => first (e ▸ h)).trans (place k (List.mem_cons_of_mem _ h))
    rw [List.foldl_cons, run]
    simp only [sampleModel_out, model, out, List.flatMap_cons, List.append_assoc]

theorem mem_sampleModels_out {s : State} {o : AxisOut} : o ∈ (sampleModels s.timed).2 ↔
    ∃ m, (s.model m).state ≠ .disabled ∧ o = s.axisOut m := by
  have run : (sampleModels s.timed).2 =
      allModels.flatMap fun m => if (s.timed.model m).state = .disabled then [] else [s.timed.axisOut m] :=
    (foldl_sample_out allModels allModels_nodup (s := s.timed) (s.timed, []) rfl fun _ _ => rfl).trans
      (List.nil_append _)
  have timed (m : ModelId) : s.timed.axisOut m = s.axisOut m := State.axisOut_congr rfl rfl rfl rfl rfl
  have model (m : ModelId) : s.timed.model m = s.model m := rfl
  simp only [run, List.mem_flatMap, mem_allModels, true_and, timed, model]
  refine exists_congr fun m => ?_
  split <;> simp_all

/-! ### A sample keeps the axis of every model (R22) -/

/-- The configured record, and the staged one if there is one, name this drive node and axis. -/
def Model.AnchoredAt (x : Model) (node : Option NodeId) (axis : Axis) : Prop :=
  (x.config.driveNode = node ∧ x.config.axis = axis) ∧ ∀ c, x.staged = some c → c.driveNode = node ∧ c.axis = axis

theorem Model.AnchoredAt.of_records {x y : Model} {node : Option NodeId} {axis : Axis} (h : x.AnchoredAt node axis)
    (config : y.config = x.config) (staged : y.staged = x.staged) : y.AnchoredAt node axis := by
  unfold Model.AnchoredAt
  rw [config, staged]
  exact h

section
variable {node : Option NodeId} {axis : Axis} {m : ModelId} {s : State}

/-- The records of a model are read from its berth. -/
theorem anchoredAt_of_berth {t : State} (h : (s.model m).AnchoredAt node axis)
    (same : (t.view m).berth = (s.view m).berth) : (t.model m).AnchoredAt node axis :=
  h.of_records (congrArg Prod.fst same) (congrArg (fun b => b.2.1) same)

theorem deferredCommit_anchoredAt (h : (s.model m).AnchoredAt node axis) :
    ((deferredCommit m s).model m).AnchoredAt node axis := by
  have taken : ((s.taken m).model m).AnchoredAt node axis := anchoredAt_of_berth h (modModel_berth rfl m)
  cases pending : (s.model m).commitPending with
  | false => rw [deferredCommit_of_none pending]; exact h
  | true =>
    cases staged : (s.model m).staged with
    | none => rw [deferredCommit_of_unstaged pending staged]; exact taken
    | some c =>
      rw [deferredCommit_of_staged pending staged]
      split
      · refine anchoredAt_of_berth ?_ (modWatch_berth _ m _ m)
        rw [applyFields_model, if_pos rfl]
        exact ⟨h.2 c staged, nofun⟩
      · exact anchoredAt_of_berth taken (by rw [raise_view])

theorem changeModel_anchoredAt {f : Model → Model} (h : (f (s.model m)).AnchoredAt node axis) :
    ((changeModel m f s).model m).AnchoredAt node axis := by
  obtain ⟨r, e⟩ := (s.model m).settled_eq (f (s.model m))
  rw [changeModel_model_self, e]
  exact h.of_records rfl rfl

theorem enterIdle_anchoredAt (h : (s.model m).AnchoredAt node axis) :
    ((enterIdle m s).model m).AnchoredAt node axis :=
  anchoredAt_of_berth (deferredCommit_anchoredAt (changeModel_anchoredAt (h.of_records rfl rfl)))
    (freeIfStartable_berth m m _)

theorem cueEnds_anchoredAt (c : CueId) (h : (s.model m).AnchoredAt node axis) :
    ((cueEnds m c s).model m).AnchoredAt node axis := by
  unfold cueEnds
  split
  · exact enterIdle_anchoredAt h
  all_goals exact changeModel_anchoredAt (h.of_records rfl rfl)

theorem sampleModel_anchoredAt (h : (s.model m).AnchoredAt node axis) :
    ((sampleModel m s).1.model m).AnchoredAt node axis := by
  have changed (f : Model → Model) (config : (f (s.model m)).config = (s.model m).config)
      (staged : (f (s.model m)).staged = (s.model m).staged) : ((s.modModel m f).model m).AnchoredAt node axis := by
    rw [State.modModel_model_self]; exact h.of_records config staged
  cases state : (s.model m).state
  case disabled => rw [sampleModel_of_out (.inl state)]; exact h
  case enabling => rw [sampleModel_of_out (.inr state)]; exact h
  case returning =>
    rw [sampleModel_of_returning state]
    split
    · exact enterIdle_anchoredAt (changed _ rfl rfl)
    · exact changed _ rfl rfl
  case running =>
    cases place : (s.model m).position with
    | none => rw [sampleModel_of_lost state place]; exact changed _ rfl rfl
    | some pos =>
      rw [sampleModel_of_running state place]
      split
      · exact cueEnds_anchoredAt _ (changed _ rfl rfl)
      · exact changed _ rfl rfl
  all_goals rw [sampleModel_of_still (by simp [state])]; exact changed _ rfl rfl

end

theorem sampleModels_anchored {s : State} {m : ModelId}
    (staged : ∀ f, (s.model m).staged = some f →
      f.driveNode = (s.model m).config.driveNode ∧ f.axis = (s.model m).config.axis) :
    ((sampleModels s.timed).1.model m).config.driveNode = (s.model m).config.driveNode ∧
    ((sampleModels s.timed).1.model m).config.axis = (s.model m).config.axis := by
  obtain ⟨-, v, -, before, after, -⟩ := sampleModels_from m s.timed
  have model : v.model m = s.model m := congrArg Local.model before
  have anchored : (v.model m).AnchoredAt (s.model m).config.driveNode (s.model m).config.axis := by
    rw [model]; exact ⟨⟨rfl, rfl⟩, staged⟩
  have sampled := sampleModel_anchoredAt anchored
  generalize (sampleModels s.timed).1 = t at *
  generalize (sampleModel m v).1 = u at *
  have same : t.model m = u.model m := congrArg Local.model after
  rw [same]
  exact sampled.1

/-! ### The slots -/

/-- R46: what the slot of a node is given for the axis entries built. -/
def State.slotFrame (s : State) (outs : List AxisOut) (n : NodeId) : Option Frame :=
  if outs.any fun o => (s.model o.model).config.driveNode == some n then
    some (mkFrame 32 (addressOf n) s.relay.ownBay 0 0x21 (s.axisBytes outs n 0 ++ s.axisBytes outs n 1))
  else none

theorem fillSlot_eq (outs : List AxisOut) (n : NodeId) (s : State) :
    fillSlot outs n s = s.onRelay fun q => { q with slots := tput q.slots n (s.slotFrame outs n) } := by
  unfold fillSlot State.slotFrame
  split <;> rfl

/-- R46: a run over the nodes gives each of them its own frame. -/
theorem fillSlots_slot (outs : List AxisOut) (ns : List NodeId) (n : NodeId) (s : State) :
    tget (forEach ns (fillSlot outs) s).relay.slots n =
      if n ∈ ns then s.slotFrame outs n else tget s.relay.slots n := by
  induction ns generalizing s with
  | nil => rfl
  | cons k rest ih =>
    have frame : (fillSlot outs k s).slotFrame outs n = s.slotFrame outs n := by rw [fillSlot_eq]; rfl
    have slots : (fillSlot outs k s).relay.slots = tput s.relay.slots k (s.slotFrame outs k) := by rw [fillSlot_eq]; rfl
    rw [forEach_cons, ih, frame, slots, tget_tput]
    by_cases own : n = k
    · subst own; simp
    · simp [own]

theorem takeSpine_slots (s : State) : (takeSpine s).relay.slots = s.relay.slots := by
  unfold takeSpine
  split
  · rfl
  · split
    · rfl
    · have offer : (takeOffer s).1.relay = s.relay := State.relay_of_outer (takeOffer_outer s)
      split
      · rename_i t f taken
        have same : t.relay = s.relay := by
          split at taken
          · rw [← offer, taken]
          · cases taken
        simp [same]
      · split <;> rfl

/-- R169: while BAY_OUT sends, a settling takes no slot. -/
theorem settle_slots {s : State} (busy : s.relay.bayOut.isSome = true) :
    (settle s).relay.slots = s.relay.slots := by
  have lamps : (deriveLamps s).relay = s.relay := State.relay_of_outer (deriveLamps_outer s)
  unfold settle takeUp
  split
  · rw [takeSpine_slots, takeBay_of_sending (by rw [lamps]; exact busy), lamps]
  · rw [lamps]

theorem sampleModels_relay (s : State) : (sampleModels s).1.relay = s.relay := by
  rw [sampleModels_state]
  exact forEach_keeps State.relay _ (fun m t => State.relay_of_outer (sampleModel_outer m t)) allModels s

/-- R46: the slots that the next state shows. -/
theorem sampleExpiry_slot {s : State} (busy : s.relay.bayOut.isSome = true) (n : NodeId) :
    tget (settle (sampleExpiry s)).relay.slots n =
      (sampleModels s.timed).1.slotFrame (sampleModels s.timed).2 n := by
  have expiry : sampleExpiry s = forEach allNodes (fillSlot (sampleModels s.timed).2) (sampleModels s.timed).1 := by
    unfold sampleExpiry State.timed
    dsimp only
  have sending : (sampleExpiry s).relay.bayOut = s.relay.bayOut := by
    rw [expiry]
    have kept (t : State) : (forEach allNodes (fillSlot (sampleModels s.timed).2) t).relay.bayOut = t.relay.bayOut :=
      forEach_keeps (fun t => t.relay.bayOut) _ (fun n t => by rw [fillSlot_eq]; rfl) _ t
    rw [kept, sampleModels_relay]
    rfl
  rw [settle_slots (by rw [sending]; exact busy), expiry, fillSlots_slot]
  exact if_pos (List.mem_finRange n)

/-! ### The entry of one axis -/

theorem axisBytes_of_only {s : State} {outs : List AxisOut} {n : NodeId} {a : Axis} {o : AxisOut} (built : o ∈ outs)
    (bound : (s.model o.model).config.driveNode = some n ∧ (s.model o.model).config.axis = a)
    (only : ∀ p ∈ outs, (s.model p.model).config.driveNode = some n → (s.model p.model).config.axis = a → p = o) :
    s.axisBytes outs n a = le16 (ofPosition o.position) ++ [o.command.code] := by
  unfold State.axisBytes
  cases found : outs.find? fun o => (s.model o.model).config.driveNode == some n && (s.model o.model).config.axis == a with
  | none => exact absurd bound (by simpa using List.find?_eq_none.mp found o built)
  | some p =>
    have test := List.find?_some found
    simp only [Bool.and_eq_true, beq_iff_eq] at test
    rw [only p (List.mem_of_find?_eq_some found) test.1 test.2]

theorem axisBytes_of_none {s : State} {outs : List AxisOut} {n : NodeId} {a : Axis}
    (free : ∀ o ∈ outs, (s.model o.model).config.driveNode = some n → (s.model o.model).config.axis ≠ a) :
    s.axisBytes outs n a = [0, 0, 0] := by
  unfold State.axisBytes
  rw [List.find?_eq_none.mpr fun o h => by simpa using free o h]
  rfl

/-- Settles O48: the entries built are those of the models in service as they stand, and each node's frame is made of
those of its models. -/
theorem sampleFillsTheSetpointSlots : Obligations.SampleFillsTheSetpointSlots := by
  intro s running busy staged
  refine ⟨_, (exec_sampleTimerExpiry s).trans (act_of_running running), fun n => ?_⟩
  rw [sampleExpiry_slot busy]
  have anchored (m : ModelId) := sampleModels_anchored (staged m)
  have bay : (sampleModels s.timed).1.relay.ownBay = s.relay.ownBay := by rw [sampleModels_relay]; rfl
  have built := @mem_sampleModels_out s
  generalize (sampleModels s.timed).1 = t at *
  generalize (sampleModels s.timed).2 = outs at *
  intro bound entry
  have bytes (m : ModelId) :
      entry (s.model m) = le16 (ofPosition (s.axisOut m).position) ++ [(s.axisOut m).command.code] := by
    unfold State.axisOut
    cases state : (s.model m).state <;> simp only [entry, state]
    case idle => cases s.gallery <;> rfl
    case running => cases (s.model m).position <;> rfl
    all_goals rfl
  have only (m : ModelId) (a : Axis) (own : s.bindsOnly m n a) : t.axisBytes outs n a = entry (s.model m) := by
    obtain ⟨service, node, axis⟩ := (own m).mpr rfl
    rw [bytes]
    refine axisBytes_of_only (built.mpr ⟨m, service, rfl⟩) ?_ fun p made node' axis' => ?_
    · rw [s.axisOut_model, (anchored m).1, (anchored m).2]
      exact ⟨node, axis⟩
    · obtain ⟨k, inService, rfl⟩ := built.mp made
      rw [s.axisOut_model, (anchored k).1] at node'
      rw [s.axisOut_model, (anchored k).2] at axis'
      rw [(own k).mp ⟨inService, node', axis'⟩]
  have free (a : Axis) (none : ∀ m, bound m → (s.model m).config.axis ≠ a) : t.axisBytes outs n a = [0, 0, 0] := by
    refine axisBytes_of_none fun o made node => ?_
    obtain ⟨k, inService, rfl⟩ := built.mp made
    rw [s.axisOut_model, (anchored k).1] at node
    rw [s.axisOut_model, (anchored k).2]
    exact none k ⟨inService, node⟩
  have filled : (outs.any fun o => (t.model o.model).config.driveNode == some n) = true ↔ ∃ m, bound m := by
    simp only [List.any_eq_true, built, beq_iff_eq]
    constructor
    · rintro ⟨_, ⟨m, service, rfl⟩, node⟩
      rw [s.axisOut_model, (anchored m).1] at node
      exact ⟨m, service, node⟩
    · rintro ⟨m, service, node⟩
      exact ⟨_, ⟨m, service, rfl⟩, by rw [s.axisOut_model, (anchored m).1]; exact node⟩
  refine ⟨fun unbound => if_neg fun full => ?_, fun full => ⟨_, _, ?_, (only · 0), (only · 1), free 0, free 1⟩⟩
  · obtain ⟨m, h⟩ := filled.mp full
    exact unbound m h
  · rw [State.slotFrame, if_pos (filled.mpr full), bay]

end Sys2Proof.Machine

/-! ## CUE, PROFILE and PATTERN records: what is accepted, clamped, refused and stored (R25, R27, R29, R144) -/

namespace Sys2Proof.Machine

/-! ### The stages of a record (R175) -/

theorem firstFault_append (a b : List (Nat × Bool)) : firstFault (a ++ b) = (firstFault a).or (firstFault b) := by
  simp [firstFault, List.find?_append, Option.map_or]

/-- A record that passes every check of its fields. -/
theorem firstFault_mapIdx_none {α : Type} {l : List α} {o : Nat → Nat} {c : α → Bool} (passes : ∀ x ∈ l, c x = true) :
    firstFault (l.mapIdx fun k x => (o k, c x)) = none := by
  rw [firstFault_eq_none_iff]
  intro check listed
  obtain ⟨k, below, rfl⟩ := List.mem_mapIdx.mp listed
  exact passes _ (List.getElem_mem below)

/-- The first field at fault gives the offset. -/
theorem firstFault_mapIdx_first {α : Type} {before after : List α} {x : α} {o : Nat → Nat} {c : α → Bool}
    (passes : ∀ y ∈ before, c y = true) (fault : c x = false) :
    firstFault ((before ++ x :: after).mapIdx fun k y => (o k, c y)) = some (BitVec.ofNat 16 (o before.length)) := by
  rw [List.mapIdx_append, firstFault_append, firstFault_mapIdx_none passes, List.mapIdx_cons, firstFault_cons, fault,
    Nat.zero_add]
  rfl

/-- The first field decides, where the record has it. -/
theorem formFault_cons {record : List Byte} {o : Nat} (present : o < record.length) (p : Prop) [Decidable p]
    (checks : List (Nat × Bool)) (length : Nat) : formFault record ((o, decide p) :: checks) length =
      if p then formFault record checks length else some (BitVec.ofNat 16 o) := by
  by_cases h : p <;> simp [formFault, present, firstFault_cons, h]

/-- A record of the right length that has every field it should. -/
theorem formFault_of_present {record : List Byte} {checks : List (Nat × Bool)} {length : Nat}
    (right : record.length = length) (present : ∀ c ∈ checks, c.1 < record.length) :
    formFault record checks length = firstFault checks := by
  rw [formFault, List.filter_eq_self.mpr fun c h => decide_eq_true (present c h), if_pos right]
  cases firstFault checks <;> rfl

theorem formFault_of_length_ne {record : List Byte} {length : Nat} (wrong : record.length ≠ length)
    (checks : List (Nat × Bool)) : ∃ o, formFault record checks length = some o := by
  unfold formFault
  split
  · exact ⟨_, rfl⟩
  · exact ⟨_, if_neg wrong⟩

theorem stages_of_form {α : Type} {form fault : Option Half} {o : Half} {v : α} {b : Bool} (h : form = some o) :
    stages form v b fault = .error o := by rw [h]; rfl

theorem marked_stages {α : Type} (form fault : Option Half) (v : α) (b : Bool) :
    Staged.marked (stages form v b fault) = stages form v true fault := by
  cases form <;> cases fault <;> rfl

/-! ### Bytes of a record -/

theorem natAt_cons_zero (b : Byte) (r : List Byte) : natAt (b :: r) 0 = b.toNat := rfl

theorem natAt_cons_succ (b : Byte) (r : List Byte) (i : Nat) : natAt (b :: r) (i + 1) = natAt r i := rfl

theorem byteAt_append (head tail : List Byte) (i : Nat) : byteAt (head ++ tail) (head.length + i) = byteAt tail i := by
  rw [byteAt, byteAt, List.getD_append_right _ _ _ _ (Nat.le_add_right _ _), Nat.add_sub_cancel_left]

/-- The fields of a run of entries of one width. -/
theorem byteAt_flatMap {α : Type} {f : α → List Byte} {w : Nat} (width : ∀ x, (f x).length = w) {l : List α} {k : Nat}
    {x : α} (entry : l[k]? = some x) {j : Nat} (inside : j < w) :
    byteAt (l.flatMap f) (w * k + j) = byteAt (f x) j := by
  induction l generalizing k with
  | nil => simp at entry
  | cons y rest ih =>
    rw [List.flatMap_cons]
    cases k with
    | zero =>
      obtain rfl : y = x := by simpa using entry
      rw [Nat.mul_zero, Nat.zero_add]
      exact List.getD_append _ _ _ _ (by rw [width]; exact inside)
    | succ k =>
      have shift : w * (k + 1) + j = (f y).length + (w * k + j) := by rw [width]; ring
      rw [shift, byteAt_append]
      exact ih (by simpa using entry)

theorem map_range_eq_mapIdx {α β : Type} {l : List α} {g : Nat → β} {f : Nat → α → β}
    (same : ∀ k x, l[k]? = some x → g k = f k x) : (List.range l.length).map g = l.mapIdx f := by
  refine List.ext_getElem (by simp) fun k h _ => ?_
  have below : k < l.length := by simpa using h
  simp [same k l[k] (List.getElem?_eq_getElem below)]

theorem map_range_eq_map {α β : Type} {l : List α} {g : Nat → β} {f : α → β}
    (same : ∀ k x, l[k]? = some x → g k = f x) : (List.range l.length).map g = l.map f :=
  (map_range_eq_mapIdx (f := fun _ => f) same).trans (List.ext_getElem (by simp) (by simp))

theorem mapIdx_map {α β γ : Type} (l : List α) (h : α → β) (f : Nat → β → γ) :
    (l.map h).mapIdx f = l.mapIdx fun k x => f k (h x) := List.ext_getElem (by simp) (by simp)

theorem any_range_eq_any {α : Type} {l : List α} {g : Nat → Bool} {f : α → Bool}
    (same : ∀ k x, l[k]? = some x → g k = f x) : (List.range l.length).any g = l.any f := by
  have flags := congrArg (fun l => l.any id) (map_range_eq_map same)
  simpa only [List.any_map, Function.id_comp] using flags

/-- The low byte first, and back. -/
theorem of16_le16 (w : Half) : of16 (w.extractLsb' 0 8) (w.extractLsb' 8 8) = w := by
  refine BitVec.eq_of_getLsbD_eq fun i h => ?_
  simp only [of16, BitVec.getLsbD_append, BitVec.getLsbD_extractLsb']
  by_cases low : i < 8
  · simp [low]
  · simp [low, show i - 8 < 8 by omega, show 8 + (i - 8) = i by omega]

/-! ### CUE records (R27, R176, R177) -/

/-- The record of a defined cue. -/
def cueRecord (repeats finish : Byte) (steps : List (Byte × Byte)) : List Byte :=
  [1, byteOf steps.length, repeats, finish] ++ steps.flatMap fun p => [p.1, p.2]

/-- The step that two bytes of a CUE record give. -/
def stepOf (p : Byte × Byte) : CueStep :=
  if p.1.toNat = 0 then .play (Fin.ofNat 64 p.2.toNat) else .dwell (max 1 p.2.toNat)

theorem cueRecord_length (repeats finish : Byte) (steps : List (Byte × Byte)) :
    (cueRecord repeats finish steps).length = 4 + 2 * steps.length := by
  simp [cueRecord, List.length_flatMap]
  omega

theorem cueRecord_natAt (repeats finish : Byte) {steps : List (Byte × Byte)} {k : Nat} {p : Byte × Byte}
    (step : steps[k]? = some p) : natAt (cueRecord repeats finish steps) (4 + 2 * k) = p.1.toNat ∧
    natAt (cueRecord repeats finish steps) (5 + 2 * k) = p.2.toNat := by
  have field (j : Nat) (inside : j < 2) :
      byteAt (cueRecord repeats finish steps) (4 + (2 * k + j)) = byteAt [p.1, p.2] j :=
    (byteAt_append [1, byteOf steps.length, repeats, finish] _ _).trans
      (byteAt_flatMap (f := fun p => [p.1, p.2]) (fun _ => rfl) step inside)
  have kind := field 0 (by omega)
  have value := field 1 (by omega)
  rw [show 4 + (2 * k + 1) = 5 + 2 * k by omega] at value
  exact ⟨congrArg BitVec.toNat kind, congrArg BitVec.toNat value⟩

/-- What the three stages make of the record of a cue of 1 to 8 steps. -/
theorem readCue_cueRecord (repeats : Byte) {finish : Byte} {steps : List (Byte × Byte)} (ends : finish.toNat ≤ 1)
    (some' : 1 ≤ steps.length) (few : steps.length ≤ 8) : readCue (cueRecord repeats finish steps) = stages
      (firstFault (steps.mapIdx fun k p => (4 + 2 * k, decide (p.1.toNat ≤ 1))))
      (some ⟨steps.map stepOf, clampTo 1 15 repeats.toNat, if finish.toNat = 0 then .goHome else .stay⟩)
      (clampTo 1 15 repeats.toNat != repeats.toNat || steps.any fun p => p.1.toNat == 1 && p.2.toNat == 0)
      (firstFault (steps.mapIdx fun k p => (5 + 2 * k, decide (p.1.toNat = 1 ∨ p.2.toNat ≤ 63)))) := by
  have length := cueRecord_length repeats finish steps
  have field := fun k p (h : steps[k]? = some p) => cueRecord_natAt repeats finish h
  have defined : natAt (cueRecord repeats finish steps) 0 = 1 := rfl
  have count : natAt (cueRecord repeats finish steps) 1 = steps.length := byteOf_toNat (by omega)
  have again : natAt (cueRecord repeats finish steps) 2 = repeats.toNat := rfl
  have last : natAt (cueRecord repeats finish steps) 3 = finish.toNat := rfl
  generalize cueRecord repeats finish steps = r at *
  have forms : (List.range steps.length).map (fun k => (4 + 2 * k, decide (natAt r (4 + 2 * k) ≤ 1))) =
      steps.mapIdx fun k p => (4 + 2 * k, decide (p.1.toNat ≤ 1)) :=
    map_range_eq_mapIdx fun k p h => by rw [(field k p h).1]
  have structures : (List.range steps.length).map (fun k =>
        (5 + 2 * k, decide (natAt r (4 + 2 * k) = 1 ∨ natAt r (5 + 2 * k) ≤ 63))) =
      steps.mapIdx fun k p => (5 + 2 * k, decide (p.1.toNat = 1 ∨ p.2.toNat ≤ 63)) :=
    map_range_eq_mapIdx fun k p h => by rw [(field k p h).1, (field k p h).2]
  have values : (List.range steps.length).map (readStep r) = steps.map stepOf :=
    map_range_eq_map fun k p h => by rw [readStep, (field k p h).1, (field k p h).2, stepOf]
  have clamped : ((List.range steps.length).any fun k => natAt r (4 + 2 * k) == 1 && natAt r (5 + 2 * k) == 0) =
      steps.any fun p => p.1.toNat == 1 && p.2.toNat == 0 :=
    any_range_eq_any fun k p h => by rw [(field k p h).1, (field k p h).2]
  have present : ∀ c ∈ steps.mapIdx fun k p => (4 + 2 * k, decide (p.1.toNat ≤ 1)), c.1 < r.length := by
    intro c listed
    obtain ⟨k, below, rfl⟩ := List.mem_mapIdx.mp listed
    dsimp only
    omega
  rw [readCue, if_neg (by omega)]
  simp only [defined, count, again, last, forms, structures, values, clamped, List.cons_append, List.nil_append]
  rw [formFault_cons (by omega), formFault_cons (by omega), formFault_cons (by omega), if_pos (Nat.le_refl 1),
    if_pos ⟨some', few⟩, if_pos ends, formFault_of_present length present]

/-- R176: a DWELL step of count 0 is brought to 1. -/
def clampStep (p : Byte × Byte) : Byte × Byte := if p = (1, 0) then (1, 1) else p

/-- R176: the repeats are brought to 1 to 15. -/
def clampRepeats (n : Byte) : Byte := if n = 0 then 1 else if 15 < n.toNat then 15 else n

theorem clampRepeats_toNat (n : Byte) : (clampRepeats n).toNat = clampTo 1 15 n.toNat := by
  unfold clampRepeats clampTo
  split
  · rename_i zero; rw [zero]; rfl
  · rename_i some'
    have : n.toNat ≠ 0 := fun e => some' (BitVec.eq_of_toNat_eq e)
    split
    · rw [show (15 : Byte).toNat = 15 from rfl]; omega
    · omega

theorem clampRepeats_eq_self_iff (n : Byte) : clampRepeats n = n ↔ clampTo 1 15 n.toNat = n.toNat := by
  rw [← BitVec.toNat_inj, clampRepeats_toNat]

/-- A step is clamped where its two bytes say so. -/
theorem clampStep_ne_iff (p : Byte × Byte) : clampStep p ≠ p ↔ (p.1.toNat == 1 && p.2.toNat == 0) = true := by
  have bytes : (p.1.toNat == 1 && p.2.toNat == 0) = true ↔ p = (1, 0) := by
    rw [Bool.and_eq_true, beq_iff_eq, beq_iff_eq, Prod.ext_iff, ← BitVec.toNat_inj, ← BitVec.toNat_inj]
    rfl
  rw [bytes, clampStep]
  split <;> simp_all

theorem clampStep_kind (p : Byte × Byte) : (clampStep p).1 = p.1 := by
  unfold clampStep
  split <;> simp_all

theorem clampStep_structure (p : Byte × Byte) : decide (p.1.toNat = 1 ∨ (clampStep p).2.toNat ≤ 63) =
    decide (p.1.toNat = 1 ∨ p.2.toNat ≤ 63) := by
  unfold clampStep
  split
  · rename_i dwell; rw [dwell]; rfl
  · rfl

theorem stepOf_clampStep (p : Byte × Byte) : stepOf (clampStep p) = stepOf p := by
  unfold clampStep
  split
  · rename_i dwell; rw [dwell]; rfl
  · rfl

section
variable {repeats finish : Byte} {steps : List (Byte × Byte)} (ends : finish.toNat ≤ 1) (some' : 1 ≤ steps.length)
  (few : steps.length ≤ 8)
include ends some' few

/-- R27: a record in range is accepted as it stands. -/
theorem readCue_of_inRange (valid : ∀ p ∈ steps, (p.1 = 0 ∧ p.2.toNat ≤ 63) ∨ (p.1 = 1 ∧ p.2 ≠ 0))
    (same : clampRepeats repeats = repeats) : ∃ q, readCue (cueRecord repeats finish steps) = .ok (some q, false) := by
  have forms : ∀ p ∈ steps, decide (p.1.toNat ≤ 1) = true := fun p h => by
    rcases valid p h with ⟨kind, -⟩ | ⟨kind, -⟩ <;> rw [kind] <;> rfl
  have structures : ∀ p ∈ steps, decide (p.1.toNat = 1 ∨ p.2.toNat ≤ 63) = true := fun p h => by
    rcases valid p h with ⟨-, value⟩ | ⟨kind, -⟩
    · exact decide_eq_true (.inr value)
    · exact decide_eq_true (.inl (by rw [kind]; rfl))
  have whole : (steps.any fun p => p.1.toNat == 1 && p.2.toNat == 0) = false := by
    refine Bool.eq_false_of_not_eq_true fun any => ?_
    obtain ⟨p, h, bytes⟩ := List.any_eq_true.mp any
    simp only [Bool.and_eq_true, beq_iff_eq] at bytes
    rcases valid p h with ⟨kind, -⟩ | ⟨-, value⟩
    · rw [kind] at bytes; simp at bytes
    · exact value (BitVec.eq_of_toNat_eq bytes.2)
  rw [readCue_cueRecord repeats ends some' few, firstFault_mapIdx_none forms, firstFault_mapIdx_none structures, whole,
    (clampRepeats_eq_self_iff repeats).mp same, bne_self_eq_false]
  exact ⟨_, rfl⟩

/-- R176: a record out of range is taken as its clamped form, and marked. -/
theorem readCue_of_clamped (clamped : clampRepeats repeats ≠ repeats ∨ steps.map clampStep ≠ steps) :
    readCue (cueRecord repeats finish steps) =
      Staged.marked (readCue (cueRecord (clampRepeats repeats) finish (steps.map clampStep))) := by
  have flag : (clampTo 1 15 repeats.toNat != repeats.toNat ||
      steps.any fun p => p.1.toNat == 1 && p.2.toNat == 0) = true := by
    rw [Bool.or_eq_true, bne_iff_ne, ne_eq, ← clampRepeats_eq_self_iff, List.any_eq_true]
    refine clamped.imp id fun changed => ?_
    by_contra none
    refine changed ((List.map_congr_left fun p h => ?_).trans (List.map_id steps))
    by_contra bytes
    exact none ⟨p, h, (clampStep_ne_iff p).mp bytes⟩
  have again : clampTo 1 15 (clampTo 1 15 repeats.toNat) = clampTo 1 15 repeats.toNat := by
    unfold clampTo
    omega
  have few' : (steps.map clampStep).length ≤ 8 := by rwa [List.length_map]
  have some'' : 1 ≤ (steps.map clampStep).length := by rwa [List.length_map]
  rw [readCue_cueRecord repeats ends some' few, readCue_cueRecord _ ends some'' few', marked_stages, flag, mapIdx_map,
    mapIdx_map, List.map_map, clampRepeats_toNat, again]
  simp only [clampStep_kind, clampStep_structure, Function.comp_def, stepOf_clampStep]

/-- R175: the first step of an undefined kind is the first field at fault. -/
theorem readCue_of_kind {before after : List (Byte × Byte)} {kind v : Byte}
    (here : steps = before ++ (kind, v) :: after)
    (passes : ∀ p ∈ before, p.1.toNat ≤ 1) (fault : 1 < kind.toNat) :
    readCue (cueRecord repeats finish steps) = .error (BitVec.ofNat 16 (4 + 2 * before.length)) := by
  rw [readCue_cueRecord repeats ends some' few]
  refine stages_of_form ?_
  rw [here]
  exact firstFault_mapIdx_first (o := fun k => 4 + 2 * k) (fun p h => decide_eq_true (passes p h))
    (decide_eq_false (Nat.not_le.mpr fault))

/-- R175: the kinds pass, and the first PLAY step of a profile above 63 is the first value at fault. -/
theorem readCue_of_profile {before after : List (Byte × Byte)} {v : Byte} (here : steps = before ++ (0, v) :: after)
    (kinds : ∀ p ∈ steps, p.1.toNat ≤ 1) (passes : ∀ p ∈ before, p.1 = 1 ∨ p.2.toNat ≤ 63) (fault : 63 < v.toNat) :
    readCue (cueRecord repeats finish steps) = .error (BitVec.ofNat 16 (5 + 2 * before.length)) := by
  rw [readCue_cueRecord repeats ends some' few, firstFault_mapIdx_none fun p h => decide_eq_true (kinds p h), here,
    firstFault_mapIdx_first (o := fun k => 5 + 2 * k)
      (c := fun p : Byte × Byte => decide (p.1.toNat = 1 ∨ p.2.toNat ≤ 63))
      (fun p h => decide_eq_true ((passes p h).imp (fun dwell => by rw [dwell]; rfl) id))
      (x := (0, v)) (decide_eq_false (not_or.mpr ⟨Nat.zero_ne_one, Nat.not_le.mpr fault⟩))]
  rfl

end

/-! ### PROFILE records (R25, R176, R177) -/

/-- The bytes of one segment of a PROFILE record. -/
def segmentRecord (g : Half × Half × Byte) : List Byte := le16 g.1 ++ le16 g.2.1 ++ [g.2.2]

/-- The record of a defined profile. -/
def profileRecord (mode : Byte) (segments : List (Half × Half × Byte)) : List Byte :=
  [1, mode, byteOf segments.length] ++ segments.flatMap segmentRecord

/-- The segment that the fields of a PROFILE record give. -/
def segmentOf (g : Half × Half × Byte) : Segment := ⟨min 10000 g.1.toNat, g.2.1.toInt, stretchOf g.2.2.toNat⟩

theorem profileRecord_length (mode : Byte) (segments : List (Half × Half × Byte)) :
    (profileRecord mode segments).length = 3 + 5 * segments.length := by
  simp [profileRecord, segmentRecord, le16, List.length_flatMap]
  omega

/-- The duration, the target and the stretch class of a segment. -/
theorem profileRecord_fields (mode : Byte) {segments : List (Half × Half × Byte)} {k : Nat} {g : Half × Half × Byte}
    (segment : segments[k]? = some g) : halfAt (profileRecord mode segments) (3 + 5 * k) = g.1 ∧
    halfAt (profileRecord mode segments) (5 + 5 * k) = g.2.1 ∧
    natAt (profileRecord mode segments) (7 + 5 * k) = g.2.2.toNat := by
  have field (j : Nat) (inside : j < 5) :
      byteAt (profileRecord mode segments) (3 + (5 * k + j)) = byteAt (segmentRecord g) j :=
    (byteAt_append [1, mode, byteOf segments.length] _ _).trans
      (byteAt_flatMap (f := segmentRecord) (fun _ => rfl) segment inside)
  have half (i j : Nat) (inside : j + 1 < 5) (place : i = 3 + (5 * k + j)) : halfAt (profileRecord mode segments) i =
      of16 (byteAt (segmentRecord g) j) (byteAt (segmentRecord g) (j + 1)) := by
    rw [place, halfAt, field j (by omega), Nat.add_assoc, Nat.add_assoc, field (j + 1) inside]
  refine ⟨(half _ 0 (by omega) (by omega)).trans (of16_le16 g.1),
    (half _ 2 (by omega) (by omega)).trans (of16_le16 g.2.1), ?_⟩
  rw [show 7 + 5 * k = 3 + (5 * k + 4) by omega, natAt, field 4 (by omega)]
  rfl

/-- What the stages make of the record of a profile of 1 to 11 segments. -/
theorem readProfile_profileRecord {mode : Byte} {segments : List (Half × Half × Byte)} (defined : mode.toNat ≤ 1)
    (some' : 1 ≤ segments.length) (few : segments.length ≤ 11) : readProfile (profileRecord mode segments) = stages
      (firstFault (segments.mapIdx fun k g => (7 + 5 * k, decide (g.2.2.toNat ≤ 3))))
      (some ⟨if mode.toNat = 0 then .abs else .rel, segments.map segmentOf⟩)
      (segments.any fun g => 10000 < g.1.toNat) none := by
  have length := profileRecord_length mode segments
  have field := fun k g (h : segments[k]? = some g) => profileRecord_fields mode h
  have first : natAt (profileRecord mode segments) 0 = 1 := rfl
  have second : natAt (profileRecord mode segments) 1 = mode.toNat := rfl
  have count : natAt (profileRecord mode segments) 2 = segments.length := byteOf_toNat (by omega)
  generalize profileRecord mode segments = r at *
  have forms : (List.range segments.length).map (fun k => (7 + 5 * k, decide (natAt r (7 + 5 * k) ≤ 3))) =
      segments.mapIdx fun k g => (7 + 5 * k, decide (g.2.2.toNat ≤ 3)) :=
    map_range_eq_mapIdx fun k g h => by rw [(field k g h).2.2]
  have values : (List.range segments.length).map (readSegment r) = segments.map segmentOf :=
    map_range_eq_map fun k g h => by
      obtain ⟨duration, target, stretch⟩ := field k g h
      rw [readSegment, duration, target, stretch, segmentOf]
  have clamped : ((List.range segments.length).any fun k => decide (10000 < (halfAt r (3 + 5 * k)).toNat)) =
      segments.any fun g => 10000 < g.1.toNat :=
    any_range_eq_any fun k g h => by rw [(field k g h).1]
  have present : ∀ c ∈ segments.mapIdx fun k g => (7 + 5 * k, decide (g.2.2.toNat ≤ 3)), c.1 < r.length := by
    intro c listed
    obtain ⟨k, below, rfl⟩ := List.mem_mapIdx.mp listed
    dsimp only
    omega
  rw [readProfile, if_neg (by omega)]
  simp only [first, second, count, forms, values, clamped, List.cons_append, List.nil_append]
  rw [formFault_cons (by omega), formFault_cons (by omega), formFault_cons (by omega), if_pos (Nat.le_refl 1),
    if_pos defined, if_pos ⟨some', few⟩, formFault_of_present length present]

/-- R176: a duration is brought to at most 10,000 ms. -/
def clampSegment (g : Half × Half × Byte) : Half × Half × Byte := if 10000 < g.1.toNat then (10000, g.2) else g

theorem clampSegment_snd (g : Half × Half × Byte) : (clampSegment g).2 = g.2 := by
  unfold clampSegment
  split <;> rfl

theorem clampSegment_eq_self_iff (g : Half × Half × Byte) : clampSegment g = g ↔ ¬ 10000 < g.1.toNat := by
  unfold clampSegment
  split
  · rename_i long
    refine iff_of_false (fun same => ?_) (not_not.mpr long)
    rw [← same] at long
    exact absurd long (Nat.lt_irrefl 10000)
  · rename_i short
    exact iff_of_true rfl short

theorem segmentOf_clampSegment (g : Half × Half × Byte) : segmentOf (clampSegment g) = segmentOf g := by
  unfold clampSegment
  split
  · rename_i long
    rw [segmentOf, segmentOf, Nat.min_eq_left long.le]
    rfl
  · rfl

section
variable {mode : Byte} {segments : List (Half × Half × Byte)} (defined : mode.toNat ≤ 1) (some' : 1 ≤ segments.length)
  (few : segments.length ≤ 11)
include defined some' few

/-- R25: a record in range is accepted as it stands. -/
theorem readProfile_of_inRange (valid : ∀ g ∈ segments, g.2.2.toNat ≤ 3) (same : segments.map clampSegment = segments) :
    ∃ q, readProfile (profileRecord mode segments) = .ok (some q, false) := by
  have whole : (segments.any fun g => decide (10000 < g.1.toNat)) = false := by
    rw [List.any_eq_false]
    intro g h
    have unchanged : clampSegment g = g := List.map_inj_left.mp (same.trans (List.map_id segments).symm) g h
    simpa using (clampSegment_eq_self_iff g).mp unchanged
  rw [readProfile_profileRecord defined some' few, firstFault_mapIdx_none fun g h => decide_eq_true (valid g h), whole]
  exact ⟨_, rfl⟩

/-- R176: a record out of range is taken as its clamped form, and marked. -/
theorem readProfile_of_clamped (clamped : segments.map clampSegment ≠ segments) :
    readProfile (profileRecord mode segments) =
      Staged.marked (readProfile (profileRecord mode (segments.map clampSegment))) := by
  have flag : (segments.any fun g => decide (10000 < g.1.toNat)) = true := by
    rw [List.any_eq_true]
    by_contra none
    refine clamped ((List.map_congr_left fun g h => ?_).trans (List.map_id segments))
    exact (clampSegment_eq_self_iff g).mpr fun long => none ⟨g, h, decide_eq_true long⟩
  have few' : (segments.map clampSegment).length ≤ 11 := by rwa [List.length_map]
  have some'' : 1 ≤ (segments.map clampSegment).length := by rwa [List.length_map]
  rw [readProfile_profileRecord defined some' few, readProfile_profileRecord defined some'' few', marked_stages, flag,
    mapIdx_map, List.map_map]
  simp only [clampSegment_snd, Function.comp_def, segmentOf_clampSegment]

/-- R175: the first segment of an undefined stretch class is the first field at fault. -/
theorem readProfile_of_stretch {before after : List (Half × Half × Byte)} {g : Half × Half × Byte}
    (here : segments = before ++ g :: after) (passes : ∀ x ∈ before, x.2.2.toNat ≤ 3) (fault : 3 < g.2.2.toNat) :
    readProfile (profileRecord mode segments) = .error (BitVec.ofNat 16 (7 + 5 * before.length)) := by
  rw [readProfile_profileRecord defined some' few]
  refine stages_of_form ?_
  rw [here]
  exact firstFault_mapIdx_first (o := fun k => 7 + 5 * k) (fun x h => decide_eq_true (passes x h))
    (decide_eq_false (Nat.not_le.mpr fault))

end

/-! ### Fields before the entries, and the length (R175) -/

theorem readCue_of_undefined {r : List Byte} (h : byteAt r 0 = 0) :
    readCue r = stages (formFault r [] 1) none false none :=
  if_pos (congrArg BitVec.toNat h)

theorem readProfile_of_undefined {r : List Byte} (h : byteAt r 0 = 0) :
    readProfile r = stages (formFault r [] 1) none false none :=
  if_pos (congrArg BitVec.toNat h)

theorem formFault_nil_of_length_ne {r : List Byte} (wrong : r.length ≠ 1) : formFault r [] 1 = some 0xFFFF :=
  if_neg wrong

section
variable {r : List Byte}

theorem readCue_of_flag (long : 1 ≤ r.length) (fault : 1 < natAt r 0) : readCue r = .error 0 := by
  rw [readCue, if_neg (by omega)]
  refine stages_of_form ?_
  rw [List.cons_append, formFault_cons (by omega), if_neg (by omega)]
  rfl

theorem readProfile_of_flag (long : 1 ≤ r.length) (fault : 1 < natAt r 0) : readProfile r = .error 0 := by
  rw [readProfile, if_neg (by omega)]
  refine stages_of_form ?_
  rw [List.cons_append, formFault_cons (by omega), if_neg (by omega)]
  rfl

section
variable (defined : natAt r 0 = 1)
include defined

theorem readCue_of_count (long : 4 ≤ r.length) (fault : natAt r 1 = 0 ∨ 8 < natAt r 1) : readCue r = .error 1 := by
  rw [readCue, if_neg (by omega)]
  refine stages_of_form ?_
  rw [List.cons_append, formFault_cons (by omega), List.cons_append, formFault_cons (by omega),
    if_pos (by omega), if_neg (by omega)]
  rfl

theorem readCue_of_finish (long : 4 ≤ r.length) (some' : 1 ≤ natAt r 1) (few : natAt r 1 ≤ 8) (fault : 1 < natAt r 3) :
    readCue r = .error 3 := by
  rw [readCue, if_neg (by omega)]
  refine stages_of_form ?_
  rw [List.cons_append, formFault_cons (by omega), List.cons_append, formFault_cons (by omega), List.cons_append,
    formFault_cons (by omega), if_pos (by omega), if_pos ⟨some', few⟩, if_neg (by omega)]
  rfl

theorem readProfile_of_mode (long : 3 ≤ r.length) (fault : 1 < natAt r 1) : readProfile r = .error 1 := by
  rw [readProfile, if_neg (by omega)]
  refine stages_of_form ?_
  rw [List.cons_append, formFault_cons (by omega), List.cons_append, formFault_cons (by omega),
    if_pos (by omega), if_neg (by omega)]
  rfl

theorem readProfile_of_count (long : 3 ≤ r.length) (mode : natAt r 1 ≤ 1) (fault : natAt r 2 = 0 ∨ 11 < natAt r 2) :
    readProfile r = .error 2 := by
  rw [readProfile, if_neg (by omega)]
  refine stages_of_form ?_
  rw [List.cons_append, formFault_cons (by omega), List.cons_append, formFault_cons (by omega), List.cons_append,
    formFault_cons (by omega), if_pos (by omega), if_pos mode, if_neg (by omega)]
  rfl

/-- Log 19: a defined cue's record of a wrong length is refused, whatever its fields. -/
theorem readCue_of_length (wrong : r.length ≠ 4 + 2 * natAt r 1) : ∃ o, readCue r = .error o := by
  obtain ⟨o, fault⟩ := formFault_of_length_ne wrong _
  rw [readCue, if_neg (by omega)]
  exact ⟨o, stages_of_form fault⟩

/-- Log 19: a defined profile's record of a wrong length is refused, whatever its fields. -/
theorem readProfile_of_length (wrong : r.length ≠ 3 + 5 * natAt r 2) : ∃ o, readProfile r = .error o := by
  obtain ⟨o, fault⟩ := formFault_of_length_ne wrong _
  rw [readProfile, if_neg (by omega)]
  exact ⟨o, stages_of_form fault⟩

end

end

/-! ### PATTERN records (R144, R176, R177) -/

/-- What the stages make of a PATTERN record of four bytes. -/
theorem readPattern_bytes (on off chime tone : Byte) : readPattern [on, off, chime, tone] = stages
    (if chime.toNat ≤ 1 then if tone.toNat ≤ 3 then none else some 3 else some 2)
    ⟨max 1 on.toNat, max 1 off.toNat, chime.toNat == 1, toneOf tone.toNat⟩ (decide (on = 0 ∨ off = 0)) none := by
  have fields : formFault [on, off, chime, tone] [(2, decide (chime.toNat ≤ 1)), (3, decide (tone.toNat ≤ 3))] 4 =
      if chime.toNat ≤ 1 then if tone.toNat ≤ 3 then none else some 3 else some 2 := by
    rw [formFault_cons (by simp), formFault_cons (by simp)]
    rfl
  have clamped (b : Byte) : (max 1 b.toNat != b.toNat) = decide (b = 0) := by
    rw [Bool.eq_iff_iff, bne_iff_ne, decide_eq_true_iff, ← BitVec.toNat_inj, show (0 : Byte).toNat = 0 from rfl]
    omega
  rw [Bool.decide_or, ← clamped, ← clamped, ← fields]
  rfl

theorem toneOf_code {n : Nat} (h : n ≤ 3) : (toneOf n).code = n := by
  interval_cases n <;> rfl

/-- Log 19: a PATTERN record of a wrong length is refused, whatever its fields. -/
theorem readPattern_of_length {r : List Byte} (wrong : r.length ≠ 4) : ∃ o, readPattern r = .error o := by
  obtain ⟨o, fault⟩ := formFault_of_length_ne wrong _
  rw [readPattern]
  exact ⟨o, stages_of_form fault⟩

/-! ### TABLE_WRITEs of the three tables -/

/-- A record that is read leaves only the question whether its entry is in use. -/
theorem writeCue_of_read {c : CueId} {record : List Byte} {q : Option Cue} {clamped : Bool} (s : State)
    (read : readCue record = .ok (q, clamped)) : writeCue c record s = if s.cueInUse c then (s, inUseReply)
      else (s.onMotion fun x => { x with cues := tput x.cues c q }, storedReply clamped) := by
  rw [writeCue, read]

theorem writeProfile_of_read {p : ProfileId} {record : List Byte} {q : Option Profile} {clamped : Bool} (s : State)
    (read : readProfile record = .ok (q, clamped)) : writeProfile p record s = if s.profileInUse p then (s, inUseReply)
      else (s.onMotion fun x => { x with profiles := tput x.profiles p q }, storedReply clamped) := by
  rw [writeProfile, read]

theorem writePattern_of_read {i : Fin 3} {record : List Byte} {p : Pattern} {clamped : Bool} (s : State)
    (read : readPattern record = .ok (p, clamped)) : writePattern i record s =
      (s.onAlert fun u => { u with patterns := tput u.patterns i p }, storedReply clamped) := by
  rw [writePattern, read]

/-- A cue is in use where a model in play is at it. -/
theorem cueInUse_iff {s : State} {k : CueId} : s.cueInUse k = true ↔
    ∃ m p, (s.model m).inPlay = true ∧ (s.model m).position = some p ∧ p.cue = k := by
  simp [State.cueInUse, mem_allModels, Option.any_eq_true]

/-- A profile is in use where a cue in play has it as a step. -/
theorem profileInUse_iff {s : State} {k : ProfileId} : s.profileInUse k = true ↔
    ∃ m p u, (s.model m).inPlay = true ∧ (s.model m).position = some p ∧ s.cue p.cue = some u ∧ .play k ∈ u.steps := by
  simp [State.profileInUse, mem_allModels, Option.any_eq_true, Cue.names]

/-- R174: the entries of the three tables are addressed by their numbers and at least one byte. -/
theorem tableAddressFault_entry {id : Byte} {n : Nat} (range : tableRange id.toNat = some (0, n)) (few : n ≤ 256)
    (i : Fin n) {record : List Byte} (some' : record ≠ []) :
    tableAddressFault false (id :: byteOf i.val :: record) = none := by
  have index : (byteOf i.val).toNat = i.val := byteOf_toNat (by omega)
  have long : ¬ record.length + 1 + 1 < 3 := by
    have := List.length_pos_iff.mpr some'
    omega
  simp [tableAddressFault, natAt_cons_zero, natAt_cons_succ, range, index, long]

section
variable {c : Sender} {record : List Byte} {s t : State} {r : Result} {d : Half} (h : s.carriesOut c = true)
include h

/-- A TABLE_WRITE to an entry that stands is answered with what its body says. -/
theorem act_tableWrite {id index : Byte} {body : State → State × Verdict16}
    (address : tableAddressFault false (id :: index :: record) = none) (done : body s = (t, (r, d))) :
    act (tableWrite id c index record body) s = .next (settle (t.answeredWith c (writeReply id r d))) := by
  rw [act_of_running (State.running_of_carriesOut h), tableWrite, answered_of_carriesOut h, address]
  simp only [done]
  rfl

section
variable (some' : record ≠ [])
include some'

theorem act_cueWrite {k : CueId} (done : writeCue k record s = (t, (r, d))) :
    exec (.cueWrite c (byteOf k.val) record) s = .next (settle (t.answeredWith c (writeReply 3 r d))) :=
  act_tableWrite h (tableAddressFault_entry rfl (by omega) k some')
    (by rw [byteOf_toNat (by omega), indexBelow_of_fin]; exact done)

theorem act_profileWrite {k : ProfileId} (done : writeProfile k record s = (t, (r, d))) :
    exec (.profileWrite c (byteOf k.val) record) s = .next (settle (t.answeredWith c (writeReply 4 r d))) :=
  act_tableWrite h (tableAddressFault_entry rfl (by omega) k some')
    (by rw [byteOf_toNat (by omega), indexBelow_of_fin]; exact done)

theorem act_patternWrite {k : Fin 3} (done : writePattern k record s = (t, (r, d))) :
    exec (.patternWrite c (byteOf k.val) record) s = .next (settle (t.answeredWith c (writeReply 7 r d))) :=
  act_tableWrite h (tableAddressFault_entry rfl (by omega) k some')
    (by rw [byteOf_toNat (by omega), indexBelow_of_fin]; exact done)

end

end

/-- Settles O27: a write stores what its record reads as unless the entry is in use, and the stages of R175 say what
each record reads as: the first field out of form, then the length, then the first profile of a step out of range. -/
theorem cueProfileAndPatternWritesStore : Obligations.CueProfileAndPatternWritesStore := by
  refine ⟨fun c record clamped s h some' => ⟨fun k q read => ?cue, fun k q read => ?profile, fun k p read => ?pattern⟩,
    ?heads, fun repeats finish steps ends some' few => ?steps, fun mode segments defined some' few => ?segments,
    fun on off chime tone => ?bytes, fun r wrong => readPattern_of_length wrong⟩
  case cue =>
    refine ⟨fun used => ?_, fun free => ?_⟩
    · exact act_cueWrite h some' ((writeCue_of_read s read).trans (if_pos (cueInUse_iff.mpr used)))
    · have unused : ¬ s.cueInUse k = true := fun used => by
        obtain ⟨m, p, play, place, here⟩ := cueInUse_iff.mp used
        exact free m p play place here
      exact act_cueWrite h some' ((writeCue_of_read s read).trans (if_neg unused))
  case profile =>
    refine ⟨fun used => ?_, fun free => ?_⟩
    · exact act_profileWrite h some' ((writeProfile_of_read s read).trans (if_pos (profileInUse_iff.mpr used)))
    · have unused : ¬ s.profileInUse k = true := fun used => by
        obtain ⟨m, p, u, play, place, cue, step⟩ := profileInUse_iff.mp used
        exact free m p u play place cue step
      exact act_profileWrite h some' ((writeProfile_of_read s read).trans (if_neg unused))
  case pattern => exact act_patternWrite h some' (writePattern_of_read s read)
  case heads =>
    refine ⟨rfl, rfl, fun r undefined wrong => ?_, fun d rest fault => ?_, fun n repeats finish rest => ⟨?_, ?_⟩,
      fun mode n rest => ⟨?_, ?_⟩, fun r => ⟨?_, ?_⟩⟩
    · rw [readCue_of_undefined undefined, readProfile_of_undefined undefined, formFault_nil_of_length_ne wrong]
      exact ⟨rfl, rfl⟩
    · exact ⟨readCue_of_flag (by simp) fault, readProfile_of_flag (by simp) fault⟩
    · exact fun fault => readCue_of_count rfl (by simp) (fault.imp (congrArg BitVec.toNat) id)
    · exact fun some' few fault => readCue_of_finish rfl (by simp) some' few fault
    · exact fun fault => readProfile_of_mode rfl (by simp) fault
    · exact fun defined fault => readProfile_of_count rfl (by simp) defined (fault.imp (congrArg BitVec.toNat) id)
    · exact fun wrong defined => readCue_of_length (congrArg BitVec.toNat defined) wrong
    · exact fun wrong defined => readProfile_of_length (congrArg BitVec.toNat defined) wrong
  case steps =>
    exact ⟨readCue_of_inRange ends some' few, readCue_of_clamped ends some' few,
      fun _ _ _ _ here passes fault => readCue_of_kind ends some' few here passes fault,
      fun _ _ _ here kinds passes fault => readCue_of_profile ends some' few here kinds passes fault⟩
  case segments =>
    exact ⟨readProfile_of_inRange defined some' few, readProfile_of_clamped defined some' few,
      fun _ _ _ here passes fault => readProfile_of_stretch defined some' few here passes fault⟩
  case bytes =>
    rw [readPattern_bytes]
    refine ⟨fun sound voice => ?_, fun fault => ?_, fun sound fault => ?_⟩
    · rw [if_pos sound, if_pos voice]
      refine ⟨_, rfl, rfl, rfl, ?_, toneOf_code voice⟩
      rw [beq_iff_eq]
      exact BitVec.toNat_inj (y := 1)
    · rw [if_neg (Nat.not_le.mpr fault)]
      rfl
    · rw [if_pos sound, if_neg (Nat.not_le.mpr fault)]
      rfl

end Sys2Proof.Machine

/-! ## A wake that opens at once, with a drive flag seen

O41 says of every wake that opens at once that it leaves the wait lists alone. In the bay below it does not: model 0 has
its drive flag seen, so the due entry that the opening serves is answered FAULT_LATCHED (R6). The drive report trips the
model (R17, R114), and entry into FAULTED flushes the request that waits for it (R75). -/

namespace Sys2Proof.Machine

/-- The entry of model 0, reached and not yet due, with a late limit of a second. -/
def reachedEntry : ScheduleEntry := ⟨0, 0, 0, 1, none⟩

/-- A dozing bay with every drive energised, whose IDLE model 0 has its drive flag seen and a request waiting. -/
def flaggedDoze : State := { State.reset with
  motion := { MotionSequencer.reset with
    models := tput MotionSequencer.reset.models 0 { Model.reset with
      config := { ModelConfig.unconfigured with waitDepth := 1 }, state := .idle, flagSeen := true }
    cues := tput MotionSequencer.reset.cues 0 (some ⟨[.dwell 1], 1, .goHome⟩)
    schedule := [reachedEntry] }
  press := { PressArbiter.reset with waits := tput PressArbiter.reset.waits 0 [⟨⟨0, 0⟩, 0, 0, 1000⟩] }
  sup := { Supervisor.reset with watch := tput Supervisor.reset.watch 0 { Watch.reset with energised := true } }
  modeCtl := ⟨.doze, none, none⟩ }

theorem flaggedDoze_scheduleWf : flaggedDoze.ScheduleWf := by constructor <;> decide +kernel

theorem flaggedDoze_energised (k : ModelId) :
    (flaggedDoze.model k).state = .disabled ∨ (flaggedDoze.watch k).energised = true := by
  revert k; decide +kernel

theorem flaggedDoze_waits : (flaggedDoze.waits 0).length = 1 := by decide +kernel

/-- The entry comes due, the bay wakes and opens, the model trips and its list is flushed. -/
theorem flaggedDoze_flushes : ((nextDue flaggedDoze).waits 0).length = 0 := by decide +kernel

/-- Refutes O41: in DOZE with every drive energised, an entry whose model has its drive flag seen trips the model as the
bay opens, and the model's waiting request is flushed; the statement keeps every wait list there. -/
theorem not_scheduleEntriesComeDue : ¬ Obligations.ScheduleEntriesComeDue := by
  intro holds
  obtain ⟨-, -, -, -, comesDue, -, -⟩ := holds flaggedDoze
  obtain ⟨t, run, -, -, -, -, -, opensAtOnce⟩ :=
    comesDue [] reachedEntry [] rfl flaggedDoze_scheduleWf rfl rfl (by decide) nofun
  obtain ⟨-, -, -, -, waits⟩ := opensAtOnce rfl flaggedDoze_energised nofun
  rw [exec_scheduleEntryDue, act_of_running rfl] at run
  have settled : t.press.waits = (nextDue flaggedDoze).press.waits := by
    rw [← Host.Outcome.next.inj run, settle_press_waits]
  have kept : (nextDue flaggedDoze).waits 0 = flaggedDoze.waits 0 := by
    simp only [State.waits, ← settled, waits]
  exact absurd flaggedDoze_flushes (by rw [kept, flaggedDoze_waits]; decide)

end Sys2Proof.Machine

/-! ## The schedule list, the wait lists and the tallies: what an operation may do to them

What O57 says of one state is `State.Tidy` with `State.Shut`. `State.Follows s t` says that an operation from `s` to `t`
keeps both, leaves the show clock alone, and takes entries that are not yet due out of the schedule list at most; all
operations but the passing of time, SHOW_SYNC, the placing of an entry and the resets do. -/

namespace Sys2Proof.Machine

/-! ### What is read -/

/-- The entries that are not yet due. -/
def State.upcoming (s : State) : List ScheduleEntry := s.motion.schedule.filter fun e => e.due.isNone

/-- What the invariants read of a state besides the gallery mode. -/
structure Ledger where
  schedule : List ScheduleEntry
  clock : Clock
  waits : Vector (List Request) 12
  tallies : Tallies
  state : ModelId → ModelState
  depth : ModelId → Nat

/-- The ledger of a state. -/
def State.ledger (s : State) : Ledger :=
  ⟨s.motion.schedule, s.clock, s.press.waits, s.press.tallies, fun m => (s.model m).state,
    fun m => (s.model m).config.waitDepth⟩

/-- The ledger with the gallery mode: all that the invariants read. -/
def State.books (s : State) : Ledger × GalleryMode := (s.ledger, s.gallery)

/-- R76: the tallies are in balance while none has reached its largest value. -/
def State.Even (s : State) : Prop := s.TalliesBelowMax → s.Balanced

/-- R66, R72, R75, R76: what `ListsWf` says in every gallery mode, and the balance. -/
structure State.Listed (s : State) : Prop where
  apart : ∀ m, ((s.waits m).map Request.key).Nodup
  depth : ∀ m, (s.waits m).length ≤ (s.model m).config.waitDepth
  empty : ∀ m, (s.model m).state.stoppable = false → s.waits m = []
  even : s.Even

/-- The lists are well formed, whatever the gallery mode, and the tallies in balance. -/
structure State.Tidy (s : State) : Prop where
  schedule : s.ScheduleWf
  listed : s.Listed

/-- R75: in CLOSED and SERVICE every wait list is empty. -/
def State.Shut (s : State) : Prop := s.gallery = .closed ∨ s.gallery = .service → ∀ m, s.waits m = []

theorem ModelState.stoppable_eq_false_iff (x : ModelState) : x.stoppable = false ↔
    x = .disabled ∨ x = .enabling ∨ x = .stopped ∨ x = .faulted := by
  cases x <;> simp [ModelState.stoppable]

theorem State.tidy_shut_iff (s : State) : s.Tidy ∧ s.Shut ↔ s.ScheduleWf ∧ s.ListsWf ∧ s.Even := by
  constructor
  · rintro ⟨⟨schedule, apart, depth, empty, even⟩, shut⟩
    exact ⟨schedule, ⟨apart, depth, fun m out => empty m ((ModelState.stoppable_eq_false_iff _).mpr out), shut⟩, even⟩
  · rintro ⟨schedule, ⟨apart, depth, empty, shut⟩, even⟩
    exact ⟨⟨schedule, apart, depth, fun m out => empty m ((ModelState.stoppable_eq_false_iff _).mp out), even⟩, shut⟩

/-! ### The relations -/

/-- An operation keeps the lists and the balance in the mode it finds or enters. -/
structure State.Minds (s t : State) : Prop where
  clock : t.clock = s.clock
  upcoming : t.upcoming.Sublist s.upcoming
  tidy : s.Tidy → t.Tidy

/-- An operation that minds the lists and leaves none filled in CLOSED or SERVICE. -/
structure State.Follows (s t : State) : Prop extends State.Minds s t where
  shut : s.Shut → t.Shut

theorem State.Minds.trans {s t u : State} (h : State.Minds s t) (g : State.Minds t u) : State.Minds s u :=
  ⟨g.clock.trans h.clock, g.upcoming.trans h.upcoming, g.tidy ∘ h.tidy⟩

theorem State.Follows.trans {s t u : State} (h : State.Follows s t) (g : State.Follows t u) : State.Follows s u :=
  ⟨h.toMinds.trans g.toMinds, g.shut ∘ h.shut⟩

theorem State.Minds.follows {s t : State} (h : State.Minds s t) (shut : t.Shut) : State.Follows s t :=
  ⟨h, fun _ => shut⟩

theorem State.ScheduleWf.of_ledger {s t : State} (same : t.ledger = s.ledger) (h : s.ScheduleWf) : t.ScheduleWf := by
  have schedule : t.motion.schedule = s.motion.schedule := congrArg Ledger.schedule same
  have state (m : ModelId) : (t.model m).state = (s.model m).state := congrFun (congrArg Ledger.state same) m
  obtain ⟨length, apart, dueFirst, inService⟩ := h
  constructor <;> simp only [schedule, state] <;> assumption

theorem State.Listed.of_ledger {s t : State} (same : t.ledger = s.ledger) (h : s.Listed) : t.Listed := by
  have waits : t.waits = s.waits := funext fun m => congrArg (tget · m) (congrArg Ledger.waits same)
  have tallies : t.press.tallies = s.press.tallies := congrArg Ledger.tallies same
  have state (m : ModelId) : (t.model m).state = (s.model m).state := congrFun (congrArg Ledger.state same) m
  have depths (m : ModelId) : (t.model m).config.waitDepth = (s.model m).config.waitDepth :=
    congrFun (congrArg Ledger.depth same) m
  obtain ⟨apart, depth, empty, even⟩ := h
  constructor <;>
    simp only [State.Even, State.TalliesBelowMax, State.Balanced, State.waitingCount, waits, tallies, state, depths] <;>
    assumption

theorem State.Minds.of_ledger {s t : State} (same : t.ledger = s.ledger) : State.Minds s t where
  clock := congrArg Ledger.clock same
  upcoming := by
    have schedule : t.motion.schedule = s.motion.schedule := congrArg Ledger.schedule same
    rw [State.upcoming, schedule]
    exact .refl _
  tidy h := ⟨h.schedule.of_ledger same, h.listed.of_ledger same⟩

/-- An operation that changes nothing of what the invariants read. -/
theorem State.Follows.of_books {s t : State} (same : t.books = s.books) : State.Follows s t where
  toMinds := .of_ledger (congrArg Prod.fst same)
  shut h := by
    have waits : t.waits = s.waits :=
      funext fun m => congrArg (tget · m) (congrArg (fun b => b.1.waits) same)
    have gallery : t.gallery = s.gallery := congrArg Prod.snd same
    simpa only [State.Shut, waits, gallery] using h

theorem State.Follows.refl (s : State) : State.Follows s s := .of_books rfl

theorem follows_ite {c : Prop} [Decidable c] {s t u : State} (ht : c → State.Follows s t)
    (hu : ¬ c → State.Follows s u) : State.Follows s (if c then t else u) := by
  split
  · exact ht ‹_›
  · exact hu ‹_›

/-- An operation that is done, or not. -/
theorem follows_if {c : Prop} [Decidable c] {s t u : State} (first : State.Follows s u) (h : State.Follows u t) :
    State.Follows s (if c then t else u) := follows_ite (fun _ => first.trans h) fun _ => first

theorem forEach_follows {α : Type} {op : α → State → State} (follows : ∀ x t, State.Follows t (op x t)) (xs : List α)
    (s : State) : State.Follows s (forEach xs op s) := by
  induction xs generalizing s with
  | nil => exact .refl s
  | cons x _ ih => exact (follows x s).trans (ih _)

/-! ### Operations that change nothing of the books -/

@[simp] theorem State.onRelay_books (s : State) (f : LineRelay → LineRelay) : (s.onRelay f).books = s.books := rfl
@[simp] theorem State.onSup_books (s : State) (f : Supervisor → Supervisor) : (s.onSup f).books = s.books := rfl
@[simp] theorem State.onAlert_books (s : State) (f : AlertUnit → AlertUnit) : (s.onAlert f).books = s.books := rfl
@[simp] theorem State.onPins_books (s : State) (f : Pins → Pins) : (s.onPins f).books = s.books := rfl
@[simp] theorem State.withPending_books (s : State) (q : List Instr) : (s.withPending q).books = s.books := rfl
@[simp] theorem State.modWatch_books (s : State) (m : ModelId) (f : Watch → Watch) :
    (s.modWatch m f).books = s.books := rfl
@[simp] theorem State.modMarks_books (s : State) (id : FaultId) (f : Marks → Marks) :
    (s.modMarks id f).books = s.books := rfl
@[simp] theorem State.modNode_books (s : State) (n : NodeId) (f : NodeEntry → NodeEntry) :
    (s.modNode n f).books = s.books := rfl
@[simp] theorem State.modEntry_books (s : State) (i : EntryIx) (f : Button → Button) :
    (s.modEntry i f).books = s.books := rfl
@[simp] theorem State.onBayCounters_books (s : State) (f : BayCounters → BayCounters) :
    (s.onBayCounters f).books = s.books := rfl
@[simp] theorem State.onSpineCounters_books (s : State) (f : SpineCounters → SpineCounters) :
    (s.onSpineCounters f).books = s.books := rfl
@[simp] theorem quench_books (id : FaultId) (s : State) : (quench id s).books = s.books := rfl

@[simp] theorem quietTest_books (b : Bool) (s : State) : (quietTest b s).books = s.books := by
  obtain ⟨q, eq, mode, -⟩ := quietTest_eq b s
  rw [eq]
  exact Prod.ext rfl mode

@[simp] theorem raise_books (a : About) (s : State) : (raise a s).books = s.books := by rw [raise_eq]; rfl

/-- A state that differs in what a settling may change only has the same books. -/
theorem State.books_of_steady {s t : State} (h : t.steady = s.steady) : t.books = s.books := by
  have same : t.steady.books = s.steady.books := congrArg State.books h
  exact same

@[simp] theorem deriveLamps_books (s : State) : (deriveLamps s).books = s.books :=
  State.books_of_steady (deriveLamps_steady s)

@[simp] theorem settle_books (s : State) : (settle s).books = s.books := State.books_of_steady (settle_steady s)

@[simp] theorem markDirty_books (n : NodeId) (s : State) : (markDirty n s).books = s.books := by
  unfold markDirty; split <;> rfl

@[simp] theorem setLamp_books (k : Key) (l : Lamp) (s : State) : (setLamp k l s).books = s.books := by
  unfold setLamp; split
  · rfl
  · rw [markDirty_books]; rfl

@[simp] theorem sendFreeNotice_books (m : ModelId) (s : State) : (sendFreeNotice m s).books = s.books := rfl
@[simp] theorem stopWakeTimer_books (s : State) : (stopWakeTimer s).books = s.books := rfl
@[simp] theorem beginLockout_books (i : EntryIx) (s : State) : (beginLockout i s).books = s.books := rfl

@[simp] theorem beginLockoutOf_books (k : Key) (s : State) : (beginLockoutOf k s).books = s.books := by
  unfold beginLockoutOf; split <;> rfl

@[simp] theorem lockoutEnds_books (k : Key) (s : State) : (lockoutEnds k s).books = s.books := by
  unfold lockoutEnds; split <;> rfl

@[simp] theorem stuckBookkeeping_books (i : EntryIx) (e : Edge) (s : State) :
    (stuckBookkeeping i e s).books = s.books := by unfold stuckBookkeeping; split <;> rfl

@[simp] theorem refreshEnds_books (n : NodeId) (s : State) : (refreshEnds n s).books = s.books := by
  unfold refreshEnds; split
  · rw [markDirty_books]; rfl
  · rfl

@[simp] theorem forwardDown_books (f : Frame) (s : State) : (forwardDown f s).books = s.books := by
  unfold forwardDown; split <;> rfl

@[simp] theorem forwardUp_books (f : Frame) (s : State) : (forwardUp f s).books = s.books := by
  unfold forwardUp; split <;> rfl

@[simp] theorem fillSlot_books (outs : List AxisOut) (n : NodeId) (s : State) :
    (fillSlot outs n s).books = s.books := by unfold fillSlot; split <;> rfl

@[simp] theorem bayLeft_books (s : State) : (bayLeft s).books = s.books := by
  unfold bayLeft
  dsimp only
  split
  · rfl
  · split <;> rfl

@[simp] theorem setReceiver_books (p : Port) (r : Receiver) (s : State) : (setReceiver p r s).books = s.books := by
  cases p <;> rfl

@[simp] theorem countGood_books (p : Port) (s : State) : (countGood p s).books = s.books := by cases p <;> rfl

@[simp] theorem lineIdle_books (p : Port) (s : State) : (lineIdle p s).books = s.books := by
  unfold lineIdle; split <;> simp

@[simp] theorem markHello_books (n : NodeId) (b : Byte) (s : State) : (markHello n b s).books = s.books := by
  unfold markHello; split <;> rfl

@[simp] theorem mirrorUp_books (n : NodeId) (f : Frame) (s : State) : (mirrorUp n f s).books = s.books := by
  unfold mirrorUp; split <;> simp

@[simp] theorem ackArgs_books (payload : List Byte) (s : State) : (ackArgs payload s).1.books = s.books := by
  unfold ackArgs
  split
  · split
    · rfl
    · unfold ackNumber; split <;> rfl
  · rfl

@[simp] theorem ackPressed_books (s : State) : (ackPressed s).books = s.books := by
  unfold ackPressed
  dsimp only
  split <;> rfl

@[simp] theorem ackLetGo_books (s : State) : (ackLetGo s).books = s.books := by
  unfold ackLetGo
  dsimp only
  split <;> rfl

@[simp] theorem fillSilent_books (s : State) : (fillSilent s).books = s.books := by
  refine forEach_keeps State.books _ (fun n t => ?_) _ _
  split <;> rfl

@[simp] theorem writeCue_books (c : CueId) (record : List Byte) (s : State) :
    (writeCue c record s).1.books = s.books := by
  unfold writeCue
  split
  · rfl
  · split <;> rfl

@[simp] theorem writeProfile_books (p : ProfileId) (record : List Byte) (s : State) :
    (writeProfile p record s).1.books = s.books := by
  unfold writeProfile
  split
  · rfl
  · split <;> rfl

@[simp] theorem writePattern_books (i : Fin 3) (record : List Byte) (s : State) :
    (writePattern i record s).1.books = s.books := by unfold writePattern; split <;> rfl

/-- An update of a model that keeps its state and its wait depth. -/
theorem modModel_books {s : State} {m : ModelId} {f : Model → Model}
    (state : (f (s.model m)).state = (s.model m).state)
    (depth : (f (s.model m)).config.waitDepth = (s.model m).config.waitDepth) : (s.modModel m f).books = s.books := by
  have states : (fun k => ((s.modModel m f).model k).state) = fun k => (s.model k).state := funext fun k => by
    rw [State.modModel_model]
    split
    · rename_i e; rw [e, state]
    · rfl
  have depths : (fun k => ((s.modModel m f).model k).config.waitDepth) = fun k => (s.model k).config.waitDepth :=
    funext fun k => by
      rw [State.modModel_model]
      split
      · rename_i e; rw [e, depth]
      · rfl
  simp only [State.books, State.ledger, states, depths]
  rfl

/-! ### The tallies -/

/-- R76: how many of the requests taken have been started, expired or flushed. -/
def Tallies.spent (t : Tallies) : Nat := t.started + t.expired + t.flushed

/-- No tally has reached its largest value. -/
def Tallies.Below (t : Tallies) : Prop :=
  t.taken < Config.tallyMax ∧ t.started < Config.tallyMax ∧ t.expired < Config.tallyMax ∧ t.flushed < Config.tallyMax

/-- An update of the tallies that counts `k` requests taken and `j` spent, unless a tally reaches its largest value. -/
def Counts (k j : Nat) (g : Tallies → Tallies) : Prop :=
  ∀ t, (g t).Below → t.Below ∧ (g t).taken = t.taken + k ∧ (g t).spent = t.spent + j

theorem addTally_below {k n : Nat} (h : addTally k n < Config.tallyMax) :
    n < Config.tallyMax ∧ addTally k n = n + k := by
  simp only [addTally] at h ⊢
  omega

theorem counts_flushed (k : Nat) : Counts 0 k fun t => { t with flushed := addTally k t.flushed } := by
  rintro t ⟨taken, started, expired, flushed⟩
  obtain ⟨below, sum⟩ := addTally_below flushed
  refine ⟨⟨taken, started, expired, below⟩, rfl, ?_⟩
  simp only [Tallies.spent, sum]
  omega

theorem counts_expired (k : Nat) : Counts 0 k fun t => { t with expired := addTally k t.expired } := by
  rintro t ⟨taken, started, expired, flushed⟩
  obtain ⟨below, sum⟩ := addTally_below expired
  refine ⟨⟨taken, started, below, flushed⟩, rfl, ?_⟩
  simp only [Tallies.spent, sum]
  omega

theorem counts_started (k : Nat) : Counts 0 k fun t => { t with started := addTally k t.started } := by
  rintro t ⟨taken, started, expired, flushed⟩
  obtain ⟨below, sum⟩ := addTally_below started
  refine ⟨⟨taken, below, expired, flushed⟩, rfl, ?_⟩
  simp only [Tallies.spent, sum]
  omega

theorem counts_taken (k : Nat) : Counts k 0 fun t => { t with taken := addTally k t.taken } := by
  rintro t ⟨taken, started, expired, flushed⟩
  obtain ⟨below, sum⟩ := addTally_below taken
  exact ⟨⟨below, started, expired, flushed⟩, sum, rfl⟩

theorem counts_taken_started :
    Counts 1 1 fun t => { t with taken := addTally 1 t.taken, started := addTally 1 t.started } := fun t below => by
  obtain ⟨mid, taken, same⟩ := counts_taken 1 { t with started := addTally 1 t.started } below
  obtain ⟨low, -, spent⟩ := counts_started 1 t mid
  exact ⟨low, taken, same.trans spent⟩

theorem counts_refused (k : Nat) : Counts 0 0 fun t => { t with refused := addTally k t.refused } :=
  fun _ below => ⟨below, rfl, rfl⟩

/-- One wait list changes, and the count of those that wait with it. -/
theorem waitingCount_setWaits (s : State) (m : ModelId) (l : List Request) :
    (s.setWaits m l).waitingCount + (s.waits m).length = s.waitingCount + l.length := by
  obtain ⟨before, after, split, out, out'⟩ := allModels_split m
  have kept {ks : List ModelId} (h : m ∉ ks) :
      (ks.map fun k => ((s.setWaits m l).waits k).length) = ks.map fun k => (s.waits k).length :=
    List.map_congr_left fun k member => by
      have other : k ≠ m := fun e => h (e ▸ member)
      rw [State.setWaits_waits, if_neg other]
  simp only [State.waitingCount, split, List.map_append, List.map_cons, List.sum_append, List.sum_cons, kept out,
    kept out', State.setWaits_waits_self]
  omega

/-- R76: the balance is kept where a list changes by as many requests as the tallies count. -/
theorem State.Even.setWaits {s : State} (h : s.Even) {m : ModelId} {l : List Request} {k j : Nat}
    {g : Tallies → Tallies} (counts : Counts k j g) (length : l.length + j = (s.waits m).length + k) :
    ((s.setWaits m l).onTallies g).Even := by
  intro below
  obtain ⟨low, taken, spent⟩ := counts s.press.tallies below
  have before : s.press.tallies.taken = s.press.tallies.spent + s.waitingCount := h low
  have waiting := waitingCount_setWaits s m l
  have after : (g s.press.tallies).taken = (g s.press.tallies).spent + (s.setWaits m l).waitingCount := by omega
  exact after

/-- R76: the balance reads the Press Arbiter only. -/
theorem State.Even.of_press {s t : State} (same : t.press = s.press) (h : s.Even) : t.Even := by
  have waits : t.waits = s.waits := funext fun m => congrArg (fun q : PressArbiter => tget q.waits m) same
  simpa only [State.Even, State.TalliesBelowMax, State.Balanced, State.waitingCount, waits, same] using h

/-! ### A wait list changes -/

/-- R52: a schedule list that loses entries, in a part where those left are for models in service. -/
theorem State.ScheduleWf.sublist {s t : State} (h : s.ScheduleWf) (sub : t.motion.schedule.Sublist s.motion.schedule)
    (service : ∀ e ∈ t.motion.schedule, (t.model e.model).state ≠ .disabled) : t.ScheduleWf where
  length := sub.length_le.trans h.length
  apart := h.apart.sublist (sub.map _)
  dueFirst := h.dueFirst.sublist sub
  inService := service

/-- A wait list is replaced and counted: it stays well formed where the new list is. -/
theorem State.Tidy.setWaits {s : State} (h : s.Tidy) {m : ModelId} {l : List Request} {k j : Nat}
    {g : Tallies → Tallies} (apart : (l.map Request.key).Nodup) (depth : l.length ≤ (s.model m).config.waitDepth)
    (empty : (s.model m).state.stoppable = false → l = []) (counts : Counts k j g)
    (length : l.length + j = (s.waits m).length + k) : ((s.setWaits m l).onTallies g).Tidy := by
  obtain ⟨schedule, listed⟩ := h
  have waits (i : ModelId) : ((s.setWaits m l).onTallies g).waits i = if i = m then l else s.waits i := by
    rw [State.onTallies_waits, State.setWaits_waits]
  refine ⟨schedule.sublist (.refl _) schedule.inService, fun i => ?_, fun i => ?_, fun i => ?_,
    listed.even.setWaits counts length⟩ <;> rw [waits] <;> split
  · exact apart
  · exact listed.apart i
  · rename_i e; rw [e]; exact depth
  · exact listed.depth i
  · rename_i e; rw [e]; exact empty
  · exact listed.empty i

/-- R73, R74, R75: requests leave a wait list and are counted. -/
theorem shorten_follows {s : State} {m : ModelId} {l : List Request} {k j : Nat} {g : Tallies → Tallies}
    (sub : l.Sublist (s.waits m)) (counts : Counts k j g)
    (length : s.Tidy → l.length + j = (s.waits m).length + k) :
    State.Follows s ((s.setWaits m l).onTallies g) where
  clock := rfl
  upcoming := .refl _
  tidy h := h.setWaits ((h.listed.apart m).sublist (sub.map _)) (sub.length_le.trans (h.listed.depth m))
    (fun out => List.sublist_nil.mp (h.listed.empty m out ▸ sub)) counts (length h)
  shut shut mode i := by
    have before := shut mode
    rw [State.onTallies_waits, State.setWaits_waits]
    split
    · exact List.sublist_nil.mp (before m ▸ sub)
    · exact before i

/-- The tallies count what no list shows. -/
theorem onTallies_follows {s : State} {k : Nat} {g : Tallies → Tallies} (counts : Counts k k g) :
    State.Follows s (s.onTallies g) := by
  have same : s.setWaits 0 (s.waits 0) = s := by simp [State.setWaits, State.onPress, State.waits]
  have follows := shorten_follows (s := s) (m := 0) (.refl _) counts fun _ => rfl
  rwa [same] at follows

theorem quietTest_follows (b : Bool) (s : State) : State.Follows s (quietTest b s) := .of_books (quietTest_books b s)

theorem flushList_follows (m : ModelId) (s : State) : State.Follows s (flushList m s) :=
  (shorten_follows (List.nil_sublist _) (counts_flushed _) fun _ => by simp).trans (quietTest_follows _ _)

/-- The removal of what has one key from a list without two of a key removes one. -/
theorem length_filter_key {l : List Request} {k : Key} (apart : (l.map Request.key).Nodup)
    (waits : (l.any fun r => r.key == k) = true) : (l.filter fun r => r.key != k).length + 1 = l.length := by
  induction l with
  | nil => simp at waits
  | cons r rest ih =>
    obtain ⟨first, apart⟩ := List.nodup_cons.mp apart
    by_cases own : r.key = k
    · have others : rest.filter (fun x => x.key != k) = rest := List.filter_eq_self.mpr fun x member => by
        have other : x.key ≠ k := fun e => first (List.mem_map.mpr ⟨x, member, e.trans own.symm⟩)
        simp [other]
      simp [own, others]
    · have later : (rest.any fun x => x.key == k) = true := by simpa [own] using waits
      simp [own, ih apart later]

/-- R71, R74: the one request of a key leaves a wait list and is counted. -/
theorem dropKey_follows {s : State} {k : Key} {m : ModelId} {g : Tallies → Tallies} (counts : Counts 0 1 g)
    (waiting : s.isWaiting k m = true) :
    State.Follows s (quietTest false ((s.setWaits m ((s.waits m).filter fun r => r.key != k)).onTallies g)) :=
  (shorten_follows List.filter_sublist counts fun h => length_filter_key (h.listed.apart m) waiting).trans
    (quietTest_follows _ _)

theorem flushKey_follows (k : Key) (m : ModelId) (s : State) : State.Follows s (flushKey k m s) :=
  follows_ite (dropKey_follows (counts_flushed 1)) fun _ => .refl s

theorem requestExpires_follows (m : ModelId) (k : Key) (s : State) : State.Follows s (requestExpires m k s) :=
  follows_ite (dropKey_follows (counts_expired 1)) fun _ => .refl s

/-! ### A model changes -/

/-- A change of a model that keeps its wait depth, takes it out of DISABLED at most, and enters ENABLING only from a
state in which no request waits. -/
structure Model.Passes (x y : Model) : Prop where
  depth : y.config.waitDepth = x.config.waitDepth
  service : y.state = .disabled → x.state = .disabled
  enabling : y.state = .enabling → x.state.stoppable = false

theorem Model.settled_state (x y : Model) : (x.settled y).state = y.state := by
  obtain ⟨r, e⟩ := x.settled_eq y; rw [e]

theorem Model.settled_config (x y : Model) : (x.settled y).config = y.config := by
  obtain ⟨r, e⟩ := x.settled_eq y; rw [e]

/-- R3, R75: the wait lists after a change of a model, whose list is flushed where it goes out of service. -/
theorem changeModel_listed {m : ModelId} {f : Model → Model} {s : State} (h : s.Listed)
    (depth : (f (s.model m)).config.waitDepth = (s.model m).config.waitDepth)
    (enabling : (f (s.model m)).state = .enabling → (s.model m).state.stoppable = false) :
    (changeModel m f s).Listed where
  apart k := by
    rw [changeModel_waits]
    split
    · simp
    · exact h.apart k
  depth k := by
    have before := h.depth k
    rw [changeModel_waits, changeModel_model]
    split
    · simp
    · split
      · rename_i e; rw [Model.settled_config, depth, ← e]; exact before
      · exact before
  empty k out := by
    rw [changeModel_waits]
    split
    · rfl
    · rename_i stays
      rw [changeModel_model] at out
      split at out
      · rename_i e
        rw [Model.settled_state] at out
        refine h.empty k (e ▸ ?_)
        by_cases entered : (f (s.model m)).state = .enabling
        · exact enabling entered
        · have same : (f (s.model m)).state = (s.model m).state := by
            have stays : ¬ (s.model m).leaves (f (s.model m)) = true := fun leaves => stays ⟨e, leaves⟩
            revert out entered stays
            cases h' : (f (s.model m)).state <;>
              simp [Model.leaves, h', ModelState.outOfService, ModelState.stoppable]
          rw [← same]; exact out
      · exact h.empty k out
  even := by
    have flushed : (flushList m s).Even := by
      refine State.Even.of_press (s := (s.setWaits m []).onTallies _) (quietTest_press _ _) ?_
      exact h.even.setWaits (counts_flushed _) (by simp)
    by_cases leaves : (s.model m).leaves (f (s.model m)) = true
    · exact flushed.of_press (by rw [changeModel_press, if_pos leaves])
    · exact h.even.of_press (by rw [changeModel_press, if_neg leaves])

theorem changeModel_follows {m : ModelId} {f : Model → Model} {s : State}
    (passes : (s.model m).Passes (f (s.model m))) : State.Follows s (changeModel m f s) where
  clock := by rw [State.clock, changeModel_motion]; rfl
  upcoming := by rw [State.upcoming, changeModel_schedule]; exact .refl _
  tidy h := by
    refine ⟨h.schedule.sublist (by rw [changeModel_schedule]) fun e listed => ?_,
      changeModel_listed h.listed passes.depth passes.enabling⟩
    rw [changeModel_schedule] at listed
    have service := h.schedule.inService e listed
    rw [changeModel_model]
    split
    · rename_i own; rw [Model.settled_state]; exact fun out => service (own ▸ passes.service out)
    · exact service
  shut shut mode k := by
    rw [changeModel_gallery] at mode
    rw [changeModel_waits]
    split
    · rfl
    · exact shut mode k

/-- A change that leaves the berth passes, where it does not enter ENABLING. -/
theorem Model.Passes.of_berth {x y : Model} (same : y.berth = x.berth)
    (entered : y.state = .enabling → x.state = .enabling) :
    x.Passes y := by
  simp only [Model.berth, Prod.mk.injEq] at same
  obtain ⟨config, -, disabled, -, -⟩ := same
  exact ⟨by rw [config], fun out => by simpa [out] using disabled, fun e => by rw [entered e]; rfl⟩

end Sys2Proof.Machine

/-! ## The schedule list, the wait lists and the tallies: models, faults, zones and cues -/

namespace Sys2Proof.Machine

/-! ### Changes of a model that pass -/

theorem Model.cut_passes (x : Model) : x.Passes x.cut := .of_berth x.cut_berth fun entered => by
  unfold Model.cut at entered
  cases hs : x.state <;> simp only [hs, Model.dropCue, reduceCtorEq] at entered ⊢
  split at entered <;> simp at entered

theorem Model.pause_passes (x : Model) : x.Passes x.pause := .of_berth x.pause_berth fun entered => by
  unfold Model.pause at entered
  cases hs : x.state <;> simp only [hs, reduceCtorEq] at entered ⊢
  split at entered <;> simp [hs] at entered

theorem Model.resumeEdge_passes (x : Model) : x.Passes x.resumeEdge := .of_berth x.resumeEdge_berth fun entered => by
  unfold Model.resumeEdge at entered
  split at entered
  · rename_i held
    dsimp only at entered
    split at entered <;> simp [held] at entered
  · exact entered

theorem Model.zoneHold_passes (x : Model) : x.Passes x.zoneHold := .of_berth x.zoneHold_berth fun entered => by
  unfold Model.zoneHold at entered
  cases hs : x.state <;> simp [hs] at entered ⊢

theorem Model.zoneRelease_passes (g : GalleryMode) (x : Model) : x.Passes (x.zoneRelease g) :=
  .of_berth (x.zoneRelease_berth g) fun entered => by
    unfold Model.zoneRelease at entered
    split at entered
    · rename_i held
      dsimp only at entered
      split at entered
      · simp [held] at entered
      · split at entered
        · split at entered
          · simp at entered
          · simp only [Model.cut, held, Model.dropCue] at entered
            split at entered <;> simp at entered
        all_goals simp at entered
    · exact entered

theorem Model.stop_passes (x : Model) : x.Passes x.stop := .of_berth x.stop_berth fun entered => by
  unfold Model.stop at entered
  cases hs : x.state <;> simp [hs] at entered ⊢

theorem Model.trip_passes (x : Model) : x.Passes x.trip := .of_berth x.trip_berth fun entered => by
  unfold Model.trip at entered
  cases hs : x.state <;> simp [hs] at entered ⊢

theorem cutModel_follows (m : ModelId) (s : State) : State.Follows s (cutModel m s) :=
  changeModel_follows (Model.cut_passes _)

theorem pauseModel_follows (m : ModelId) (s : State) : State.Follows s (pauseModel m s) :=
  changeModel_follows (Model.pause_passes _)

theorem resumeModel_follows (m : ModelId) (s : State) : State.Follows s (resumeModel m s) :=
  changeModel_follows (Model.resumeEdge_passes _)

theorem pauseWindowEnds_follows (m : ModelId) (s : State) : State.Follows s (pauseWindowEnds m s) := by
  obtain ⟨depth, service, enabling⟩ := Model.cut_passes { s.model m with holdPause := false, pauseTimer := none }
  exact follows_ite (fun _ => changeModel_follows ⟨depth, service, enabling⟩) fun _ => .refl s

theorem holdModel_follows (m : ModelId) (s : State) : State.Follows s (holdModel m s) :=
  changeModel_follows (Model.zoneHold_passes _)

theorem stopModel_follows (m : ModelId) (s : State) : State.Follows s (stopModel m s) :=
  changeModel_follows (Model.stop_passes _)

theorem tripModel_follows (m : ModelId) (s : State) : State.Follows s (tripModel m s) :=
  changeModel_follows (Model.trip_passes _)

/-! ### Faults -/

theorem latchAndRaise_follows (id : FaultId) (s : State) : State.Follows s (latchAndRaise id s) := by
  unfold latchAndRaise
  dsimp only
  refine .trans (t := s.modMarks id fun k => { k with latched := true }) (.of_books rfl)
    (.trans ?_ (.of_books (raise_books _ _)))
  split
  · exact follows_ite (fun _ => tripModel_follows _ _) fun _ => .refl _
  · exact .refl _

theorem activate_follows (id : FaultId) (s : State) : State.Follows s (activate id s) :=
  .trans (t := s.modMarks id fun k => { k with active := true }) (.of_books rfl)
    (follows_ite (fun _ => .refl _) fun _ => latchAndRaise_follows id _)

theorem report_follows (id : FaultId) (v : Bool) (s : State) : State.Follows s (report id v s) :=
  .trans (t := s.modMarks id fun k => { k with underlying := v }) (.of_books rfl)
    (follows_ite (fun _ => follows_ite (fun _ => .refl _) fun _ => activate_follows id _) fun _ => .of_books rfl)

theorem driveReport_follows (m : ModelId) (s : State) : State.Follows s (driveReport m s) := latchAndRaise_follows _ s

theorem redetect_follows (code : Fin 15) (s : State) : State.Follows s (redetect code s) :=
  forEach_follows (fun id t => report_follows id _ t) _ s

/-! ### Reseats -/

/-- R14: a model that has stopped or tripped is reseated. -/
theorem reseat_follows {m : ModelId} {s : State} (out : (s.model m).state.stoppable = false) :
    State.Follows s (reseat m s) := by
  unfold reseat
  split
  · exact changeModel_follows ⟨rfl, nofun, fun _ => out⟩
  · refine .trans (changeModel_follows ?_) (.of_books (quench_books _ _))
    unfold Model.goHome
    split <;> exact ⟨rfl, nofun, nofun⟩

theorem resumeAll_follows (s : State) : State.Follows s (resumeAll s) :=
  forEach_follows (fun m t => follows_ite (fun stopped => reseat_follows (by rw [stopped]; rfl)) fun _ => .refl t) _ s

theorem releaseTrip_follows (m : ModelId) (s : State) : State.Follows s (releaseTrip m s) :=
  follows_ite (fun faulted => follows_ite (fun _ => changeModel_follows ⟨rfl, nofun, nofun⟩)
    fun _ => reseat_follows (by rw [faulted]; rfl)) fun _ => .refl s

theorem firstFeedback_follows (m : ModelId) (p : Int) (s : State) : State.Follows s (firstFeedback m p s) := by
  refine .trans (changeModel_follows ?_) (.of_books (quench_books _ _))
  dsimp only
  split
  · exact ⟨rfl, nofun, nofun⟩
  · unfold Model.goHome
    split <;> exact ⟨rfl, nofun, nofun⟩

/-! ### Starts and due entries -/

theorem startRequest_eq (m : ModelId) (c : CueId) (o : Owner) (paused : Bool) (s : State) :
    startRequest m c o paused s = (match s.verdict m c o with
      | .ok => startCue m c o paused s
      | .faultLatched => driveReport m s
      | .notReady | .busy | .mode | .cueInvalid | .blocked => s, s.verdict m c o) := by
  unfold startRequest
  cases s.verdict m c o <;> rfl

theorem Model.started_passes (x : Model) (pos : CuePosition) (o : Owner) (paused : Bool) :
    x.Passes (x.started pos o paused) := by
  cases paused <;> exact ⟨rfl, nofun, nofun⟩

theorem startCue_follows (m : ModelId) (c : CueId) (o : Owner) (paused : Bool) (s : State) :
    State.Follows s (startCue m c o paused s) := by
  unfold startCue
  exact changeModel_follows (Model.started_passes _ _ o paused)

/-- A start leaves every wait list as it is. -/
theorem startCue_waits (m k : ModelId) (c : CueId) (o : Owner) (paused : Bool) (s : State) :
    (startCue m c o paused s).waits k = s.waits k := by
  have goesOn (x : Model) (pos : CuePosition) : x.leaves (x.started pos o paused) = false := by
    cases paused <;> rfl
  refine (changeModel_waits _ _ _ _).trans (if_neg fun leaves => ?_)
  exact absurd leaves.2 (by rw [Bool.not_eq_true]; exact goesOn _ _)

theorem startRequest_follows (m : ModelId) (c : CueId) (o : Owner) (paused : Bool) (s : State) :
    State.Follows s (startRequest m c o paused s).1 := by
  rw [startRequest_eq]
  cases s.verdict m c o
  case ok => exact startCue_follows m c o paused s
  case faultLatched => exact driveReport_follows m s
  all_goals exact .refl s

/-- R52: entries leave the schedule list. -/
theorem filterSchedule_follows (p : ScheduleEntry → Bool) (s : State) :
    State.Follows s (s.onMotion fun q => { q with schedule := q.schedule.filter p }) where
  clock := rfl
  upcoming := List.filter_sublist.filter _
  tidy h := ⟨h.schedule.sublist List.filter_sublist fun e listed =>
      h.schedule.inService e (List.mem_of_mem_filter listed),
    h.listed.apart, h.listed.depth, h.listed.empty, h.listed.even⟩
  shut shut := shut

theorem removeEntry_follows (m : ModelId) (s : State) : State.Follows s (removeEntry m s) :=
  (filterSchedule_follows _ s).trans (quietTest_follows _ _)

theorem serveEntry_follows (m : ModelId) (c : CueId) (s : State) : State.Follows s (serveEntry m c s).1 := by
  have decided := startRequest_follows m c .control false s
  unfold serveEntry
  split <;> rename_i e <;> rw [e] at decided
  · exact decided.trans (removeEntry_follows _ _)
  · exact decided.trans ((removeEntry_follows _ _).trans (.of_books (raise_books _ _)))
  all_goals exact decided

theorem becomeFree_follows (m : ModelId) (s : State) : State.Follows s (becomeFree m s) := by
  have noticed (t : State) : State.Follows t (sendFreeNotice m t) := .of_books (sendFreeNotice_books m t)
  unfold becomeFree
  split
  · exact noticed s
  · rename_i entry _
    have served := serveEntry_follows m entry.cue s
    split <;> rename_i e <;> rw [e] at served
    · exact served
    · exact served.trans (noticed _)

theorem freeIfStartable_follows (m : ModelId) (s : State) : State.Follows s (freeIfStartable m s) :=
  follows_ite (fun _ => becomeFree_follows m s) fun _ => .refl s

theorem freeAll_follows (s : State) : State.Follows s (freeAll s) := forEach_follows freeIfStartable_follows _ s

/-! ### Zones -/

theorem releaseModel_follows (m : ModelId) (s : State) : State.Follows s (releaseModel m s) :=
  follows_ite (fun _ => freeIfStartable_follows m s) fun _ => changeModel_follows (Model.zoneRelease_passes _ _)

theorem updateMark_follows (m : ModelId) (s : State) : State.Follows s (updateMark m s) := by
  refine follows_ite (fun _ => .refl s) fun _ => follows_ite (fun _ => .refl s) fun _ => ?_
  exact .trans (t := State.modWatch s m _) (.of_books (State.modWatch_books _ _ _))
    (follows_ite (fun _ => holdModel_follows m _) fun _ => releaseModel_follows m _)

theorem setZone_follows (z : ZoneId) (new : Zone) (s : State) : State.Follows s (setZone z new s) :=
  .trans (t := s.onSup fun q => { q with zones := tput q.zones z new }) (.of_books rfl)
    (follows_ite (fun _ => .refl _) fun _ =>
      forEach_follows (fun m t => follows_ite (fun _ => updateMark_follows m t) fun _ => .refl t) _ _)

theorem reviewZone_follows (z : ZoneId) (s : State) : State.Follows s (reviewZone z s) := by
  unfold reviewZone
  refine follows_ite (fun _ => follows_ite (fun _ => .refl s) fun _ => setZone_follows z _ s) fun _ => ?_
  split
  case h_1 | h_2 => exact setZone_follows z _ s
  case h_3 => exact follows_ite (fun _ => setZone_follows z _ s) fun _ => setZone_follows z _ s
  all_goals exact .refl s

theorem reviewZones_follows (s : State) : State.Follows s (reviewZones s) := forEach_follows reviewZone_follows _ s

theorem settleEnds_follows (z : ZoneId) (s : State) : State.Follows s (settleEnds z s) :=
  follows_ite (fun _ => setZone_follows z _ s) fun _ => .refl s

/-! ### Commits and the sample -/

/-- R23, R75: the staged record becomes the configured one, and the wait list is cut to its depth. -/
theorem applyFields_follows (m : ModelId) (c : ModelConfig) (s : State) : State.Follows s (applyFields m c s) where
  clock := by rw [State.clock, applyFields_motion]; rfl
  upcoming := by rw [State.upcoming, applyFields_motion]; exact .refl _
  tidy h := by
    have state (k : ModelId) : ((applyFields m c s).model k).state = (s.model k).state := by
      rw [applyFields_model]
      split
      · rename_i e; rw [e]
      · rfl
    refine ⟨h.schedule.sublist (by rw [applyFields_motion]; exact .refl _) fun e listed => ?_, fun k => ?_, fun k => ?_,
      fun k out => ?_, ?_⟩
    · rw [applyFields_motion] at listed
      rw [state]
      exact h.schedule.inService e listed
    · rw [applyFields_waits]
      split
      · exact (h.listed.apart m).sublist ((List.take_sublist _ _).map _)
      · exact h.listed.apart k
    · rw [applyFields_waits, applyFields_model]
      split
      · exact List.length_take_le _ _
      · exact h.listed.depth k
    · rw [state] at out
      have before := h.listed.empty k out
      rw [applyFields_waits]
      split
      · rename_i e; rw [← e, before, List.take_nil]
      · exact before
    · have cut := h.listed.even.setWaits (m := m) (l := (s.waits m).take c.waitDepth) (k := 0)
        (counts_flushed ((s.waits m).length - c.waitDepth)) (by rw [List.length_take]; omega)
      exact cut.of_press (applyFields_press m c s)
  shut shut mode k := by
    rw [applyFields_gallery] at mode
    have before := shut mode
    rw [applyFields_waits]
    split
    · rw [before m, List.take_nil]
    · exact before k

theorem applyCommit_follows (m : ModelId) (c : ModelConfig) (s : State) : State.Follows s (applyCommit m c s) :=
  (applyFields_follows m c s).trans (updateMark_follows m _)

theorem deferredCommit_follows (m : ModelId) (s : State) : State.Follows s (deferredCommit m s) := by
  refine follows_ite (fun _ => ?_) fun _ => .refl s
  refine .trans (t := s.modModel m fun x => { x with commitPending := false }) (.of_books (modModel_books rfl rfl)) ?_
  dsimp only
  split
  · exact .refl _
  · refine follows_ite (fun _ => ?_) fun _ => .of_books (raise_books _ _)
    exact (applyFields_follows m _ _).trans (.of_books (State.modWatch_books _ _ _))

theorem resting_follows (m : ModelId) (s : State) : State.Follows s (s.resting m) :=
  changeModel_follows ⟨rfl, nofun, nofun⟩

theorem enterIdle_follows (m : ModelId) (s : State) : State.Follows s (enterIdle m s) :=
  (resting_follows m s).trans ((deferredCommit_follows m _).trans (freeIfStartable_follows m _))

theorem cueEnds_follows (m : ModelId) (c : CueId) (s : State) : State.Follows s (cueEnds m c s) := by
  unfold cueEnds
  split
  · exact enterIdle_follows m s
  all_goals exact changeModel_follows ⟨rfl, nofun, nofun⟩

theorem repeatSetpoint_follows (m : ModelId) (s : State) : State.Follows s (repeatSetpoint m s) :=
  .of_books (modModel_books rfl rfl)

theorem sampleModel_follows (m : ModelId) (s : State) : State.Follows s (sampleModel m s).1 := by
  cases state : (s.model m).state
  case disabled => rw [sampleModel_of_out (.inl state)]; exact .refl s
  case enabling => rw [sampleModel_of_out (.inr state)]; exact .refl s
  case returning =>
    rw [sampleModel_of_returning state]
    exact follows_if (.of_books (modModel_books rfl rfl)) (enterIdle_follows m _)
  case running =>
    cases place : (s.model m).position with
    | none => rw [sampleModel_of_lost state place]; exact repeatSetpoint_follows m s
    | some pos =>
      rw [sampleModel_of_running state place]
      exact follows_if (.of_books (modModel_books rfl rfl)) (cueEnds_follows m _ _)
  all_goals rw [sampleModel_of_still (by simp [state])]; exact repeatSetpoint_follows m s

theorem sampleExpiry_follows (s : State) : State.Follows s (sampleExpiry s) := by
  unfold sampleExpiry
  dsimp only
  rw [sampleModels_state]
  refine .trans (t := s.onMotion fun q => { q with sampleTimer := s.settings.samplePeriod }) (.of_books rfl) ?_
  exact (forEach_follows (fun m t => sampleModel_follows m t) _ _).trans
    (forEach_follows (fun n t => .of_books (fillSlot_books _ n t)) _ _)

end Sys2Proof.Machine

/-! ## The schedule list, the wait lists and the tallies: modes, due entries and presses -/

namespace Sys2Proof.Machine

/-! ### Gallery modes -/

/-- The gallery mode says only which lists have to be empty. -/
theorem setMode_minds (g : GalleryMode) (s : State) : State.Minds s (setMode g s) := .of_ledger rfl

/-- Outside CLOSED and SERVICE the lists may be filled. -/
theorem State.shut_of_mode {s : State} (closed : s.gallery ≠ .closed) (service : s.gallery ≠ .service) : s.Shut :=
  fun mode => absurd mode (not_or.mpr ⟨closed, service⟩)

theorem flushAll_waits (s : State) (m : ModelId) : (flushAll s).waits m = [] := by
  have run (ms : List ModelId) : ∀ t : State, m ∈ ms ∨ t.waits m = [] → (forEach ms flushList t).waits m = [] := by
    induction ms with
    | nil => exact fun t h => h.resolve_left List.not_mem_nil
    | cons k rest ih =>
      refine fun t h => ih _ ?_
      rw [flushList_waits]
      split
      · exact .inr rfl
      · rename_i other; exact h.imp_left fun member => (List.mem_cons.mp member).resolve_left other
  exact run allModels s (.inl (mem_allModels m))

theorem flushAll_follows (s : State) : State.Follows s (flushAll s) := forEach_follows flushList_follows _ s

theorem cutAllInPlay_follows (s : State) : State.Follows s (cutAllInPlay s) :=
  forEach_follows (fun m t => follows_ite (fun _ => cutModel_follows m t) fun _ => .refl t) _ s

theorem cutVisitors_follows (s : State) : State.Follows s (cutVisitors s) := by
  refine forEach_follows (fun m t => ?_) _ s
  split
  · exact cutModel_follows m t
  all_goals exact .refl t

theorem relaxFollowing_follows (s : State) : State.Follows s (relaxFollowing s) :=
  forEach_follows (fun m t => follows_ite
    (fun _ => .of_books ((quench_books (.model .follow m) _).trans (modModel_books rfl rfl))) fun _ => .refl t) _ s

/-- R75: a mode whose entry flushes every list. -/
theorem flushAll_enters {s t u : State} (enters : State.Minds s t) (h : State.Follows t u) :
    State.Follows s (flushAll u) :=
  State.Minds.follows (enters.trans (h.trans (flushAll_follows u)).toMinds) fun _ => flushAll_waits u

theorem enterClosed_follows (s : State) : State.Follows s (enterClosed s) :=
  (flushAll_enters (setMode_minds .closed s) (cutAllInPlay_follows _)).trans
    ((relaxFollowing_follows _).trans (.trans (.of_books (stopWakeTimer_books _)) (quietTest_follows false _)))

theorem enterService_follows (s : State) : State.Follows s (enterService s) :=
  (flushAll_enters (setMode_minds .service s) (cutVisitors_follows _)).trans
    ((freeAll_follows _).trans (.trans (.of_books (stopWakeTimer_books _)) (quietTest_follows false _)))

theorem enterOpen_follows (s : State) : State.Follows s (enterOpen s) :=
  ((setMode_minds .opened s).follows (State.shut_of_mode nofun nofun)).trans
    (.trans (.of_books (stopWakeTimer_books _)) ((freeAll_follows _).trans (quietTest_follows false _)))

theorem enterDoze_follows (s : State) : State.Follows s (enterDoze s) :=
  ((setMode_minds .doze s).follows (State.shut_of_mode nofun nofun)).trans
    ((cutAllInPlay_follows _).trans ((relaxFollowing_follows _).trans (quietTest_follows false _)))

theorem endWakeTest_follows (s : State) : State.Follows s (endWakeTest s) :=
  follows_ite (fun _ => enterOpen_follows s) fun _ => .refl s

theorem sendWake_follows (s : State) : State.Follows s (sendWake s) := by
  refine follows_ite (fun _ => ?_) fun _ => .refl s
  have waking : State.Minds s (s.onMode fun q => { q with
      mode := .waking, wakeTimer := some (s.settings.wakeLimit * 100) }) := .of_ledger rfl
  exact (waking.follows (State.shut_of_mode nofun nofun)).trans (quietTest_follows false _)

theorem withEntryTest_follows {taking : State → State} {s : State} (h : State.Follows s (taking s)) :
    State.Follows s (withEntryTest taking s) :=
  follows_ite (fun _ => h.trans (endWakeTest_follows _)) fun _ => h

theorem requestWake_follows (s : State) : State.Follows s (requestWake s) := withEntryTest_follows (sendWake_follows s)

theorem dozeEnds_follows (s : State) : State.Follows s (dozeEnds s) :=
  follows_ite (fun _ => enterDoze_follows s) fun _ => .refl s

theorem wakeLimitEnds_follows (s : State) : State.Follows s (wakeLimitEnds s) :=
  follows_ite (fun _ => .trans (.of_books (stopWakeTimer_books s))
    ((forEach_follows driveReport_follows _ _).trans (enterOpen_follows _))) fun _ => .refl s

theorem modeCommand_follows (g : GalleryMode) (s : State) : State.Follows s (modeCommand g s).1 := by
  cases g <;> simp only [modeCommand]
  case closed => exact enterClosed_follows s
  case service => exact enterService_follows s
  case doze =>
    split <;> dsimp only
    · exact enterDoze_follows s
    · exact .refl s
  case opened =>
    split <;> dsimp only
    · exact (enterOpen_follows s).trans (quietTest_follows true _)
    · exact enterOpen_follows s
    · exact enterOpen_follows s
    · exact requestWake_follows s
    · exact .refl s
  case waking => exact .refl s

theorem modeArgs_follows (args : List Byte) (s : State) : State.Follows s (modeArgs args s).1 := by
  unfold modeArgs
  split
  · split
    · exact modeCommand_follows _ s
    · exact .refl s
  · exact .refl s

/-! ### Entries that come due -/

/-- The entries other than those of one model that are due, one due entry of that model, and the others. -/
theorem markDue_eq (e : ScheduleEntry) (l : List ScheduleEntry) : markDue e l =
    ((l.filter fun x => x.model != e.model).filter fun x => x.due.isSome) ++
      { e with due := some (e.lateLimit * 1000) } ::
        (l.filter fun x => x.model != e.model).filter fun x => x.due.isNone := rfl

/-- What is due stands first, then what is not: the two parts are the list. -/
theorem filter_due_append {l : List ScheduleEntry}
    (dueFirst : l.Pairwise fun a b => b.due.isSome = true → a.due.isSome = true) :
    (l.filter fun e => e.due.isSome) ++ (l.filter fun e => e.due.isNone) = l := by
  induction l with
  | nil => rfl
  | cons a rest ih =>
    obtain ⟨first, later⟩ := List.pairwise_cons.mp dueFirst
    by_cases due : a.due.isSome = true
    · have undue : ¬ a.due.isNone = true := by rw [← Option.not_isSome, due]; decide
      rw [List.filter_cons_of_pos (p := fun e : ScheduleEntry => e.due.isSome) due,
        List.filter_cons_of_neg (p := fun e : ScheduleEntry => e.due.isNone) undue, List.cons_append, ih later]
    · have undue : a.due.isNone = true := by rw [← Option.not_isSome, Bool.eq_false_of_not_eq_true due]; rfl
      have none : rest.filter (fun e => e.due.isSome) = [] :=
        List.filter_eq_nil_iff.mpr fun b member late => due (first b member late)
      have parts := ih later
      rw [none, List.nil_append] at parts
      rw [List.filter_cons_of_neg (p := fun e : ScheduleEntry => e.due.isSome) due,
        List.filter_cons_of_pos (p := fun e : ScheduleEntry => e.due.isNone) undue, none, parts, List.nil_append]

theorem mem_markDue {e x : ScheduleEntry} {l : List ScheduleEntry} (h : x ∈ markDue e l) :
    x = { e with due := some (e.lateLimit * 1000) } ∨ (x ∈ l ∧ x.model ≠ e.model) := by
  rw [markDue_eq, List.mem_append, List.mem_cons] at h
  rcases h with h | h | h
  · obtain ⟨listed, other⟩ := List.mem_filter.mp (List.mem_of_mem_filter h)
    exact .inr ⟨listed, by simpa using other⟩
  · exact .inl h
  · obtain ⟨listed, other⟩ := List.mem_filter.mp (List.mem_of_mem_filter h)
    exact .inr ⟨listed, by simpa using other⟩

/-- The due part and the rest of the entries of the other models are those entries in another order. -/
theorem filter_due_perm (l : List ScheduleEntry) :
    ((l.filter fun x => x.due.isSome) ++ l.filter fun x => x.due.isNone).Perm l := by
  have parts := List.filter_append_perm (fun x : ScheduleEntry => x.due.isSome) l
  simpa only [Option.not_isSome] using parts

theorem markDue_perm (e : ScheduleEntry) (l : List ScheduleEntry) : (markDue e l).Perm
    ({ e with due := some (e.lateLimit * 1000) } :: l.filter fun x => x.model != e.model) := by
  rw [markDue_eq]
  exact List.perm_middle.trans (List.Perm.cons _ (filter_due_perm _))

/-- R52, R55: an entry that becomes due moves to the tail of the due ones. -/
theorem markDue_scheduleWf {s : State} {e : ScheduleEntry} (h : s.ScheduleWf) (listed : e ∈ s.motion.schedule) :
    (s.onMotion fun q => { q with schedule := markDue e q.schedule }).ScheduleWf where
  length := by
    have shorter : (s.motion.schedule.filter fun x => x.model != e.model).length < s.motion.schedule.length :=
      List.length_filter_lt_length_iff_exists.mpr ⟨e, listed, by simp⟩
    have length := (markDue_perm e s.motion.schedule).length_eq
    rw [List.length_cons] at length
    have before := h.length
    simp only [State.onMotion_motion]
    omega
  apart := by
    refine ((markDue_perm e s.motion.schedule).map ScheduleEntry.model).nodup_iff.mpr ?_
    rw [List.map_cons, List.nodup_cons]
    refine ⟨fun member => ?_, h.apart.sublist (List.filter_sublist.map _)⟩
    obtain ⟨x, filtered, own⟩ := List.mem_map.mp member
    exact absurd own (by simpa using (List.mem_filter.mp filtered).2)
  dueFirst := by
    simp only [State.onMotion_motion, markDue_eq]
    rw [List.pairwise_append]
    have due {x : ScheduleEntry} {l : List ScheduleEntry} (h : x ∈ l.filter fun x => x.due.isSome) :
        x.due.isSome = true := (List.mem_filter.mp h).2
    have undue {x : ScheduleEntry} {l : List ScheduleEntry} (h : x ∈ l.filter fun x => x.due.isNone) :
        x.due.isSome ≠ true := by
      rw [ne_eq, Bool.not_eq_true, Option.isSome_eq_false_iff]; exact (List.mem_filter.mp h).2
    refine ⟨List.pairwise_of_forall_mem_list fun a member b _ _ => due member, ?_, fun a member b _ _ => due member⟩
    exact List.pairwise_cons.mpr ⟨fun b member late => absurd late (undue member),
      List.pairwise_of_forall_mem_list fun a _ b member late => absurd late (undue member)⟩
  inService x member := by
    have service := h.inService
    rcases mem_markDue member with e' | ⟨listed', -⟩
    · rw [e']; exact service e listed
    · exact service x listed'

theorem markDue_follows {s : State} {e : ScheduleEntry} (listed : e ∈ s.motion.schedule) :
    State.Follows s (s.onMotion fun q => { q with schedule := markDue e q.schedule }) where
  clock := rfl
  upcoming := by
    have none : ∀ l : List ScheduleEntry, (l.filter fun x => x.due.isSome).filter (fun x => x.due.isNone) = [] := by
      intro l
      rw [List.filter_filter, List.filter_eq_nil_iff]
      intro x _
      cases x.due <;> simp
    have left : (markDue e s.motion.schedule).filter (fun x => x.due.isNone) =
        (s.motion.schedule.filter fun x => x.model != e.model).filter fun x => x.due.isNone := by
      rw [markDue_eq, List.filter_append, none, List.filter_cons, if_neg (by simp), List.filter_filter,
        List.nil_append]
      simp only [Bool.and_self]
    simp only [State.upcoming, State.onMotion_motion, left]
    exact List.filter_sublist.filter _
  tidy h := ⟨markDue_scheduleWf h.schedule listed, h.listed.apart, h.listed.depth, h.listed.empty, h.listed.even⟩
  shut shut := shut

theorem lateExpires_follows (m : ModelId) (s : State) : State.Follows s (lateExpires m s) := by
  unfold lateExpires
  split
  · exact (removeEntry_follows m s).trans (.of_books (raise_books _ _))
  · exact .refl s

theorem missAtOnce_follows (e : ScheduleEntry) (s : State) : State.Follows s (missAtOnce e s) :=
  follows_ite (fun _ => lateExpires_follows _ s) fun _ => .refl s

theorem becomeDue_follows (m : ModelId) (s : State) : State.Follows s (becomeDue m s) := by
  unfold becomeDue
  split
  · exact .refl s
  · rename_i e found
    refine ((markDue_follows (List.mem_of_find?_eq_some found)).trans (quietTest_follows false _)).trans ?_
    exact follows_ite (fun _ => (serveEntry_follows m e.cue _).trans (missAtOnce_follows e _)) fun _ =>
      withEntryTest_follows ((sendWake_follows _).trans (missAtOnce_follows e _))

theorem nextDue_follows (s : State) : State.Follows s (nextDue s) := by
  unfold nextDue
  split
  · exact becomeDue_follows _ s
  · exact .refl s

/-! ### Presses -/

theorem clearSuspect_follows (i : EntryIx) (k : Key) (s : State) : State.Follows s (clearSuspect i k s) :=
  .trans (t := s.modEntry i fun b => { b with suspect := false }) (.of_books rfl) (report_follows _ _ _)

theorem stuckExpires_follows (k : Key) (s : State) : State.Follows s (stuckExpires k s) := by
  unfold stuckExpires
  split
  · exact .refl s
  · split
    · exact .refl s
    · refine follows_ite (fun _ => ?_) fun _ => .refl s
      exact .trans (t := State.modEntry s _ _) (.of_books (State.modEntry_books _ _ _))
        ((report_follows _ _ _).trans (flushKey_follows _ _ _))

theorem serveList_follows (m : ModelId) (fuel : Nat) (s : State) : State.Follows s (serveList m fuel s) := by
  induction fuel generalizing s with
  | zero => exact .refl s
  | succ fuel ih =>
    unfold serveList
    split
    · exact .refl s
    · rename_i r rest waits
      have headLeaves {t : State} {g : Tallies → Tallies} (same : t.waits m = r :: rest) (counts : Counts 0 1 g) :
          State.Follows t (quietTest false ((t.setWaits m rest).onTallies g)) :=
        (shorten_follows (same ▸ List.sublist_cons_self r rest) counts
          fun _ => by rw [same, List.length_cons]).trans (quietTest_follows _ _)
      rw [startRequest_eq]
      cases s.verdict m r.cue (.button r.key) <;> dsimp only
      case ok =>
        have left := headLeaves ((startCue_waits m m r.cue (.button r.key) (s.startsPaused r.key) s).trans waits)
          (counts_started 1)
        exact (startCue_follows m r.cue _ _ s).trans (left.trans (.of_books (beginLockoutOf_books _ _)))
      case cueInvalid => exact (headLeaves waits (counts_flushed 1)).trans (ih _)
      case faultLatched => exact driveReport_follows m s
      all_goals exact .refl s

theorem takeFreeNotice_follows (m : ModelId) (s : State) : State.Follows s (takeFreeNotice m s) :=
  follows_ite (fun _ => .trans (t := s.onMotion fun q => { q with freeNotices := q.freeNotices.erase m })
    (.of_books rfl) (serveList_follows m _ _)) fun _ => .refl s

/-- R72: a request joins the list of a model that takes requests, in a mode in which lists may be filled. -/
theorem append_follows {m : ModelId} {r : Request} {s : State} (serving : s.gallery ≠ .closed ∧ s.gallery ≠ .service)
    (takes : (s.model m).state.stoppable = true) (new : s.isWaiting r.key m = false)
    (room : (s.waits m).length < (s.model m).config.waitDepth) : State.Follows s
      ((s.setWaits m (s.waits m ++ [r])).onTallies fun t => { t with taken := addTally 1 t.taken }) := by
  refine ⟨⟨rfl, .refl _, fun h => ?_⟩, fun _ => State.shut_of_mode serving.1 serving.2⟩
  have apart : ((s.waits m ++ [r]).map Request.key).Nodup := by
    rw [List.map_append, List.nodup_append]
    refine ⟨h.listed.apart _, List.nodup_singleton _, fun k member l single e => ?_⟩
    obtain ⟨x, waits, own⟩ := List.mem_map.mp member
    have same : x.key = r.key := own.trans (e.trans (List.mem_singleton.mp single))
    exact absurd new (by rw [Bool.not_eq_false]; exact List.any_eq_true.mpr ⟨x, waits, beq_iff_eq.mpr same⟩)
  exact h.setWaits apart (by rw [List.length_append]; exact room) (fun out => absurd takes (by rw [out]; decide))
    (counts_taken 1) (by rw [List.length_append]; rfl)

theorem joinList_follows {b : Button} {s : State} (serving : s.gallery ≠ .closed ∧ s.gallery ≠ .service)
    (takes : (s.model b.modelId).state.stoppable = true) (new : s.isWaiting b.key b.modelId = false) :
    State.Follows s (joinList b s) :=
  follows_ite (fun _ => .refl s) fun _ => follows_ite
    (fun room => (append_follows serving takes new room).trans (quietTest_follows true _))
    fun _ => onTallies_follows (counts_refused 1)

/-- R6: a verdict other than NOT_READY finds a model that takes requests. -/
theorem stoppable_of_verdict {s : State} {m : ModelId} {c : CueId} {o : Owner} (h : s.verdict m c o ≠ .notReady) :
    (s.model m).state.stoppable = true := by
  unfold State.verdict at h
  cases hs : (s.model m).state <;> simp [hs, ModelState.stoppable] at h ⊢

theorem pressStart_follows {i : EntryIx} {b : Button} {s : State} (serving : s.gallery ≠ .closed ∧ s.gallery ≠ .service)
    (new : s.isWaiting b.key b.modelId = false) : State.Follows s (pressStart i b s) := by
  have refused (t : State) : State.Follows t (t.onTallies fun t => { t with refused := addTally 1 t.refused }) :=
    onTallies_follows (counts_refused 1)
  have joins (h : s.verdict b.modelId b.cueId (.button b.key) ≠ .notReady) : State.Follows s (joinList b s) :=
    joinList_follows serving (stoppable_of_verdict h) new
  unfold pressStart
  rw [startRequest_eq]
  cases verdict : s.verdict b.modelId b.cueId (.button b.key) <;> rw [verdict] at joins <;> dsimp only
  case ok =>
    exact (startCue_follows _ _ _ _ s).trans ((onTallies_follows counts_taken_started).trans
      (.trans (.of_books (beginLockout_books i _)) (quietTest_follows true _)))
  case cueInvalid => exact .refl s
  case notReady => exact refused s
  case faultLatched => exact (driveReport_follows _ s).trans (refused _)
  all_goals exact joins nofun

theorem press_follows (i : EntryIx) (b : Button) (s : State) : State.Follows s (press i b s) := by
  have awake (serving : s.gallery ≠ .closed ∧ s.gallery ≠ .service) : State.Follows s
      (if s.ownsCue b.key b.modelId && b.mode == .toggle then beginLockout i (cutModel b.modelId s)
      else if s.ownsCue b.key b.modelId && b.mode == .hold then
        (if (s.model b.modelId).holdPause then resumeModel b.modelId s else s)
      else if s.isWaiting b.key b.modelId then s else pressStart i b s) :=
    follows_ite (fun _ => (cutModel_follows _ s).trans (.of_books (beginLockout_books i _))) fun _ =>
      follows_ite (fun _ => follows_ite (fun _ => resumeModel_follows _ s) fun _ => .refl s) fun _ =>
        follows_ite (fun _ => .refl s) fun new => pressStart_follows serving (Bool.eq_false_of_not_eq_true new)
  unfold press
  refine follows_ite (fun _ => .refl s) fun _ => ?_
  cases mode : s.gallery <;> rw [mode] at awake <;> dsimp only
  case opened | waking => exact awake ⟨nofun, nofun⟩
  all_goals exact .refl s

theorem callEdge_follows (i : EntryIx) (b : Button) (s : State) : State.Follows s (callEdge i b s) := by
  refine (sendWake_follows s).trans (.of_books ?_)
  unfold callEdge callPress
  split
  · rfl
  · split <;> simp

theorem edgeCases_follows (i : EntryIx) (b : Button) (e : Edge) (s : State) : State.Follows s (edgeCases i b e s) := by
  unfold edgeCases
  split
  · exact follows_ite (fun _ => pauseModel_follows _ s) fun _ => .refl s
  · exact press_follows i b s
  · exact follows_ite (fun _ => callEdge_follows i b s) fun _ => .refl s
  all_goals exact follows_ite (fun _ => press_follows i b s) fun _ => .refl s

theorem takeEdge_follows (i : EntryIx) (e : Edge) (s : State) : State.Follows s (takeEdge i e s) := by
  refine .trans (t := stuckBookkeeping i e s) (.of_books (stuckBookkeeping_books i e s)) ?_
  unfold takeEdge
  dsimp only
  split
  · exact .refl _
  · refine follows_ite (fun _ => ?_) fun _ => ?_
    · split
      · exact clearSuspect_follows i _ _
      · exact .refl _
    · split
      · exact (sendWake_follows _).trans (edgeCases_follows i _ _ _)
      · exact edgeCases_follows i _ _ _

theorem panelButton_follows (n : NodeId) (d : BitVec 16) (b : ButtonIx) (s : State) :
    State.Follows s (panelButton n d b s) := by
  unfold panelButton
  refine follows_ite (fun _ => .refl s) fun _ => ?_
  refine .trans (t := recordButton ⟨n, b⟩ (d.getLsbD b.val) s) (.of_books rfl) ?_
  dsimp only
  split
  · exact (takeEdge_follows _ _ _).trans (.of_books (deriveLamps_books _))
  · exact .refl _

theorem takePanel_follows (n : NodeId) (d : BitVec 16) (hello : Bool) (s : State) :
    State.Follows s (takePanel n d hello s) :=
  follows_ite (fun _ => follows_if (withEntryTest_follows (forEach_follows (panelButton_follows n d) allButtons s))
    (.of_books (markDirty_books n _))) fun _ => .refl s

theorem dropButton_follows (k : Key) (s : State) : State.Follows s (dropButton k s) := by
  unfold dropButton
  split
  · exact .refl s
  · rename_i i _
    refine .trans (t := s.modEntry i fun b => { b with stuckTimer := none, downSince := none }) (.of_books rfl) ?_
    dsimp only
    split
    · exact .refl _
    · exact follows_if (follows_ite (fun _ => clearSuspect_follows i k _) fun _ => .refl _) (pauseModel_follows _ _)

theorem emptyRecorded_follows (n : NodeId) (s : State) : State.Follows s (emptyRecorded n s) :=
  .trans (t := s.onPress fun q => { q with recorded := tput q.recorded n 0 }) (.of_books rfl)
    (forEach_follows (fun b t => dropButton_follows ⟨n, b⟩ t) _ _)

theorem storeButton_follows (i : EntryIx) (new : Option Button) (s : State) :
    State.Follows s (storeButton i new s) := by
  refine .trans (t := s.onPress fun q => { q with buttons := tput q.buttons i (new.map fun b => freshButton b s) })
    (.of_books rfl) ?_
  unfold storeButton
  dsimp only
  split
  · exact .refl _
  · exact follows_if (report_follows _ _ _) (.of_books (setLamp_books _ _ _))

end Sys2Proof.Machine

/-! ## The schedule list, the wait lists and the tallies: the Line Relay, the tables, the commands and the keys -/

namespace Sys2Proof.Machine

/-! ### Hearing and silence -/

theorem driveHeard_follows (n : NodeId) (s : State) : State.Follows s (driveHeard n s) :=
  forEach_follows (fun m t => .trans (t := State.modWatch t m _) (.of_books (State.modWatch_books _ _ _))
    (report_follows _ _ _)) _ s

theorem nodeHeard_follows (n : NodeId) (s : State) : State.Follows s (nodeHeard n s) := by
  have heard : State.Follows s (report (.nodeSilent n) false (s.modNode n fun e => { e with
      lastHeard := some s.clock, silence := e.silenceStart })) :=
    .trans (.of_books (State.modNode_books _ _ _)) (report_follows _ _ _)
  exact follows_if (follows_if heard (reviewZones_follows _)) (driveHeard_follows n _)

theorem nodeSilenceEnds_follows (n : NodeId) (s : State) : State.Follows s (nodeSilenceEnds n s) := by
  refine follows_ite (fun _ => ?_) fun _ => .refl s
  have silent : State.Follows s (report (.nodeSilent n) true (s.modNode n fun e => { e with silence := none })) :=
    .trans (.of_books (State.modNode_books _ _ _)) (report_follows _ _ _)
  have emptied := follows_if (c := (State.node (report (.nodeSilent n) true (s.modNode n fun e =>
    { e with silence := none })) n).role = .panel) silent (emptyRecorded_follows n _)
  have reported {u : State} : State.Follows u (if (u.node n).role = .sensor then
      u.onSup fun q => { q with reported := tput q.reported n (u.node n).zones } else u) :=
    follows_ite (fun _ => .of_books rfl) fun _ => .refl _
  exact follows_if emptied (reported.trans (reviewZones_follows _))

theorem driveSilenceEnds_follows (m : ModelId) (s : State) : State.Follows s (driveSilenceEnds m s) :=
  follows_ite (fun _ => .trans (t := State.modWatch s m _) (.of_books (State.modWatch_books _ _ _))
    (report_follows _ _ _)) fun _ => .refl s

theorem spineHeard_follows (s : State) : State.Follows s (spineHeard s) := by
  unfold spineHeard
  dsimp only
  exact .trans (.of_books (State.onRelay_books _ _)) (report_follows _ _ _)

theorem spineSilenceEnds_follows (s : State) : State.Follows s (spineSilenceEnds s) :=
  follows_ite (fun _ => .trans (t := State.onRelay s _) (.of_books rfl) (report_follows _ _ _)) fun _ => .refl s

theorem bayError_follows (s : State) : State.Follows s (bayError s) :=
  follows_if (u := State.onRelay s _) (.of_books rfl) (report_follows _ _ _)

theorem windowEnds_follows (s : State) : State.Follows s (windowEnds s) :=
  follows_if (u := State.onRelay s _) (.of_books rfl) (report_follows _ _ _)

theorem reportRing_follows (v : Bool) (s : State) : State.Follows s (reportRing v s) :=
  follows_ite (fun _ => report_follows _ _ s) fun _ => (report_follows _ _ s).trans (reviewZones_follows _)

theorem ringReturn_follows (s : State) : State.Follows s (ringReturn s) :=
  .trans (t := State.onRelay s _) (.of_books rfl) (reportRing_follows _ _)

theorem ringMiss_follows (s : State) : State.Follows s (ringMiss s) :=
  follows_ite (fun _ => follows_if (u := State.onRelay s _) (.of_books rfl) (reportRing_follows _ _)) fun _ => .refl s

theorem takePresence_follows (n : NodeId) (occupied : BitVec 8) (s : State) :
    State.Follows s (takePresence n occupied s) :=
  follows_ite (fun _ => .trans (t := State.onSup s _) (.of_books rfl) (reviewZones_follows _)) fun _ => .refl s

/-! ### Feedback -/

theorem checkEntry_follows (m : ModelId) (p : Int) (load : Nat) (flagged : Bool) (s : State) :
    State.Follows s (checkEntry m p load flagged s) :=
  follows_if (((follows_if (u := State.modModel s m _) (.of_books (modModel_books rfl rfl))
    (report_follows _ _ _)).trans (report_follows _ _ _)).trans ((report_follows _ _ _).trans (report_follows _ _ _)))
    (driveReport_follows m _)

theorem takeAxisEntry_follows (n : NodeId) (e : AxisEntry) (s : State) : State.Follows s (takeAxisEntry n e s) := by
  unfold takeAxisEntry
  split
  · exact .refl s
  · rename_i m _
    dsimp only
    have fedBack : State.Follows s ((s.modWatch m fun w => { w with energised := isEnergised e.flags }).modModel m
        fun x => { x with fedBack := some e.position.toInt }) :=
      .of_books ((modModel_books rfl rfl).trans (State.modWatch_books _ _ _))
    have taken : State.Follows s (if (s.model m).state == .enabling then
        report (.model .driveReport m) (hasDriveFlag e.flags) (firstFeedback m e.position.toInt
          (((s.modWatch m fun w => { w with energised := isEnergised e.flags }).modModel m fun x =>
            { x with fedBack := some e.position.toInt }).modModel m fun x =>
              { x with flagSeen := hasDriveFlag e.flags }))
        else checkEntry m e.position.toInt (min 1023 e.load.toNat) (hasDriveFlag e.flags)
          ((s.modWatch m fun w => { w with energised := isEnergised e.flags }).modModel m fun x =>
            { x with fedBack := some e.position.toInt })) :=
      fedBack.trans (follows_ite
        (fun _ => .trans (.of_books (modModel_books rfl rfl))
          ((firstFeedback_follows m _ _).trans (report_follows _ _ _)))
        fun _ => checkEntry_follows m _ _ _ _)
    exact follows_ite (fun _ => taken) fun _ => taken.trans (endWakeTest_follows _)

theorem takeFeedback_follows (n : NodeId) (entries : List AxisEntry) (s : State) :
    State.Follows s (takeFeedback n entries s) :=
  follows_ite (fun _ => forEach_follows (takeAxisEntry_follows n) _ s) fun _ => .refl s

/-! ### Tables -/

/-- R1: a record is written straight into a DISABLED model, for which no request waits. -/
theorem configure_follows {m : ModelId} {f : Model → Model} {s : State} (out : (s.model m).state = .disabled)
    (same : (f (s.model m)).state = (s.model m).state) : State.Follows s (s.modModel m f) where
  clock := rfl
  upcoming := .refl _
  tidy h := by
    have state (k : ModelId) : ((s.modModel m f).model k).state = (s.model k).state := by
      rw [State.modModel_model]
      split
      · rename_i e; rw [e, same]
      · rfl
    refine ⟨h.schedule.sublist (.refl _) fun e listed => ?_, h.listed.apart, fun k => ?_, fun k gone => ?_,
      h.listed.even⟩
    · rw [state]; exact h.schedule.inService e listed
    · rw [State.modModel_model]
      split
      · rename_i e
        have none : s.waits m = [] := h.listed.empty m (by rw [out]; rfl)
        have waits : (s.modModel m f).waits k = [] := by rw [e]; exact none
        rw [waits]; exact Nat.zero_le _
      · exact h.listed.depth k
    · rw [state] at gone; exact h.listed.empty k gone
  shut shut := shut

theorem writeModel_follows (m : ModelId) (r : List Byte) (s : State) : State.Follows s (writeModel m r s).1 := by
  unfold writeModel
  split
  · exact .refl s
  · split
    · rename_i out; exact configure_follows out rfl
    · split
      · exact .refl s
      · exact .of_books (modModel_books rfl rfl)

theorem storeNode_follows (n : NodeId) (f : NodeFields) (s : State) : State.Follows s (storeNode n f s) := by
  unfold storeNode
  dsimp only
  have stored (g : NodeEntry → NodeEntry) : State.Follows s (report (.nodeSilent n) false (s.modNode n g)) :=
    .trans (.of_books (State.modNode_books s n g)) (report_follows _ _ _)
  refine .trans (.trans ?_ (.of_books (State.onSup_books _ _))) (reviewZones_follows _)
  refine follows_ite (fun _ => follows_ite (fun _ => stored _) fun _ => ?_) fun _ => ?_
  · exact (stored _).trans (.of_books (markDirty_books n _))
  · refine .trans ?_ (emptyRecorded_follows n _)
    exact (stored _).trans (.of_books rfl)

theorem writeNode_follows (n : NodeId) (r : List Byte) (s : State) : State.Follows s (writeNode n r s).1 := by
  unfold writeNode
  split
  · exact .refl s
  · split
    · exact .refl s
    · dsimp only; exact storeNode_follows n _ s

theorem writeButton_follows (i : EntryIx) (r : List Byte) (s : State) : State.Follows s (writeButton i r s).1 := by
  unfold writeButton
  split
  · exact .refl s
  · split
    · exact .refl s
    · split
      · exact .refl s
      · dsimp only; exact storeButton_follows i _ s

theorem storeRoute_follows (code : Fin 15) (r : Route) (s : State) : State.Follows s (storeRoute code r s) := by
  have stored : State.Follows s (s.onAlert fun u => { u with routes := tput u.routes code r }) := .of_books rfl
  refine follows_ite (fun _ => stored) fun _ => (stored.trans (redetect_follows code _)).trans ?_
  refine follows_ite (fun _ => ?_) fun _ => follows_ite (fun _ => reviewZones_follows _) fun _ => .refl _
  exact .trans (follows_ite (fun _ => .of_books (fillSilent_books _)) fun _ => .refl _) (reviewZones_follows _)

theorem writeRoute_follows (code : Fin 15) (r : List Byte) (s : State) : State.Follows s (writeRoute code r s).1 := by
  unfold writeRoute
  split
  · exact .refl s
  · dsimp only; exact storeRoute_follows code _ s

theorem storeSettings_follows (v : Settings) (s : State) : State.Follows s (storeSettings v s) := by
  unfold storeSettings
  dsimp only
  refine .trans ?_ (quietTest_follows true _)
  refine follows_if (.trans ?_ (.of_books (State.onRelay_books _ _))) (report_follows _ _ _)
  exact follows_ite (fun _ => .of_books rfl) fun _ => .of_books rfl

theorem writeSettings_follows (r : List Byte) (s : State) : State.Follows s (writeSettings r s).1 := by
  unfold writeSettings
  split
  · exact .refl s
  · split
    · exact .refl s
    · dsimp only; exact storeSettings_follows _ s

/-! ### ENABLE, DISABLE and COMMIT -/

theorem enableModel_follows (m : ModelId) (s : State) : State.Follows s (enableModel m s).1 := by
  unfold enableModel
  split
  · exact .refl s
  · rename_i out
    have enabling : State.Follows s (changeModel m Model.enable s) :=
      changeModel_follows ⟨rfl, nofun, fun _ => by rw [not_not.mp out]; rfl⟩
    split
    · exact .refl s
    · split
      · exact .refl s
      · split
        · exact .refl s
        · refine enabling.trans (.trans (.of_books ?_) (endWakeTest_follows _))
          rw [quench_books, State.modWatch_books]

/-- What the removal of entries makes of the books is read from the books. -/
theorem filterSchedule_books {s t : State} (same : t.books = s.books) (p : ScheduleEntry → Bool) :
    (t.onMotion fun q => { q with schedule := q.schedule.filter p }).books =
      (s.onMotion fun q => { q with schedule := q.schedule.filter p }).books := by
  have read (u : State) : (u.onMotion fun q => { q with schedule := q.schedule.filter p }).books =
      ({ u.books.1 with schedule := u.books.1.schedule.filter p }, u.books.2) := rfl
  rw [read, read, same]

theorem quenchModel_books (m : ModelId) (s : State) : (quenchModel m s).books = s.books :=
  quenchModel_keeps State.books (fun id t => quench_books id t) m s

/-- R21: a model goes out of service together with its entry of the schedule list. -/
theorem outOfService_follows (m : ModelId) (s : State) : State.Follows s
    ((changeModel m Model.disable s).onMotion fun q => { q with
      schedule := q.schedule.filter fun e => e.model != m }) where
  clock := by
    have clock : (changeModel m Model.disable s).clock = s.clock := by rw [State.clock, changeModel_motion]; rfl
    exact clock
  upcoming := by
    simp only [State.upcoming, State.onMotion_motion, changeModel_schedule]
    exact List.filter_sublist.filter _
  tidy h := by
    have listed := changeModel_listed (f := Model.disable) (m := m) h.listed rfl nofun
    refine ⟨h.schedule.sublist ?_ fun e member => ?_, listed.apart, listed.depth, listed.empty, listed.even⟩
    · simp only [State.onMotion_motion, changeModel_schedule]
      exact List.filter_sublist
    · simp only [State.onMotion_motion, changeModel_schedule] at member
      obtain ⟨member, other⟩ := List.mem_filter.mp member
      have kept : ((changeModel m Model.disable s).model e.model) = s.model e.model := by
        rw [changeModel_model, if_neg (by simpa using other)]
      have service := h.schedule.inService e member
      rw [← kept] at service
      exact service
  shut shut mode k := by
    have mode : (changeModel m Model.disable s).gallery = .closed ∨
      (changeModel m Model.disable s).gallery = .service := mode
    rw [changeModel_gallery] at mode
    have waits : (changeModel m Model.disable s).waits k = [] := by
      rw [changeModel_waits]
      split
      · rfl
      · exact shut mode k
    exact waits

theorem disableModel_follows (m : ModelId) (s : State) : State.Follows s (disableModel m s).1 := by
  unfold disableModel
  split
  · exact .refl s
  · refine .trans ((outOfService_follows m s).trans (.of_books ?_)) (endWakeTest_follows _)
    rw [removeEntry, quietTest_books]
    refine filterSchedule_books ?_ _
    rw [State.modWatch_books, quenchModel_books]

theorem commitModel_follows (m : ModelId) (s : State) : State.Follows s (commitModel m s).1 := by
  unfold commitModel
  split
  · exact .refl s
  · rename_i c _
    split
    · exact .refl s
    · split
      · exact applyCommit_follows m c s
      · exact .refl s
    all_goals exact .of_books (modModel_books rfl rfl)

/-! ### The other commands that leave the clock alone -/

theorem startNow_follows (args : List Byte) (s : State) : State.Follows s (startNow args s).1 := by
  unfold startNow
  split
  · exact .refl s
  · split
    · exact .refl s
    · dsimp only; exact startRequest_follows _ _ _ _ s

theorem stopCue_follows (m : ModelId) (s : State) : State.Follows s (stopCue m s).1 := by
  unfold stopCue
  split
  · exact cutModel_follows m s
  · exact .refl s

theorem clearNotice_books (id : FaultId) (s : State) : (clearNotice id s).books = s.books := rfl

theorem clearLatches_follows (ids : List FaultId) (s : State) : State.Follows s (clearLatches ids s) := by
  have cleared := forEach_follows (op := fun id t => t.modMarks id fun k => { k with latched := false })
    (fun id t => .of_books (State.modMarks_books _ _ _)) ids s
  have released := cleared.trans (forEach_follows
    (op := fun m t => if t.noTripLatch m then releaseTrip m t else t)
    (fun m t => follows_ite (fun _ => releaseTrip_follows m t) fun _ => .refl t)
    (allModels.filter fun m => ids.any fun id => id.tripModel == some m) _)
  exact released.trans (forEach_follows (fun id t => .of_books (clearNotice_books id t)) ids _)

theorem clearArgs_follows (args : List Byte) (s : State) : State.Follows s (clearArgs args s).1 := by
  unfold clearArgs
  split
  · exact .refl s
  · split
    · exact .refl s
    · unfold clearNamed; dsimp only; exact clearLatches_follows _ s

theorem resumeArgs_follows (args : List Byte) (s : State) : State.Follows s (resumeArgs args s).1 := by
  unfold resumeArgs
  split
  · exact .refl s
  · split
    · exact .refl s
    · dsimp only; exact resumeAll_follows s

/-- R77: a tally of what waits, and nothing spent, is in balance. -/
theorem State.Even.of_waiting {s : State} {g : Tallies → Tallies}
    (cleared : ∀ t, g t = ⟨min Config.tallyMax s.waitingCount, 0, 0, 0, 0⟩) : (s.onTallies g).Even := by
  intro below
  have low : (g s.press.tallies).taken < Config.tallyMax := below.1
  have taken : (g s.press.tallies).taken = (g s.press.tallies).spent + s.waitingCount := by
    rw [cleared] at low ⊢
    simp only [Tallies.spent] at low ⊢
    omega
  exact taken

/-- A change of the tallies that leaves them in balance. -/
theorem onTallies_follows_of_even {s : State} {g : Tallies → Tallies} (even : (s.onTallies g).Even) :
    State.Follows s (s.onTallies g) where
  clock := rfl
  upcoming := .refl _
  tidy h := ⟨h.schedule.sublist (.refl _) h.schedule.inService, h.listed.apart, h.listed.depth, h.listed.empty, even⟩
  shut shut := shut

theorem clearCounts_follows (s : State) : State.Follows s (clearCounts s) := by
  unfold clearCounts
  exact .trans (.of_books (State.onRelay_books _ _)) (onTallies_follows_of_even (.of_waiting fun _ => rfl))

theorem pushReply_books (c : Sender) (a : Answer) (r : Bool) (s : State) : (pushReply c a r s).books = s.books := rfl

/-! ### Keys, receivers and hold limits -/

theorem holdLimitEnds_follows (m : ModelId) (s : State) : State.Follows s (holdLimitEnds m s) :=
  follows_ite (fun _ => .trans (.of_books ((raise_books _ _).trans (State.modWatch_books _ _ _)))
    (cutModel_follows m _)) fun _ => .refl s

theorem stopAsserts_follows (s : State) : State.Follows s (stopAsserts s) := by
  unfold stopAsserts
  dsimp only
  have seen : State.Follows s (s.onPins fun p => { p with stopOpen := true }) := .of_books rfl
  refine follows_ite (fun _ => seen) fun _ => .trans ?_ (forEach_follows stopModel_follows _ _)
  exact (seen.trans (.of_books (State.onSup_books _ _))).trans (report_follows _ _ _)

theorem stopReleases_follows (s : State) : State.Follows s (stopReleases s) := by
  unfold stopReleases
  dsimp only
  have seen : State.Follows s (s.onPins fun p => { p with stopOpen := false }) := .of_books rfl
  refine follows_ite (fun _ => .trans ?_ (freeAll_follows _)) fun _ => seen
  exact (seen.trans (.of_books (State.onSup_books _ _))).trans (report_follows _ _ _)

theorem ackHeld_follows (s : State) : State.Follows s (ackHeld s) :=
  follows_ite (fun _ => .trans (t := State.onSup s _) (.of_books rfl)
    (follows_ite (fun _ => .refl _) fun _ => resumeAll_follows _)) fun _ => .refl s

theorem countCheckError_follows (p : Port) (s : State) : State.Follows s (countCheckError p s) := by
  cases p
  · exact .trans (.of_books (State.onBayCounters_books _ _)) (bayError_follows _)
  · exact .of_books rfl

theorem countFraming_follows (p : Port) (s : State) : State.Follows s (countFraming p s) := by
  cases p
  · exact .trans (.of_books (State.onBayCounters_books _ _)) (bayError_follows _)
  · exact .of_books rfl

theorem abandon_follows (p : Port) (next : Receiver) (s : State) : State.Follows s (abandon p next s) :=
  follows_ite (fun _ => .refl s) fun _ => .trans (.of_books (setReceiver_books p next s)) (countFraming_follows p _)

/-! ### Bay frames -/

theorem handOn_follows (n : NodeId) (f : Frame) (s : State) : State.Follows s (handOn n f s) := by
  have taken (b : Byte) : State.Follows s (mirrorUp n f (markHello n b s)) := .of_books (by simp)
  have misrouted : State.Follows s (misroutedBay s) := .of_books rfl
  unfold handOn
  cases (s.node n).role <;> dsimp only
  case panel => exact follows_ite (fun _ => (taken _).trans (takePanel_follows _ _ _ _)) fun _ => misrouted
  case drive =>
    refine follows_ite (fun _ => ?_) fun _ => misrouted
    split
    · exact (taken _).trans (takeFeedback_follows _ _ _)
    · exact misrouted
  case sensor => exact follows_ite (fun _ => (taken _).trans (takePresence_follows _ _ _)) fun _ => misrouted
  all_goals exact misrouted

theorem routeBay_follows {controller : State → State} (f : Frame) {s : State}
    (done : State.Follows s (controller s)) : State.Follows s (routeBay controller f s) :=
  follows_ite (fun _ => .of_books rfl) fun _ => follows_ite (fun _ => done) fun _ =>
    follows_ite (fun _ => .of_books (forwardDown_books _ _)) fun _ =>
      follows_ite (fun _ => .of_books (forwardUp_books _ _)) fun _ => .of_books rfl

theorem classifyBay_follows (f : Frame) (s : State) : State.Follows s (classifyBay f s) := by
  have counted (g : BayCounters → BayCounters) : State.Follows s (s.onBayCounters g) := .of_books rfl
  unfold classifyBay
  refine follows_ite (fun _ => follows_ite (fun _ => ringReturn_follows s) fun _ => counted _) fun _ =>
    follows_ite (fun _ => counted _) fun _ => ?_
  split
  · rename_i n _
    exact follows_ite (fun _ => counted _) fun _ => (nodeHeard_follows n s).trans
      (follows_ite (fun _ => .of_books (forwardUp_books _ _)) fun _ => routeBay_follows f (handOn_follows n f _))
  · exact routeBay_follows f (.of_books rfl)

end Sys2Proof.Machine

/-! ## Every step keeps the schedule list, the wait lists and the tallies (O57)

`State.Steps` is what O57 asks of a step. An operation that follows does it; so do the passing of a millisecond,
SHOW_SYNC, the placing of an entry and the resets. -/

namespace Sys2Proof.Machine

/-! ### What a step does -/

/-- An operation keeps the lists well formed and the tallies in balance; and where every entry reached is due, it keeps
the other entries in ascending order of their wait. -/
structure State.Steps (s t : State) : Prop where
  keeps : s.Tidy ∧ s.Shut → t.Tidy ∧ t.Shut
  order : s.Tidy → s.NoneOverdue → s.StartsInOrder → t.StartsInOrder

theorem State.noneOverdue_iff (s : State) : s.NoneOverdue ↔ ∀ e ∈ s.upcoming, reached s.clock e.start = false := by
  simp only [State.NoneOverdue, State.upcoming, State.clock, reached, List.mem_filter, and_imp,
    Option.isNone_iff_eq_none]
  exact forall₃_congr fun _ _ _ => decide_eq_false_iff_not.symm

theorem State.startsInOrder_iff (s : State) : s.StartsInOrder ↔
    (s.upcoming.filter fun e => !reached s.clock e.start).Pairwise fun a b =>
      waitOf s.clock a.start ≤ waitOf s.clock b.start := by
  simp only [State.StartsInOrder, State.upcoming, State.clock, waitOf, List.filter_filter, Bool.and_comm]

theorem State.Minds.noneOverdue {s t : State} (h : State.Minds s t) (none : s.NoneOverdue) : t.NoneOverdue := by
  rw [State.noneOverdue_iff] at none ⊢
  rw [h.clock]
  exact fun e listed => none e (h.upcoming.subset listed)

theorem State.Minds.startsInOrder {s t : State} (h : State.Minds s t) (order : s.StartsInOrder) : t.StartsInOrder := by
  rw [State.startsInOrder_iff] at order ⊢
  rw [h.clock]
  exact order.sublist (h.upcoming.filter _)

theorem State.Follows.steps {s t : State} (h : State.Follows s t) : State.Steps s t :=
  ⟨fun ⟨tidy, shut⟩ => ⟨h.tidy tidy, h.shut shut⟩, fun _ _ order => h.startsInOrder order⟩

theorem State.Follows.thenSteps {s t u : State} (h : State.Follows s t) (g : State.Steps t u) : State.Steps s u :=
  ⟨g.keeps ∘ h.steps.keeps, fun tidy none order => g.order (h.tidy tidy) (h.noneOverdue none) (h.startsInOrder order)⟩

theorem State.Steps.thenFollows {s t u : State} (h : State.Steps s t) (g : State.Follows t u) : State.Steps s u :=
  ⟨g.steps.keeps ∘ h.keeps, fun tidy none order => g.startsInOrder (h.order tidy none order)⟩

theorem State.Steps.refl (s : State) : State.Steps s s := (State.Follows.refl s).steps

/-- What an operation does need be shown only for lists that are well formed. -/
theorem State.Steps.of_tidy {s t : State} (h : s.Tidy → State.Steps s t) : State.Steps s t :=
  ⟨fun kept => (h kept.1).keeps kept, fun tidy => (h tidy).order tidy⟩

theorem steps_ite {c : Prop} [Decidable c] {s t u : State} (ht : c → State.Steps s t) (hu : ¬ c → State.Steps s u) :
    State.Steps s (if c then t else u) := by
  split
  · exact ht ‹_›
  · exact hu ‹_›

/-! ### The clock moves -/

/-- R49: start times that neither clock has reached keep their order when the clock moves: what a clock has not reached
is the half circle after it. -/
theorem waitOf_le_of_unreached {c v a b : Clock} (ac : reached c a = false) (bc : reached c b = false)
    (av : reached v a = false) (bv : reached v b = false) (order : waitOf c a ≤ waitOf c b) :
    waitOf v a ≤ waitOf v b := by
  simp only [reached, decide_eq_false_iff_not, waitOf] at *
  bv_omega

/-- The clock moves where every entry reached is due: what it has not reached then keeps its order. -/
theorem pairwise_waitOf_of_unreached {c v : Clock} {l : List ScheduleEntry}
    (none : ∀ e ∈ l, reached c e.start = false)
    (order : (l.filter fun e => !reached c e.start).Pairwise fun a b => waitOf c a.start ≤ waitOf c b.start) :
    (l.filter fun e => !reached v e.start).Pairwise fun a b => waitOf v a.start ≤ waitOf v b.start := by
  have all : (l.filter fun e => !reached c e.start) = l := List.filter_eq_self.mpr fun e member => by
    rw [none e member]; rfl
  rw [all] at order
  refine (order.sublist List.filter_sublist).imp_of_mem fun {a b} ha hb le => ?_
  obtain ⟨ha, av⟩ := List.mem_filter.mp ha
  obtain ⟨hb, bv⟩ := List.mem_filter.mp hb
  rw [Bool.not_eq_true'] at av bv
  exact waitOf_le_of_unreached (none a ha) (none b hb) av bv le

/-- R50: the clock is set. -/
theorem setClock_steps (v : Clock) (s : State) : State.Steps s (s.onMotion fun q => { q with clock := v }) where
  keeps := fun ⟨tidy, shut⟩ => ⟨⟨tidy.schedule.sublist (.refl _) tidy.schedule.inService, tidy.listed.apart,
    tidy.listed.depth, tidy.listed.empty, tidy.listed.even⟩, shut⟩
  order _ none order := by
    rw [State.startsInOrder_iff] at order ⊢
    exact pairwise_waitOf_of_unreached (s.noneOverdue_iff.mp none) order

theorem syncArgs_steps (args : List Byte) (s : State) : State.Steps s (syncArgs args s).1 := by
  unfold syncArgs
  split
  · exact (setClock_steps (clockAt args 0) s).thenFollows (forEach_follows becomeDue_follows _ _)
  · exact .refl s

/-! ### A millisecond -/

/-- An entry a millisecond later. -/
def ScheduleEntry.later (e : ScheduleEntry) : ScheduleEntry := { e with due := countDown e.due }

theorem tick_schedule (s : State) : (tick s).motion.schedule = s.motion.schedule.map ScheduleEntry.later := rfl

theorem tick_clock (s : State) : (tick s).clock = s.clock + 1 := rfl

theorem tick_tallies (s : State) : (tick s).press.tallies = s.press.tallies := rfl

theorem tick_waits (s : State) (m : ModelId) :
    (tick s).waits m = (s.waits m).map fun r => { r with left := r.left - 1 } := tget_map _ _ m

theorem tick_model (s : State) (m : ModelId) :
    (tick s).model m = { s.model m with pauseTimer := countDown (s.model m).pauseTimer } := tget_map _ _ m

theorem tick_model_state (s : State) (m : ModelId) : ((tick s).model m).state = (s.model m).state := by rw [tick_model]

theorem tick_model_config (s : State) (m : ModelId) : ((tick s).model m).config = (s.model m).config := by
  rw [tick_model]

theorem ScheduleEntry.later_due_isSome (e : ScheduleEntry) : e.later.due.isSome = e.due.isSome := countDown_isSome _

theorem tick_upcoming (s : State) : (tick s).upcoming = s.upcoming.map ScheduleEntry.later := by
  have same : ((fun e => e.due.isNone) ∘ ScheduleEntry.later) = fun e => e.due.isNone := funext fun e => by
    simp only [Function.comp_apply, ← Option.not_isSome, ScheduleEntry.later_due_isSome]
  rw [State.upcoming, tick_schedule, List.filter_map, same]
  rfl

theorem tick_waitingCount (s : State) : (tick s).waitingCount = s.waitingCount := by
  simp only [State.waitingCount, tick_waits, List.length_map]

theorem tick_scheduleWf {s : State} (h : s.ScheduleWf) : (tick s).ScheduleWf where
  length := by rw [tick_schedule, List.length_map]; exact h.length
  apart := by rw [tick_schedule, List.map_map]; exact h.apart
  dueFirst := by
    rw [tick_schedule, List.pairwise_map]
    simpa only [ScheduleEntry.later_due_isSome] using h.dueFirst
  inService e listed := by
    rw [tick_schedule] at listed
    obtain ⟨x, member, rfl⟩ := List.mem_map.mp listed
    rw [tick_model_state]
    exact h.inService x member

theorem tick_listed {s : State} (h : s.Listed) : (tick s).Listed where
  apart m := by rw [tick_waits, List.map_map]; exact h.apart m
  depth m := by rw [tick_waits, List.length_map, tick_model_config]; exact h.depth m
  empty m out := by rw [tick_model_state] at out; rw [tick_waits, h.empty m out, List.map_nil]
  even := by
    have even := h.even
    simpa only [State.Even, State.TalliesBelowMax, State.Balanced, tick_waitingCount, tick_tallies] using even

theorem tick_steps (s : State) : State.Steps s (tick s) where
  keeps := fun ⟨tidy, shut⟩ => ⟨⟨tick_scheduleWf tidy.schedule, tick_listed tidy.listed⟩, fun mode m => by
    rw [tick_waits, shut mode m, List.map_nil]⟩
  order _ none order := by
    rw [State.startsInOrder_iff] at order ⊢
    have moved := pairwise_waitOf_of_unreached (v := s.clock + 1) (s.noneOverdue_iff.mp none) order
    rw [tick_upcoming, tick_clock, List.filter_map, List.pairwise_map]
    exact moved

theorem takeUp_books (s : State) : (takeUp s).books = s.books := by
  unfold takeUp
  split
  · exact State.books_of_steady ((takeSpine_steady _).trans (takeBay_steady s))
  · rfl

theorem idle_steps (s : State) : State.Steps s (idle s) :=
  steps_ite (fun _ => (tick_steps s).thenFollows (.of_books (takeUp_books _))) fun _ => .refl s

/-! ### An entry is placed -/

/-- R52: the entries placed before a new one. -/
def ScheduleEntry.goesBefore (clock : Clock) (e x : ScheduleEntry) : Bool :=
  x.due.isSome || waitOf clock x.start ≤ waitOf clock e.start

theorem insertEntry_eq (clock : Clock) (e : ScheduleEntry) (l : List ScheduleEntry) : insertEntry clock e l =
    l.takeWhile (e.goesBefore clock) ++ e :: l.dropWhile (e.goesBefore clock) := rfl

theorem insertEntry_perm (clock : Clock) (e : ScheduleEntry) (l : List ScheduleEntry) :
    (insertEntry clock e l).Perm (e :: l) := by
  have split := List.takeWhile_append_dropWhile (p := e.goesBefore clock) (l := l)
  rw [insertEntry_eq]
  exact List.perm_middle.trans (List.Perm.cons _ (by rw [split]))

/-- The entry before which a new one is placed is not due and waits longer. -/
theorem head_dropWhile_goesBefore {clock : Clock} {e x : ScheduleEntry} {l rest : List ScheduleEntry}
    (split : l.dropWhile (e.goesBefore clock) = x :: rest) :
    x.due.isSome = false ∧ waitOf clock e.start < waitOf clock x.start := by
  have after : e.goesBefore clock x = false := by
    have head := List.head?_dropWhile_not (e.goesBefore clock) l
    rw [split] at head
    simpa using head
  simpa [ScheduleEntry.goesBefore] using after

/-- R52: a new entry that is not due is placed after all that are due. -/
theorem insertEntry_dueFirst {clock : Clock} {e : ScheduleEntry} {l : List ScheduleEntry}
    (dueFirst : l.Pairwise fun a b => b.due.isSome = true → a.due.isSome = true) (undue : e.due.isSome = false) :
    (insertEntry clock e l).Pairwise fun a b => b.due.isSome = true → a.due.isSome = true := by
  have parts := dueFirst
  rw [← List.takeWhile_append_dropWhile (p := e.goesBefore clock) (l := l), List.pairwise_append] at parts
  obtain ⟨before, after, across⟩ := parts
  have noneDue : ∀ x ∈ l.dropWhile (e.goesBefore clock), x.due.isSome = false := by
    cases split : l.dropWhile (e.goesBefore clock) with
    | nil => exact nofun
    | cons x rest =>
      obtain ⟨head, -⟩ := head_dropWhile_goesBefore split
      rw [split] at after
      obtain ⟨first, -⟩ := List.pairwise_cons.mp after
      refine fun y member => Bool.eq_false_of_not_eq_true fun due => ?_
      rcases List.mem_cons.mp member with rfl | later
      · rw [head] at due; cases due
      · rw [first y later due] at head; cases head
  rw [insertEntry_eq, List.pairwise_append]
  refine ⟨before, List.pairwise_cons.mpr ⟨fun x member due => ?_, after⟩, fun a first b member due => ?_⟩
  · rw [noneDue x member] at due; cases due
  · rcases List.mem_cons.mp member with rfl | later
    · rw [undue] at due; cases due
    · exact across a first b later due

/-- R52, R53: an entry of a model that has none is placed in a list with room. -/
theorem insertEntry_scheduleWf {s : State} {clock : Clock} {e : ScheduleEntry} (h : s.ScheduleWf)
    (room : s.motion.schedule.length < Config.scheduleDepth) (new : ∀ x ∈ s.motion.schedule, x.model ≠ e.model)
    (undue : e.due.isSome = false) (service : (s.model e.model).state ≠ .disabled) :
    (s.onMotion fun q => { q with schedule := insertEntry clock e q.schedule }).ScheduleWf where
  length := by
    have length := (insertEntry_perm clock e s.motion.schedule).length_eq
    rw [List.length_cons] at length
    simp only [State.onMotion_motion]
    omega
  apart := by
    refine ((insertEntry_perm clock e s.motion.schedule).map ScheduleEntry.model).nodup_iff.mpr ?_
    rw [List.map_cons, List.nodup_cons]
    refine ⟨fun member => ?_, h.apart⟩
    obtain ⟨x, listed, own⟩ := List.mem_map.mp member
    exact new x listed own
  dueFirst := insertEntry_dueFirst h.dueFirst undue
  inService x member := by
    have listed : x ∈ insertEntry clock e s.motion.schedule := member
    rcases List.mem_cons.mp ((insertEntry_perm clock e s.motion.schedule).mem_iff.mp listed) with rfl | old
    · exact service
    · have service' := h.inService
      exact service' x old

/-- R52: a new entry is placed by its wait; one already reached is no longer of the entries in order. -/
theorem insertEntry_order {clock : Clock} {e : ScheduleEntry} {l : List ScheduleEntry}
    (none : ∀ x ∈ l, x.due.isNone = true → reached clock x.start = false)
    (order : ((l.filter fun x => x.due.isNone).filter fun x => !reached clock x.start).Pairwise fun a b =>
      waitOf clock a.start ≤ waitOf clock b.start) :
    (((insertEntry clock e l).filter fun x => x.due.isNone).filter fun x => !reached clock x.start).Pairwise fun a b =>
      waitOf clock a.start ≤ waitOf clock b.start := by
  have parts := order
  rw [← List.takeWhile_append_dropWhile (p := e.goesBefore clock) (l := l), List.filter_append, List.filter_append,
    List.pairwise_append] at parts
  obtain ⟨before, after, across⟩ := parts
  have shorter : ∀ x ∈ ((l.takeWhile (e.goesBefore clock)).filter fun x => x.due.isNone).filter
      fun x => !reached clock x.start, waitOf clock x.start ≤ waitOf clock e.start := fun x member => by
    obtain ⟨member, undue⟩ := List.mem_filter.mp (List.mem_of_mem_filter member)
    have first := List.mem_takeWhile_imp member
    simpa [ScheduleEntry.goesBefore, Option.isNone_iff_eq_none.mp undue] using first
  have longer : ∀ x ∈ ((l.dropWhile (e.goesBefore clock)).filter fun x => x.due.isNone).filter
      fun x => !reached clock x.start, waitOf clock e.start ≤ waitOf clock x.start := by
    cases split : l.dropWhile (e.goesBefore clock) with
    | nil => exact nofun
    | cons y rest =>
      obtain ⟨undue, later⟩ := head_dropWhile_goesBefore split
      have undue : y.due.isNone = true := by rw [← Option.not_isSome, undue]; rfl
      have listed : y ∈ l := (List.dropWhile_sublist _).subset (split ▸ List.mem_cons_self)
      have unreached : (!reached clock y.start) = true := by rw [none y listed undue]; rfl
      rw [split, List.filter_cons_of_pos (p := fun x : ScheduleEntry => x.due.isNone) undue,
        List.filter_cons_of_pos (p := fun x : ScheduleEntry => !reached clock x.start) unreached] at after
      rw [List.filter_cons_of_pos (p := fun x : ScheduleEntry => x.due.isNone) undue,
        List.filter_cons_of_pos (p := fun x : ScheduleEntry => !reached clock x.start) unreached]
      obtain ⟨first, -⟩ := List.pairwise_cons.mp after
      intro x member
      rcases List.mem_cons.mp member with rfl | member
      · exact later.le
      · exact later.le.trans (first x member)
  have own : ∀ x ∈ (([e].filter fun x => x.due.isNone).filter fun x => !reached clock x.start), x = e :=
    fun x member => List.mem_singleton.mp (List.mem_of_mem_filter (List.mem_of_mem_filter member))
  have single : (([e].filter fun x => x.due.isNone).filter fun x => !reached clock x.start).Pairwise fun a b =>
      waitOf clock a.start ≤ waitOf clock b.start :=
    (List.pairwise_singleton _ e).sublist (List.filter_sublist.trans List.filter_sublist)
  rw [insertEntry_eq, ← List.singleton_append, List.filter_append, List.filter_append, List.filter_append,
    List.filter_append, List.pairwise_append, List.pairwise_append]
  refine ⟨before, ⟨single, after, fun a ha b hb => ?_⟩, fun a ha b hb => ?_⟩
  · rw [own a ha]; exact longer b hb
  · rcases List.mem_append.mp hb with hb | hb
    · rw [own b hb]; exact shorter a ha
    · exact across a ha b hb

theorem insertEntry_steps {s : State} {e : ScheduleEntry}
    (room : s.motion.schedule.length < Config.scheduleDepth) (new : ∀ x ∈ s.motion.schedule, x.model ≠ e.model)
    (undue : e.due.isSome = false) (service : (s.model e.model).state ≠ .disabled) :
    State.Steps s (s.onMotion fun q => { q with schedule := insertEntry s.clock e q.schedule }) where
  keeps := fun ⟨tidy, shut⟩ => ⟨⟨insertEntry_scheduleWf tidy.schedule room new undue service, tidy.listed.apart,
    tidy.listed.depth, tidy.listed.empty, tidy.listed.even⟩, shut⟩
  order _ none order := by
    rw [State.startsInOrder_iff] at order ⊢
    rw [State.noneOverdue_iff] at none
    exact insertEntry_order (fun x listed undue => none x (List.mem_filter.mpr ⟨listed, undue⟩)) order

theorem scheduleStart_steps (m : ModelId) (c : CueId) (start : Clock) (late : Nat) (s : State) :
    State.Steps s (scheduleStart m c start late s).1 := by
  refine .of_tidy fun tidy => ?_
  unfold scheduleStart
  split
  · exact .refl s
  · rename_i service
    dsimp only
    split
    · exact .refl s
    · rename_i room
      have placed : State.Steps s ((if (s.motion.schedule.any fun e => e.model == m) = true then removeEntry m s
          else s).onMotion fun q => { q with
            schedule := insertEntry s.clock ⟨m, c, start, late, none⟩ q.schedule }) := by
        split
        · rename_i had
          obtain ⟨x, listed, own⟩ := List.any_eq_true.mp had
          have clock : (removeEntry m s).clock = s.clock := by rw [State.clock, removeEntry_motion]; rfl
          have steps := insertEntry_steps (s := removeEntry m s) (e := ⟨m, c, start, late, none⟩) ?_ ?_ rfl ?_
          · rw [clock] at steps
            exact (removeEntry_follows m s).thenSteps steps
          · rw [removeEntry_motion]
            have shorter : (s.motion.schedule.filter fun e => e.model != m).length < s.motion.schedule.length :=
              List.length_filter_lt_length_iff_exists.mpr ⟨x, listed, by simpa using own⟩
            exact shorter.trans_le tidy.schedule.length
          · rw [removeEntry_motion]
            exact fun y member => by simpa using (List.mem_filter.mp member).2
          · rw [removeEntry_model]; exact service
        · rename_i new
          refine insertEntry_steps (e := ⟨m, c, start, late, none⟩) ?_ (fun y listed own => new ?_) rfl service
          · simpa [new] using room
          · exact List.any_eq_true.mpr ⟨y, listed, beq_iff_eq.mpr own⟩
      exact placed.thenFollows (follows_ite (fun _ => becomeDue_follows m _) fun _ => .refl _)

theorem startLater_steps (args : List Byte) (s : State) : State.Steps s (startLater args s).1 := by
  unfold startLater
  split
  · exact .refl s
  · split
    · exact .refl s
    · exact scheduleStart_steps _ _ _ _ s

/-! ### Resets -/

/-- R52, R66, R76: the lists are empty and the tallies 0, whatever the state before. -/
theorem steps_of_reset {s t : State} (schedule : t.motion.schedule = []) (press : t.press = PressArbiter.reset) :
    State.Steps s t := by
  have waits (m : ModelId) : t.waits m = [] := by
    have same : t.waits m = State.reset.waits m := congrArg (fun q : PressArbiter => tget q.waits m) press
    rw [same, State.reset_waits]
  refine ⟨fun _ => ⟨⟨⟨?_, ?_, ?_, ?_⟩, fun m => ?_, fun m => ?_, fun m _ => waits m, ?_⟩, fun _ => waits⟩,
    fun _ _ _ => ?_⟩
  · rw [schedule]; exact Nat.zero_le _
  · rw [schedule]; exact List.nodup_nil
  · rw [schedule]; exact List.Pairwise.nil
  · rw [schedule]; exact nofun
  · rw [waits]; exact List.nodup_nil
  · rw [waits]; exact Nat.zero_le _
  · exact State.Even.of_press (s := State.reset) press fun _ => State.reset_balanced
  · rw [State.StartsInOrder, schedule]; exact List.Pairwise.nil

theorem sampleKeys_follows (s : State) : State.Follows s (sampleKeys s) := by
  unfold sampleKeys
  dsimp only
  exact follows_if (.of_books (State.onSup_books _ _)) (report_follows _ _ _)

theorem placeStartUp_books (origin : Byte) (s : State) : (placeStartUp origin s).books = s.books := rfl

theorem hardResetEnds_steps (s u : State) : State.Steps u (hardResetEnds s) := by
  unfold hardResetEnds
  dsimp only
  exact ((steps_of_reset rfl rfl).thenFollows (sampleKeys_follows _)).thenFollows (.of_books (placeStartUp_books _ _))

theorem hardResetHolds_steps (s u : State) : State.Steps u (hardResetHolds s) := steps_of_reset rfl rfl

theorem softReset_steps (s u : State) : State.Steps u (softReset s) := by
  unfold softReset
  dsimp only
  exact ((steps_of_reset rfl rfl).thenFollows (sampleKeys_follows _)).thenFollows (.of_books (placeStartUp_books _ _))

theorem hardReset_steps (b : BitVec 5) (r : BitVec 2) (stop ack : Bool) (s : State) :
    State.Steps s (hardReset b r stop ack s) :=
  steps_ite (fun _ => hardResetEnds_steps _ s) fun _ => hardResetHolds_steps _ s

theorem clkResumes_steps (s : State) : State.Steps s (clkResumes s) := by
  unfold clkResumes
  dsimp only
  exact steps_ite (fun _ => hardResetEnds_steps _ s) fun _ => (State.Follows.of_books (State.onPins_books _ _)).steps

theorem spineLeft_steps (s : State) : State.Steps s (spineLeft s) := by
  have soft {t u : State} {c : Prop} [Decidable c] (h : State.Steps s t) :
      State.Steps s (if c then softReset u else t) := steps_ite (fun _ => softReset_steps u s) fun _ => h
  unfold spineLeft
  split
  · exact .refl s
  · rename_i b _
    have idle : State.Steps s (s.onRelay fun q => { q with spineOut := none }) :=
      (State.Follows.of_books (State.onRelay_books _ _)).steps
    dsimp only
    refine soft ?_
    split
    · exact idle.thenFollows (.of_books (State.onAlert_books _ _))
    · exact soft idle
    · exact idle

/-! ### Commands -/

theorem answered_steps {c : Sender} {body : State → State × Answer} {s : State} (done : State.Steps s (body s).1) :
    State.Steps s (answered c body s) :=
  steps_ite (fun _ => done) fun _ =>
    steps_ite (fun _ => (State.Follows.of_books (State.onSpineCounters_books _ _)).steps) fun _ => done.thenFollows (.of_books (pushReply_books _ _ _ _))

theorem control_steps {code : Byte} {c : Sender} {body : State → State × Verdict16} {s : State}
    (done : State.Steps s (body s).1) : State.Steps s (control code c body s) := by
  unfold control
  exact answered_steps done

theorem modelCommand_steps {code : Byte} {c : Sender} {args : List Byte} {body : ModelId → State → State × Verdict16}
    (follows : ∀ m t, State.Follows t (body m t).1) (s : State) :
    State.Steps s (modelCommand code c args body s) := by
  unfold modelCommand
  refine control_steps ?_
  split
  · split
    · exact (follows _ s).steps
    · exact .refl s
  · exact .refl s

/-- A TABLE_WRITE whose index names an entry, or none. -/
theorem tableWrite_steps {id : Byte} {c : Sender} {index : Byte} {record : List Byte}
    {body : State → State × Verdict16} {s : State} (done : State.Follows s (body s).1) :
    State.Steps s (tableWrite id c index record body s) := by
  unfold tableWrite
  refine answered_steps ?_
  split
  · exact .refl s
  · exact done.steps

theorem nodeWrite_steps (c : Sender) (i : Byte) (r : List Byte) (s : State) : State.Steps s (nodeWrite c i r s) := by
  refine tableWrite_steps ?_
  split
  · exact writeNode_follows _ r s
  · exact .refl s

theorem buttonWrite_steps (c : Sender) (i : Byte) (r : List Byte) (s : State) :
    State.Steps s (buttonWrite c i r s) := by
  refine tableWrite_steps ?_
  split
  · exact writeButton_follows _ r s
  · exact .refl s

theorem cueWrite_steps (c : Sender) (i : Byte) (r : List Byte) (s : State) : State.Steps s (cueWrite c i r s) := by
  refine tableWrite_steps ?_
  split
  · exact .of_books (writeCue_books _ r s)
  · exact .refl s

theorem profileWrite_steps (c : Sender) (i : Byte) (r : List Byte) (s : State) :
    State.Steps s (profileWrite c i r s) := by
  refine tableWrite_steps ?_
  split
  · exact .of_books (writeProfile_books _ r s)
  · exact .refl s

theorem modelWrite_steps (c : Sender) (i : Byte) (r : List Byte) (s : State) : State.Steps s (modelWrite c i r s) := by
  refine tableWrite_steps ?_
  split
  · exact writeModel_follows _ r s
  · exact .refl s

theorem routeWrite_steps (c : Sender) (i : Byte) (r : List Byte) (s : State) : State.Steps s (routeWrite c i r s) := by
  refine tableWrite_steps ?_
  split
  · exact writeRoute_follows _ r s
  · exact .refl s

theorem patternWrite_steps (c : Sender) (i : Byte) (r : List Byte) (s : State) :
    State.Steps s (patternWrite c i r s) := by
  refine tableWrite_steps ?_
  split
  · exact .of_books (writePattern_books _ r s)
  · exact .refl s

theorem settingsWrite_steps (c : Sender) (i : Byte) (r : List Byte) (s : State) :
    State.Steps s (settingsWrite c i r s) := tableWrite_steps (writeSettings_follows r s)

theorem badTable_steps (c : Sender) (p : List Byte) (s : State) : State.Steps s (badTable c p s) := by
  unfold badTable
  split
  · exact answered_steps (.refl s)
  · exact .refl s

theorem tableRead_steps (c : Sender) (p : List Byte) (s : State) : State.Steps s (tableRead c p s) :=
  answered_steps (.refl s)

theorem enable_steps (c : Sender) (a : List Byte) (s : State) : State.Steps s (enable c a s) :=
  modelCommand_steps enableModel_follows s
theorem disable_steps (c : Sender) (a : List Byte) (s : State) : State.Steps s (disable c a s) :=
  modelCommand_steps disableModel_follows s
theorem commit_steps (c : Sender) (a : List Byte) (s : State) : State.Steps s (commit c a s) :=
  modelCommand_steps commitModel_follows s
theorem cueStart_steps (c : Sender) (a : List Byte) (s : State) : State.Steps s (cueStart c a s) :=
  control_steps (startNow_follows a s).steps
theorem cueStartScheduled_steps (c : Sender) (a : List Byte) (s : State) : State.Steps s (cueStartScheduled c a s) :=
  control_steps (startLater_steps a s)
theorem cueStop_steps (c : Sender) (a : List Byte) (s : State) : State.Steps s (cueStop c a s) :=
  modelCommand_steps stopCue_follows s
theorem modeChange_steps (c : Sender) (a : List Byte) (s : State) : State.Steps s (modeChange c a s) :=
  control_steps (modeArgs_follows a s).steps
theorem showSync_steps (c : Sender) (a : List Byte) (s : State) : State.Steps s (showSync c a s) :=
  control_steps (syncArgs_steps a s)
theorem clearFault_steps (c : Sender) (a : List Byte) (s : State) : State.Steps s (clearFault c a s) :=
  control_steps (clearArgs_follows a s).steps
theorem resume_steps (c : Sender) (a : List Byte) (s : State) : State.Steps s (resume c a s) :=
  control_steps (resumeArgs_follows a s).steps
theorem statusQuery_steps (c : Sender) (a : List Byte) (s : State) : State.Steps s (statusQuery c a s) :=
  answered_steps (.refl s)

theorem statusQueryClear_steps (c : Sender) (a : List Byte) (s : State) : State.Steps s (statusQueryClear c a s) := by
  unfold statusQueryClear
  exact answered_steps (steps_ite (fun _ => (clearCounts_follows s).steps) fun _ => .refl s)

theorem restart_steps (c : Sender) (a : List Byte) (s : State) : State.Steps s (restart c a s) := by
  have relayed {t : State} (same : t.books = s.books) : State.Steps s t := (State.Follows.of_books same).steps
  refine steps_ite (fun _ => steps_ite (fun _ => ?_) fun _ => .refl s) fun _ => ?_
  · exact steps_ite (fun _ => relayed rfl) fun _ => softReset_steps s s
  · exact steps_ite (fun _ => relayed rfl) fun _ => steps_ite (fun _ => relayed rfl) fun _ => relayed rfl

theorem alertAck_steps (c : Sender) (p : List Byte) (s : State) : State.Steps s (alertAck c p s) := by
  unfold alertAck
  exact answered_steps (State.Follows.of_books (ackArgs_books p s)).steps

theorem badCommand_steps (c : Sender) (p : List Byte) (s : State) : State.Steps s (badCommand c p s) :=
  steps_ite (fun _ => .refl s) fun _ => control_steps (.refl s)

/-! ### Frames -/

theorem receive_steps {p : Port} {classify : Frame → State → State}
    (steps : ∀ f t, State.Steps t (classify f t)) (f : Frame) (s : State) : State.Steps s (receive p classify f s) := by
  have waiting : State.Follows s (setReceiver p .waiting s) := .of_books (setReceiver_books _ _ _)
  refine steps_ite (fun _ => .refl s) fun _ => steps_ite (fun _ => (abandon_follows p _ s).steps) fun _ => ?_
  exact steps_ite (fun _ => (waiting.trans (.of_books (countGood_books p _))).thenSteps (steps f _))
    fun _ => (waiting.trans (countCheckError_follows p _)).steps

theorem dispatchWrite_steps (c : Sender) (p : List Byte) (s : State) : State.Steps s (dispatchWrite c p s) := by
  unfold dispatchWrite
  split
  · split
    · exact nodeWrite_steps c _ _ s
    · exact buttonWrite_steps c _ _ s
    · exact cueWrite_steps c _ _ s
    · exact profileWrite_steps c _ _ s
    · exact modelWrite_steps c _ _ s
    · exact routeWrite_steps c _ _ s
    · exact patternWrite_steps c _ _ s
    · exact settingsWrite_steps c _ _ s
  · exact badTable_steps c _ s

theorem dispatchControl_steps (c : Sender) (p : List Byte) (s : State) : State.Steps s (dispatchControl c p s) := by
  unfold dispatchControl
  split
  · exact badCommand_steps c _ s
  · split
    · exact enable_steps c _ s
    · exact disable_steps c _ s
    · exact commit_steps c _ s
    · exact steps_ite (fun _ => cueStartScheduled_steps c _ s) fun _ => cueStart_steps c _ s
    · exact cueStop_steps c _ s
    · exact modeChange_steps c _ s
    · exact showSync_steps c _ s
    · exact clearFault_steps c _ s
    · exact resume_steps c _ s
    · exact steps_ite (fun _ => statusQueryClear_steps c _ s) fun _ => statusQuery_steps c _ s
    · exact restart_steps c _ s
    · exact badCommand_steps c _ s

theorem classifySpine_steps (f : Frame) (s : State) : State.Steps s (classifySpine f s) := by
  refine (spineHeard_follows s).thenSteps ?_
  have relayed {t : State} (same : t.books = (spineHeard s).books) : State.Steps (spineHeard s) t :=
    (State.Follows.of_books same).steps
  have commands : State.Steps (spineHeard s) (dispatchCommand f (spineHeard s)) :=
    steps_ite (fun _ => dispatchWrite_steps _ _ _) fun _ => steps_ite (fun _ => tableRead_steps _ _ _) fun _ =>
      steps_ite (fun _ => dispatchControl_steps _ _ _) fun _ => steps_ite (fun _ => alertAck_steps _ _ _)
        fun _ => relayed rfl
  exact steps_ite (fun _ => relayed rfl) fun _ => steps_ite (fun _ => steps_ite (fun _ => commands)
    fun _ => steps_ite (fun _ => relayed (forwardDown_books _ _)) fun _ => relayed rfl) fun _ => relayed rfl

/-! ### Steps -/

theorem escalate_books (n : Nat) (s : State) : (escalate n s).books = s.books := rfl

/-- An outcome whose next state, if there is one, a step from `s` may have. -/
def OutcomeSteps (s : State) (o : Outcome) : Prop := ∀ t, o = .next t → State.Steps s t

theorem next_steps {s t : State} (h : State.Steps s t) : OutcomeSteps s (.next t) :=
  fun _ e => Host.Outcome.next.inj e ▸ h

theorem settled_steps {s t : State} (h : State.Steps s t) : State.Steps s (settle t) :=
  h.thenFollows (.of_books (settle_books t))

theorem act_steps {op : State → State} {s : State} (h : State.Steps s (op s)) : OutcomeSteps s (act op s) :=
  next_steps (steps_ite (fun _ => settled_steps h) fun _ => .refl s)

theorem act_follows {op : State → State} {s : State} (h : State.Follows s (op s)) : OutcomeSteps s (act op s) :=
  act_steps h.steps

theorem act_books {op : State → State} {s : State} (h : (op s).books = s.books) : OutcomeSteps s (act op s) :=
  act_follows (.of_books h)

theorem actOutOfReset_follows {op : State → State} {s : State} (h : State.Follows s (op s)) :
    OutcomeSteps s (actOutOfReset op s) :=
  next_steps (steps_ite (fun _ => settled_steps h.steps) fun _ => .refl s)

theorem actAlways_steps {op : State → State} {s : State} (h : State.Steps s (op s)) :
    OutcomeSteps s (actAlways op s) := next_steps (settled_steps h)

theorem exec_steps (i : Instr) (s : State) : OutcomeSteps s (exec i s) := by
  cases i with
  | hardReset b r stop ack => exact actAlways_steps (hardReset_steps b r stop ack s)
  | softReset stop ack =>
    rw [exec_softReset]
    exact act_steps (softReset_steps _ s)
  | stopKeyAsserted => exact actOutOfReset_follows (stopAsserts_follows s)
  | stopKeyReleased => exact act_follows (stopReleases_follows s)
  | ackKeyPressed => exact act_books (ackPressed_books s)
  | ackKeyLetGo => exact act_books (ackLetGo_books s)
  | ackPressTimerExpiry => exact act_follows (ackHeld_follows s)
  | receiverGapTimeout p => exact act_follows (abandon_follows p _ s)
  | framingError p => exact act_follows (abandon_follows p _ s)
  | receiverIdleTimeout p => exact act_books (lineIdle_books p s)
  | bayFrameReceived f => exact act_steps (receive_steps (fun f t => (classifyBay_follows f t).steps) f s)
  | panel n d hello => exact act_follows (takePanel_follows n d hello s)
  | feedback n entries => exact act_follows (takeFeedback_follows n entries s)
  | presence n occupied => exact act_follows (takePresence_follows n occupied s)
  | ringCheckReturn => exact act_follows (ringReturn_follows s)
  | spineFrameReceived f => exact act_steps (receive_steps classifySpine_steps f s)
  | nodeWrite c i r => exact act_steps (nodeWrite_steps c i r s)
  | buttonWrite c i r => exact act_steps (buttonWrite_steps c i r s)
  | cueWrite c i r => exact act_steps (cueWrite_steps c i r s)
  | profileWrite c i r => exact act_steps (profileWrite_steps c i r s)
  | modelWrite c i r => exact act_steps (modelWrite_steps c i r s)
  | routeWrite c i r => exact act_steps (routeWrite_steps c i r s)
  | patternWrite c i r => exact act_steps (patternWrite_steps c i r s)
  | settingsWrite c i r => exact act_steps (settingsWrite_steps c i r s)
  | badTable c p => exact act_steps (badTable_steps c p s)
  | tableRead c p => exact act_steps (tableRead_steps c p s)
  | enable c a => exact act_steps (enable_steps c a s)
  | disable c a => exact act_steps (disable_steps c a s)
  | commit c a => exact act_steps (commit_steps c a s)
  | cueStart c a => exact act_steps (cueStart_steps c a s)
  | cueStartScheduled c a => exact act_steps (cueStartScheduled_steps c a s)
  | cueStop c a => exact act_steps (cueStop_steps c a s)
  | mode c a => exact act_steps (modeChange_steps c a s)
  | showSync c a => exact act_steps (showSync_steps c a s)
  | clearFault c a => exact act_steps (clearFault_steps c a s)
  | resume c a => exact act_steps (resume_steps c a s)
  | statusQuery c a => exact act_steps (statusQuery_steps c a s)
  | statusQueryClear c a => exact act_steps (statusQueryClear_steps c a s)
  | restart c a => exact act_steps (restart_steps c a s)
  | alertAck c p => exact act_steps (alertAck_steps c p s)
  | bayOutFrameSent => exact act_books (bayLeft_books s)
  | spineOutFrameSent => exact act_steps (spineLeft_steps s)
  | sampleTimerExpiry => exact act_follows (sampleExpiry_follows s)
  | modelFreeNotice m => exact actOutOfReset_follows (takeFreeNotice_follows m s)
  | scheduleEntryDue => exact act_follows (nextDue_follows s)
  | lateCountdownExpiry m => exact act_follows (lateExpires_follows m s)
  | pauseWindowExpiry m => exact act_follows (pauseWindowEnds_follows m s)
  | holdLimitExpiry m => exact act_follows (holdLimitEnds_follows m s)
  | stuckTimerExpiry k => exact act_follows (stuckExpires_follows k s)
  | lockoutEnd k => exact act_books (lockoutEnds_books k s)
  | requestExpiry m k => exact act_follows (requestExpires_follows m k s)
  | refreshTimerExpiry n => exact act_books (refreshEnds_books n s)
  | nodeSilenceExpiry n => exact act_follows (nodeSilenceEnds_follows n s)
  | driveSilenceExpiry m => exact act_follows (driveSilenceEnds_follows m s)
  | zoneSettleExpiry z => exact act_follows (settleEnds_follows z s)
  | spineSilenceExpiry => exact act_follows (spineSilenceEnds_follows s)
  | ringCheckTimerExpiry => exact act_books (State.onRelay_books s _)
  | ringCheckMiss => exact act_follows (ringMiss_follows s)
  | bayCheckWindowEnd => exact act_follows (windowEnds_follows s)
  | escalationDeadlineExpiry n => exact act_books (escalate_books n.toNat s)
  | beaconPhaseEnd =>
    rw [exec_beaconPhaseEnd]
    exact act_books (State.onAlert_books s _)
  | dozeTimerExpiry => exact act_follows (dozeEnds_follows s)
  | wakeLimitExpiry => exact act_follows (wakeLimitEnds_follows s)
  | resetNLow =>
    rw [exec_resetNLow]
    exact actAlways_steps (hardResetHolds_steps _ s)
  | clkStop =>
    rw [exec_clkStop]
    exact actAlways_steps (State.Follows.of_books (State.onPins_books s _)).steps
  | clkResume =>
    rw [exec_clkResume]
    exact actAlways_steps (clkResumes_steps s)
  | badCommand c p => exact act_steps (badCommand_steps c p s)

theorem step_steps {s t : State} (run : step s = .next t) : State.Steps s t := by
  unfold step at run
  split at run
  · exact (State.Follows.of_books (State.withPending_books s _)).thenSteps (exec_steps _ _ t run)
  · cases run
    exact idle_steps s

/-- Settles O57: what each operation does to the schedule list, the wait lists and the tallies, command by command. Most
only take entries out of the lists and count them; a moving clock keeps the order of what it has not reached, because
that is half of the circle of clock values. -/
theorem stepKeepsTheListsAndTheBalance : Obligations.StepKeepsTheListsAndTheBalance := by
  intro s t schedule lists balanced run
  obtain ⟨keeps, order⟩ := step_steps run
  obtain ⟨tidy, shut⟩ := s.tidy_shut_iff.mpr ⟨schedule, lists, fun _ => balanced⟩
  obtain ⟨schedule', lists', even'⟩ := t.tidy_shut_iff.mp (keeps ⟨tidy, shut⟩)
  exact ⟨schedule', lists', even', order tidy⟩

end Sys2Proof.Machine

/-! ## A CUE_START with a start time (O38) -/

namespace Sys2Proof.Machine

/-! ### A state with another schedule list -/

/-- A state that differs from another in its schedule list and the doze timer at most. -/
structure State.Relisted (s : State) (l : List ScheduleEntry) (t : State) : Prop where
  motion : t.motion = { s.motion with schedule := l }
  alert : t.alert = s.alert
  press : t.press = s.press
  relay : t.relay = s.relay
  sup : t.sup = s.sup
  gallery : t.gallery = s.gallery

@[simp] theorem quietTest_relay (b : Bool) (s : State) : (quietTest b s).relay = s.relay := by
  obtain ⟨q, h, -⟩ := quietTest_eq b s; rw [h]

namespace State.Relisted

theorem refl (s : State) : s.Relisted s.motion.schedule s := ⟨rfl, rfl, rfl, rfl, rfl, rfl⟩

variable {s t : State} {l : List ScheduleEntry} (h : s.Relisted l t)
include h

theorem schedule : t.motion.schedule = l := by rw [h.motion]

theorem clock : t.clock = s.clock := by rw [State.clock, h.motion]; rfl

theorem model (m : ModelId) : t.model m = s.model m := by rw [State.model, h.motion]; rfl

theorem cueValid (c : CueId) : t.cueValid c = s.cueValid c := by
  simp only [State.cueValid, State.cue, State.profile, h.motion]

theorem startPosition (c : ModelConfig) (q : CueId) (last : Int) :
    t.startPosition c q last = s.startPosition c q last :=
  State.startPosition_congr (funext fun _ => by rw [State.cue, h.motion]; rfl)
    (funext fun _ => by rw [State.profile, h.motion]; rfl) c q last

theorem startable (m : ModelId) (o : Owner) : t.startable m o = s.startable m o := by
  simp only [State.startable, State.maskOccupied, State.zoneOccupied, h.model, h.sup, h.gallery]

theorem raise_alert (a : About) : (raise a t).alert = (raise a s).alert := raise_alert_congr a h.alert h.clock

theorem quietTest (b : Bool) : s.Relisted l (quietTest b t) :=
  ⟨(quietTest_motion b t).trans h.motion, (quietTest_alert b t).trans h.alert, (quietTest_press b t).trans h.press,
    (quietTest_relay b t).trans h.relay, (quietTest_sup b t).trans h.sup, (quietTest_gallery b t).trans h.gallery⟩

theorem onSchedule (f : List ScheduleEntry → List ScheduleEntry) :
    s.Relisted (f l) (t.onMotion fun q => { q with schedule := f q.schedule }) :=
  ⟨by rw [State.onMotion_motion, h.motion], h.alert, h.press, h.relay, h.sup, h.gallery⟩

theorem removeEntry (m : ModelId) : s.Relisted (l.filter fun e => e.model != m) (removeEntry m t) :=
  (h.onSchedule (·.filter fun e => e.model != m)).quietTest false

end State.Relisted

/-! ### Entries in a list -/

/-- R53: the entries of the other models are the list itself where the model has none. -/
theorem filter_others_of_new {l : List ScheduleEntry} {m : ModelId} (new : ∀ e ∈ l, e.model ≠ m) :
    (l.filter fun e => e.model != m) = l := List.filter_eq_self.mpr fun e member => by simpa using new e member

theorem filter_own_of_new {l : List ScheduleEntry} {m : ModelId} (new : ∀ e ∈ l, e.model ≠ m) :
    (l.filter fun e => e.model == m) = [] := List.filter_eq_nil_iff.mpr fun e member => by simpa using new e member

theorem ne_of_mem_others {l : List ScheduleEntry} {m : ModelId} :
    ∀ e ∈ l.filter fun e => e.model != m, e.model ≠ m := fun e member => by simpa using (List.mem_filter.mp member).2

/-- An entry in the middle of those of other models. -/
theorem filter_others_middle {e : ScheduleEntry} {a b : List ScheduleEntry} (new : ∀ x ∈ a ++ b, x.model ≠ e.model) :
    ((a ++ e :: b).filter fun x => x.model != e.model) = a ++ b := by
  rw [List.filter_append, List.filter_cons_of_neg (by simp), ← List.filter_append, filter_others_of_new new]

theorem filter_own_middle {e : ScheduleEntry} {a b : List ScheduleEntry} (new : ∀ x ∈ a ++ b, x.model ≠ e.model) :
    ((a ++ e :: b).filter fun x => x.model == e.model) = [e] := by
  have before := filter_own_of_new fun x member => new x (List.mem_append_left b member)
  have after := filter_own_of_new fun x member => new x (List.mem_append_right a member)
  rw [List.filter_append, List.filter_cons_of_pos (by simp), before, after, List.nil_append]

theorem find_own_middle {e : ScheduleEntry} {p : ScheduleEntry → Bool} {a b : List ScheduleEntry}
    (new : ∀ x ∈ a, x.model ≠ e.model) (own : p e = true) :
    (a ++ e :: b).find? (fun x => x.model == e.model && p x) = some e := by
  have none : a.find? (fun x => x.model == e.model && p x) = none :=
    List.find?_eq_none.mpr fun x member => by simp [new x member]
  rw [List.find?_append, none, List.find?_cons_of_pos (by simp [own]), Option.none_or]

section
variable {clock : Clock} {e : ScheduleEntry} {l : List ScheduleEntry} (new : ∀ x ∈ l, x.model ≠ e.model)
include new

theorem goesBefore_split_new :
    ∀ x ∈ l.takeWhile (e.goesBefore clock) ++ l.dropWhile (e.goesBefore clock), x.model ≠ e.model := by
  rwa [List.takeWhile_append_dropWhile]

/-- R53: the placing of an entry leaves those of the other models as they are. -/
theorem insertEntry_others : ((insertEntry clock e l).filter fun x => x.model != e.model) = l := by
  rw [insertEntry_eq, filter_others_middle (goesBefore_split_new new), List.takeWhile_append_dropWhile]

theorem insertEntry_own : ((insertEntry clock e l).filter fun x => x.model == e.model) = [e] := by
  rw [insertEntry_eq, filter_own_middle (goesBefore_split_new new)]

/-- R55: a placed entry that becomes due moves to the tail of the due ones. -/
theorem markDue_insertEntry : markDue e (insertEntry clock e l) = (l.filter fun x => x.due.isSome) ++
    { e with due := some (e.lateLimit * 1000) } :: l.filter fun x => x.due.isNone := by
  rw [markDue_eq, insertEntry_others new]

theorem find_insertEntry (undue : e.due = none) :
    (insertEntry clock e l).find? (fun x => x.model == e.model && x.due.isNone) = some e :=
  find_own_middle (p := fun x => x.due.isNone)
    (fun x member => goesBefore_split_new new x (List.mem_append_left _ member)) (by rw [undue]; rfl)

end

/-- R52: the place that the waits give is where the list is cut. -/
theorem insertEntry_of_split {clock : Clock} {e : ScheduleEntry} {before after : List ScheduleEntry}
    (first : ∀ x ∈ before, x.due.isSome = true ∨ waitOf clock x.start ≤ waitOf clock e.start)
    (later : ∀ x rest, after = x :: rest → x.due = none ∧ waitOf clock e.start < waitOf clock x.start) :
    insertEntry clock e (before ++ after) = before ++ e :: after := by
  have all : ∀ x ∈ before, e.goesBefore clock x = true := fun x member => by
    simpa [ScheduleEntry.goesBefore] using first x member
  have none : after.takeWhile (e.goesBefore clock) = [] ∧ after.dropWhile (e.goesBefore clock) = after := by
    cases after with
    | nil => exact ⟨rfl, rfl⟩
    | cons x rest =>
      obtain ⟨undue, longer⟩ := later x rest rfl
      have stops : e.goesBefore clock x = false := by simpa [ScheduleEntry.goesBefore, undue] using longer
      exact ⟨List.takeWhile_cons_of_neg (by simp [stops]), List.dropWhile_cons_of_neg (by simp [stops])⟩
  rw [insertEntry_eq, List.takeWhile_append_of_pos all, List.dropWhile_append_of_pos all, none.1, none.2,
    List.append_nil]

/-! ### The entry that is placed becomes due -/

theorem missAtOnce_of_late {e : ScheduleEntry} (late : e.lateLimit ≠ 0) (s : State) : missAtOnce e s = s := if_neg late

/-- R57: a miss finds nothing where the model's entry has left the list. -/
theorem missAtOnce_of_gone {e : ScheduleEntry} {s : State} (gone : ∀ x ∈ s.motion.schedule, x.model ≠ e.model) :
    missAtOnce e s = s := by
  have none : s.dueEntry e.model = none := List.find?_eq_none.mpr fun x listed => by simp [gone x listed]
  unfold missAtOnce lateExpires
  rw [none]
  split <;> rfl

theorem missAtOnce_of_due {e x : ScheduleEntry} {s : State} (late : e.lateLimit = 0)
    (due : s.dueEntry e.model = some x) : missAtOnce e s = raise (.startMissed e.model) (removeEntry e.model s) := by
  unfold missAtOnce lateExpires
  rw [if_pos late, due]

theorem serveEntry_of_start {m : ModelId} {c : CueId} {s : State} (free : s.startable m .control = true)
    (valid : s.cueValid c = true) (unseen : (s.model m).flagSeen = false) :
    (serveEntry m c s).1 = removeEntry m (startCue m c .control false s) := by
  have ok : s.verdict m c .control = .ok := by simp [verdict_of_startable free, valid, unseen]
  simp only [serveEntry, startRequest, ok]

theorem serveEntry_of_missed {m : ModelId} {c : CueId} {s : State} (free : s.startable m .control = true)
    (invalid : s.cueValid c = false) : (serveEntry m c s).1 = raise (.startMissed m) (removeEntry m s) := by
  have missed : s.verdict m c .control = .cueInvalid := by simp [verdict_of_startable free, invalid]
  simp only [serveEntry, startRequest, missed]

section
variable {s t : State} {e : ScheduleEntry} {others : List ScheduleEntry}
  (placed : s.Relisted (insertEntry s.clock e others) t) (new : ∀ x ∈ others, x.model ≠ e.model) (undue : e.due = none)

/-- The state in which the placed entry has become due. -/
def dueState (e : ScheduleEntry) (t : State) : State :=
  quietTest false (t.onMotion fun q => { q with schedule := markDue e q.schedule })

include placed new

theorem dueState_relisted : s.Relisted ((others.filter fun x => x.due.isSome) ++
    { e with due := some (e.lateLimit * 1000) } :: others.filter fun x => x.due.isNone) (dueState e t) := by
  rw [← markDue_insertEntry (clock := s.clock) new]
  exact (placed.onSchedule (markDue e)).quietTest false

/-- The due entry leaves the list: those of the other models are left. -/
theorem dueState_removed (dueFirst : others.Pairwise fun a b => b.due.isSome = true → a.due.isSome = true) :
    s.Relisted others (removeEntry e.model (dueState e t)) := by
  have parts := filter_due_append dueFirst
  have rest := filter_others_middle (e := { e with due := some (e.lateLimit * 1000) })
    (a := others.filter fun x => x.due.isSome) (b := others.filter fun x => x.due.isNone) (by rw [parts]; exact new)
  have left := (dueState_relisted placed new).removeEntry e.model
  rwa [rest, parts] at left

include undue

theorem becomeDue_placed : becomeDue e.model t = if (dueState e t).startable e.model .control = true then
      missAtOnce e (serveEntry e.model e.cue (dueState e t)).1
    else withEntryTest (fun u => missAtOnce e (sendWake u)) (dueState e t) := by
  have waiting : t.waitingEntry e.model = some e := by
    rw [State.waitingEntry, placed.schedule, find_insertEntry new undue]
  unfold becomeDue
  rw [waiting]
  rfl

/-- R55: outside DOZE an entry that finds its model not startable stays due, or is missed. -/
theorem becomeDue_of_blocked (blocked : ¬ s.startable e.model .control = true) (awake : s.gallery ≠ .doze) :
    becomeDue e.model t = missAtOnce e (dueState e t) := by
  have marked := dueState_relisted placed new
  have awake : (dueState e t).gallery ≠ .doze := by rw [marked.gallery]; exact awake
  rw [becomeDue_placed placed new undue, marked.startable, if_neg blocked, withEntryTest, if_neg awake, sendWake,
    if_neg awake]

theorem becomeDue_of_late (blocked : ¬ s.startable e.model .control = true) (awake : s.gallery ≠ .doze)
    (late : e.lateLimit ≠ 0) : becomeDue e.model t = dueState e t := by
  rw [becomeDue_of_blocked placed new undue blocked awake, missAtOnce_of_late late]

/-- R57: with a late limit of 0 it is missed at once. -/
theorem becomeDue_of_missed (blocked : ¬ s.startable e.model .control = true) (awake : s.gallery ≠ .doze)
    (late : e.lateLimit = 0) :
    becomeDue e.model t = raise (.startMissed e.model) (removeEntry e.model (dueState e t)) := by
  have due : (dueState e t).dueEntry e.model = some { e with due := some (e.lateLimit * 1000) } := by
    rw [State.dueEntry, (dueState_relisted placed new).schedule]
    exact find_own_middle (e := { e with due := some (e.lateLimit * 1000) }) (p := fun x => x.due.isSome)
      (fun x member => new x (List.mem_of_mem_filter member)) rfl
  rw [becomeDue_of_blocked placed new undue blocked awake, missAtOnce_of_due late due]

theorem becomeDue_of_start (free : s.startable e.model .control = true) (valid : s.cueValid e.cue = true)
    (unseen : (s.model e.model).flagSeen = false) :
    becomeDue e.model t = removeEntry e.model (startCue e.model e.cue .control false (dueState e t)) := by
  have marked := dueState_relisted placed new
  rw [becomeDue_placed placed new undue, marked.startable, if_pos free,
    serveEntry_of_start (by rw [marked.startable]; exact free) (by rw [marked.cueValid]; exact valid)
      (by rw [marked.model]; exact unseen)]
  refine missAtOnce_of_gone fun x member => ?_
  rw [removeEntry_motion] at member
  exact ne_of_mem_others x member

theorem becomeDue_of_invalid (free : s.startable e.model .control = true) (invalid : s.cueValid e.cue = false) :
    becomeDue e.model t = raise (.startMissed e.model) (removeEntry e.model (dueState e t)) := by
  have marked := dueState_relisted placed new
  rw [becomeDue_placed placed new undue, marked.startable, if_pos free,
    serveEntry_of_missed (by rw [marked.startable]; exact free) (by rw [marked.cueValid]; exact invalid)]
  refine missAtOnce_of_gone fun x member => ?_
  rw [raise_motion, removeEntry_motion] at member
  exact ne_of_mem_others x member

end

/-! ### The command -/

/-- A clock value is read back from its four bytes. -/
theorem of32_le32 (w : Clock) :
    of32 (w.extractLsb' 0 8) (w.extractLsb' 8 8) (w.extractLsb' 16 8) (w.extractLsb' 24 8) = w := by
  unfold of32
  rw [BitVec.extractLsb'_append_extractLsb'_eq_extractLsb' (start₁ := 16) (len₁ := 8) rfl,
    BitVec.extractLsb'_append_extractLsb'_eq_extractLsb' (start₁ := 8) (len₁ := 8) rfl,
    BitVec.extractLsb'_append_extractLsb'_eq_extractLsb' (start₁ := 0) (len₁ := 8) rfl]
  exact BitVec.extractLsb'_eq_self

/-- R51, R53: a CUE_START that names a model, a cue, a late limit and a start time. -/
theorem startLater_eq (m : ModelId) (q : CueId) (late : Byte) (start : Clock) (s : State) :
    startLater ([byteOf m.val, byteOf q.val, late] ++ le32 start) s = scheduleStart m q start late.toNat s := by
  have named : cueArgs ([byteOf m.val, byteOf q.val, late] ++ le32 start) = some (m, q) := by
    simp only [cueArgs, natAt, byteAt, List.cons_append, List.getD_cons_zero, List.getD_cons_succ, modelOf_byte,
      byteOf_toNat (show q.val < 256 by omega), indexBelow_of_fin]
    rfl
  have time : clockAt ([byteOf m.val, byteOf q.val, late] ++ le32 start) 3 = start := of32_le32 start
  unfold startLater
  rw [if_neg (by simp [le32]), named, time]
  rfl

theorem startLater_bad {bad : List Byte} (h : bad.length ≠ 7 ∨ 12 ≤ natAt bad 0 ∨ 32 ≤ natAt bad 1) (s : State) :
    startLater bad s = (s, badArgs) := by
  unfold startLater
  split
  · rfl
  · rename_i length
    have args : cueArgs bad = none := by
      unfold cueArgs indexBelow
      rcases h.resolve_left length with e | e
      · simp [e]
      · by_cases m : natAt bad 0 < 12 <;> simp [m, e]
    rw [args]

/-- Whether the schedule list holds an entry of a model. -/
def State.lists (s : State) (m : ModelId) : Bool := s.motion.schedule.any fun e => e.model == m

/-- The entries of the other models. -/
def State.others (s : State) (m : ModelId) : List ScheduleEntry := s.motion.schedule.filter fun e => e.model != m

theorem lists_iff (s : State) (m : ModelId) : s.lists m = true ↔ ∃ e ∈ s.motion.schedule, e.model = m := by
  simp [State.lists]

theorem others_of_unlisted {s : State} {m : ModelId} (unlisted : s.lists m = false) :
    s.others m = s.motion.schedule := filter_others_of_new fun e listed own => by
  rw [(lists_iff s m).mpr ⟨e, listed, own⟩] at unlisted; cases unlisted

/-- R53: the state in which an entry is placed, in the place of the one its model has. -/
def State.placing (s : State) (e : ScheduleEntry) : State :=
  (if s.lists e.model then removeEntry e.model s else s).onMotion fun q => { q with
    schedule := insertEntry s.clock e q.schedule }

theorem placing_relisted (s : State) (e : ScheduleEntry) :
    s.Relisted (insertEntry s.clock e (s.others e.model)) (s.placing e) := by
  have left : s.Relisted (s.others e.model) (if s.lists e.model then removeEntry e.model s else s) := by
    split
    · exact (State.Relisted.refl s).removeEntry e.model
    · rename_i unlisted
      rw [others_of_unlisted (Bool.eq_false_of_not_eq_true unlisted)]
      exact .refl s
  exact left.onSchedule (insertEntry s.clock e)

section
variable {m : ModelId} {q : CueId} {start : Clock} {late : Nat} {s : State}

theorem scheduleStart_of_disabled (out : (s.model m).state = .disabled) :
    scheduleStart m q start late s = (s, (.notReady, 0)) := if_pos out

variable (service : (s.model m).state ≠ .disabled)
include service

theorem scheduleStart_of_full (unlisted : s.lists m = false) (full : 8 ≤ s.motion.schedule.length) :
    scheduleStart m q start late s = (s, (.listFull, 0)) := by
  have fails : (!(s.motion.schedule.any fun e => e.model == m) &&
      decide (Config.scheduleDepth ≤ s.motion.schedule.length)) = true := by
    rw [Bool.and_eq_true, Bool.not_eq_true']
    exact ⟨unlisted, decide_eq_true full⟩
  unfold scheduleStart
  rw [if_neg service]
  exact if_pos fails

/-- R53, R54: a placed entry is answered with the list's length; one already reached becomes due. -/
theorem scheduleStart_of_room (room : s.lists m = true ∨ s.motion.schedule.length < 8) :
    scheduleStart m q start late s =
      (if reached s.clock start = true then becomeDue m (s.placing ⟨m, q, start, late, none⟩)
        else s.placing ⟨m, q, start, late, none⟩,
      (if s.lists m then .replaced else .ok, BitVec.ofNat 16 ((s.others m).length + 1))) := by
  have passes : ¬ (!(s.motion.schedule.any fun e => e.model == m) &&
      decide (Config.scheduleDepth ≤ s.motion.schedule.length)) = true := by
    rw [Bool.and_eq_true, Bool.not_eq_true', decide_eq_true_eq]
    rintro ⟨unlisted, full⟩
    rcases room with listed | short
    · exact absurd listed (by rw [State.lists, unlisted]; decide)
    · exact absurd full (not_le.mpr short)
  have length : (s.placing ⟨m, q, start, late, none⟩).motion.schedule.length = (s.others m).length + 1 := by
    rw [(placing_relisted s _).schedule, (insertEntry_perm _ _ _).length_eq, List.length_cons]
  rw [← length]
  unfold scheduleStart
  rw [if_neg service]
  exact if_neg passes

end

/-- R33: a start from a list in which its model's entry is due takes the entry out. -/
theorem start_relisted_motion {s t : State} {l : List ScheduleEntry} {m : ModelId} (h : s.Relisted l t)
    (idle : (s.model m).state = .idle) (q : CueId) : (removeEntry m (startCue m q .control false t)).motion =
      { s.motion with
        schedule := l.filter fun e => e.model != m
        models := tput s.motion.models m { s.model m with
          state := .running, owner := some .control
          position := some (s.startPosition (s.model m).config q (s.model m).lastSetpoint) } } := by
  have started : (startCue m q .control false t).motion = { t.motion with
      models := tput t.motion.models m { t.model m with
        state := .running, owner := some .control
        position := some (t.startPosition (t.model m).config q (t.model m).lastSetpoint) } } := by
    rw [startCue_of_idle (by rw [h.model]; exact idle)]
    rfl
  rw [removeEntry_motion, started, h.model, h.startPosition, h.motion]

/-- A start of an IDLE model leaves the other blocks as they are. -/
theorem start_relisted_rest {s t : State} {l : List ScheduleEntry} {m : ModelId} (h : s.Relisted l t)
    (idle : (s.model m).state = .idle) (q : CueId) :
    (removeEntry m (startCue m q .control false t)).alert = s.alert ∧
    (removeEntry m (startCue m q .control false t)).press = s.press ∧
    (removeEntry m (startCue m q .control false t)).sup = s.sup := by
  rw [removeEntry_alert, removeEntry_press, removeEntry_sup, startCue_of_idle (by rw [h.model]; exact idle)]
  exact ⟨h.alert, h.press, h.sup⟩

/-- R57: a miss in a list without the entry: START_MISSED is raised. -/
theorem missed_relisted {s t : State} {l : List ScheduleEntry} (h : s.Relisted l t) (m : ModelId) :
    (raise (.startMissed m) t).motion = { s.motion with schedule := l } ∧
    (raise (.startMissed m) t).alert = (raise (.startMissed m) s).alert ∧
    (raise (.startMissed m) t).press = s.press ∧ (raise (.startMissed m) t).sup = s.sup := by
  rw [raise_motion, raise_press, raise_sup]
  exact ⟨h.motion, h.raise_alert _, h.press, h.sup⟩

/-- R52: the state in which a model's first entry is placed, where the waits say the list is cut. -/
theorem placing_of_split {s : State} {e : ScheduleEntry} {before after : List ScheduleEntry}
    (unlisted : s.lists e.model = false) (split : s.motion.schedule = before ++ after)
    (first : ∀ x ∈ before, x.due.isSome = true ∨ waitOf s.clock x.start ≤ waitOf s.clock e.start)
    (later : ∀ x rest, after = x :: rest → x.due = none ∧ waitOf s.clock e.start < waitOf s.clock x.start) :
    s.placing e = { s with motion := { s.motion with schedule := before ++ e :: after } } := by
  rw [State.placing, if_neg (by rw [unlisted]; decide), State.onMotion, split, insertEntry_of_split first later]

/-- R54, R55, R57: what becomes of an entry that is placed when its start time is already reached. -/
theorem becomeDue_placing {s : State} {e : ScheduleEntry} (undue : e.due = none) (wf : s.ScheduleWf) :
    (s.startable e.model .control = true → s.cueValid e.cue = true → (s.model e.model).flagSeen = false →
      (becomeDue e.model (s.placing e)).motion = { s.motion with
        schedule := s.others e.model
        models := tput s.motion.models e.model { s.model e.model with
          state := .running, owner := some .control
          position := some (s.startPosition (s.model e.model).config e.cue (s.model e.model).lastSetpoint) } } ∧
      (becomeDue e.model (s.placing e)).alert = s.alert ∧ (becomeDue e.model (s.placing e)).press = s.press ∧
      (becomeDue e.model (s.placing e)).sup = s.sup) ∧
    ((s.startable e.model .control = true ∧ s.cueValid e.cue = false) ∨
        (¬ s.startable e.model .control = true ∧ s.gallery ≠ .doze ∧ e.lateLimit = 0) →
      (becomeDue e.model (s.placing e)).motion = { s.motion with schedule := s.others e.model } ∧
      (becomeDue e.model (s.placing e)).alert = (raise (.startMissed e.model) s).alert ∧
      (becomeDue e.model (s.placing e)).press = s.press ∧ (becomeDue e.model (s.placing e)).sup = s.sup) ∧
    (¬ s.startable e.model .control = true → s.gallery ≠ .doze → e.lateLimit ≠ 0 →
      s.Relisted ((s.others e.model).filter (fun x => x.due.isSome) ++
        { e with due := some (e.lateLimit * 1000) } :: (s.others e.model).filter fun x => x.due.isNone)
        (becomeDue e.model (s.placing e))) := by
  have placed := placing_relisted s e
  have new : ∀ x ∈ s.others e.model, x.model ≠ e.model := ne_of_mem_others
  have marked := dueState_relisted placed new
  have removed := dueState_removed placed new (wf.dueFirst.sublist List.filter_sublist)
  refine ⟨fun free valid unseen => ?_, fun missed => ?_, fun blocked awake late => ?_⟩
  · obtain ⟨idle, -⟩ := (startable_iff s e.model).mp free
    have left := (marked.removeEntry e.model).schedule.symm.trans removed.schedule
    rw [becomeDue_of_start placed new undue free valid unseen]
    exact ⟨by rw [start_relisted_motion marked idle, left], start_relisted_rest marked idle e.cue⟩
  · have gone : becomeDue e.model (s.placing e) =
        raise (.startMissed e.model) (removeEntry e.model (dueState e (s.placing e))) := by
      rcases missed with ⟨free, invalid⟩ | ⟨blocked, awake, late⟩
      · exact becomeDue_of_invalid placed new undue free invalid
      · exact becomeDue_of_missed placed new undue blocked awake late
    rw [gone]
    exact missed_relisted removed e.model
  · rw [becomeDue_of_late placed new undue blocked awake late]
    exact marked

/-- Settles O38: the entry is placed among those of the other models; where its start time is reached it becomes due at
once, and the branches of that are those of the test of the model, of the cue and of the late limit. -/
theorem scheduledStartIsListed : Obligations.ScheduledStartIsListed := by
  intro c m q late start s carried args listed wait
  have done {t : State} {r : Result} {d : Half} (e : scheduleStart m q start late.toNat s = (t, (r, d))) :
      exec (.cueStartScheduled c args) s = .next (settle (t.answeredWith c (controlReply 0x04 r d))) :=
    act_control (body := startLater args) carried (by rw [startLater_eq, e])
  have unlisted (h : ¬ listed) : s.lists m = false := Bool.eq_false_of_not_eq_true fun e => h ((lists_iff s m).mp e)
  let e : ScheduleEntry := ⟨m, q, start, late.toNat, none⟩
  have placed : s.Relisted (insertEntry s.clock e (s.others m)) (s.placing e) := placing_relisted s e
  have new : ∀ x ∈ s.others m, x.model ≠ e.model := ne_of_mem_others
  refine ⟨fun out => done (scheduleStart_of_disabled out),
    fun service absent full => done (scheduleStart_of_full service (unlisted absent) full),
    fun service absent short unreached before after split first later => ?_, fun service present unreached => ?_,
    fun service room isReached wf => ?_, fun bad h => act_control carried (startLater_bad h s)⟩
  · have unreached : reached s.clock start = false := decide_eq_false unreached
    have answer := done (scheduleStart_of_room service (.inr short))
    rw [unreached, unlisted absent, others_of_unlisted (unlisted absent)] at answer
    rw [← placing_of_split (e := e) (unlisted absent) split first later]
    exact answer
  · have unreached : reached s.clock start = false := decide_eq_false unreached
    have present : s.lists m = true := (lists_iff s m).mpr present
    have answer := done (scheduleStart_of_room service (.inl present))
    rw [unreached, present] at answer
    refine ⟨s.placing e, answer, ?_, ?_, by rw [placed.motion], placed.alert, placed.press, placed.relay, placed.sup⟩
    · rw [placed.schedule]; exact insertEntry_others new
    · rw [placed.schedule]; exact insertEntry_own new
  · have isReached : reached s.clock start = true := decide_eq_true isReached
    have answer := done (scheduleStart_of_room service (room.imp_left (lists_iff s m).mpr))
    rw [isReached] at answer
    obtain ⟨starts, missed, stays⟩ := becomeDue_placing (s := s) (e := e) rfl wf
    refine ⟨becomeDue m (s.placing e), answer, starts, fun free invalid => missed (.inl ⟨free, invalid⟩),
      fun blocked awake late' => ?_, fun blocked awake late' => missed (.inr ⟨blocked, awake, ?_⟩)⟩
    · obtain ⟨motion, alert, press, -, sup, -⟩ := stays blocked awake fun zero => late' (BitVec.eq_of_toNat_eq zero)
      exact ⟨motion, alert, press, sup⟩
    · exact congrArg BitVec.toNat late'

end Sys2Proof.Machine

/-! ## Buttons: their entries, their stuck condition and their timers (R69 to R71, R85) -/

namespace Sys2Proof.Machine

/-! ### The entry of a key -/

/-- A key's entry holds the key. -/
theorem key_of_entryOf {s : State} {k : Key} {i : EntryIx} {b : Button} (mapped : s.entryOf k = some i)
    (entry : s.entry i = some b) : b.key = k := by
  have holds := List.find?_some mapped
  simpa [entry] using holds

/-- A table whose entry is replaced twice. -/
@[simp] theorem tput_tput {α : Type} {n : Nat} (v : Vector α n) (i : Fin n) (x y : α) :
    tput (tput v i x) i y = tput v i y := table_ext fun j => by simp only [tget_tput]; split <;> rfl

theorem modEntry_of_entry {s : State} {i : EntryIx} {b : Button} (entry : s.entry i = some b) (f : Button → Button) :
    s.modEntry i f = { s with press := { s.press with buttons := tput s.press.buttons i (some (f b)) } } := by
  have read : tget s.press.buttons i = some b := entry
  simp only [State.modEntry, State.onPress, tmod, read, Option.map_some]

/-! ### Conditions that trip no model -/

theorem FaultTable.modify_modify (t : FaultTable) (id : FaultId) (f g : Marks → Marks) :
    (t.modify id f).modify id g = t.modify id (g ∘ f) := by
  have twice {α : Type} {n : Nat} (v : Vector α n) (i : Fin n) (f g : α → α) :
      tmod (tmod v i f) i g = tmod v i (g ∘ f) := by simp [tmod]
  cases id <;> simp [FaultTable.modify, twice, Function.comp_def]

theorem State.modMarks_modMarks (s : State) (id : FaultId) (f g : Marks → Marks) :
    (s.modMarks id f).modMarks id g = s.modMarks id (g ∘ f) := by
  simp only [State.modMarks, State.onSup, FaultTable.modify_modify]

/-- R112: a condition that is not true is not active. -/
theorem report_false (id : FaultId) (s : State) : report id false s = quench id s := State.modMarks_modMarks s id _ _

/-- R112, R114: a true condition that trips no model is active where it is detected, and newly active it is latched and
raised. -/
theorem report_true_of_no_trip {id : FaultId} (trips : id.tripModel = none) (s : State) : report id true s =
    if s.detects id = false then s.modMarks id fun x => ⟨true, false, x.latched⟩
    else if (s.marks id).active = true then s.modMarks id fun x => { x with underlying := true }
    else raise (.fault id) (s.modMarks id fun _ => ⟨true, true, true⟩) := by
  have latches : id.byReport = false := by
    cases id with
    | model kind m => cases kind <;> simp [FaultId.tripModel, FaultId.byReport, ModelKind.trips] at trips ⊢
    | _ => rfl
  have detects (f : Marks → Marks) : (s.modMarks id f).detects id = s.detects id := rfl
  unfold report activate latchAndRaise
  simp only [detects, latches, trips, State.modMarks_modMarks]
  cases s.detects id <;> cases (s.marks id).active <;> rfl

/-- Such a report touches the fault table and the Alert Unit only. -/
theorem report_eq_of_no_trip {id : FaultId} (trips : id.tripModel = none) (v : Bool) (s : State) : report id v s =
    { s with sup := { s.sup with faults := (report id v s).sup.faults }, alert := (report id v s).alert } := by
  cases v
  · rw [report_false]; rfl
  · rw [report_true_of_no_trip trips]
    split
    · rfl
    · split
      · rfl
      · rw [raise_eq]; rfl

/-! ### Requests that leave their list -/

theorem filter_key_of_not_waiting {s : State} {k : Key} {m : ModelId} (absent : s.isWaiting k m = false) :
    ((s.waits m).filter fun r => r.key != k) = s.waits m :=
  List.filter_eq_self.mpr fun r member => by
    have others : ∀ r ∈ s.waits m, r.key ≠ k := by simpa [State.isWaiting] using absent
    simpa using others r member

theorem isWaiting_iff (s : State) (k : Key) (m : ModelId) :
    s.isWaiting k m = true ↔ ∃ r ∈ s.waits m, r.key = k := by
  simp [State.isWaiting]

/-- R71, R75: a flush of one button's request touches its list and the tallies, and Mode Control's timer. -/
theorem flushKey_press (k : Key) (m : ModelId) (s : State) : (flushKey k m s).press = { s.press with
    waits := tput s.press.waits m ((s.waits m).filter fun r => r.key != k)
    tallies := if s.isWaiting k m then { s.press.tallies with flushed := addTally 1 s.press.tallies.flushed }
      else s.press.tallies } := by
  unfold flushKey
  split
  · rw [quietTest_press]; rfl
  · rename_i absent
    rw [filter_key_of_not_waiting (Bool.eq_false_of_not_eq_true absent), State.waits, tput_tget]

@[simp] theorem flushKey_motion (k : Key) (m : ModelId) (s : State) : (flushKey k m s).motion = s.motion := by
  unfold flushKey; split <;> simp

@[simp] theorem flushKey_sup (k : Key) (m : ModelId) (s : State) : (flushKey k m s).sup = s.sup := by
  unfold flushKey; split <;> simp

@[simp] theorem flushKey_alert (k : Key) (m : ModelId) (s : State) : (flushKey k m s).alert = s.alert := by
  unfold flushKey; split <;> simp

@[simp] theorem flushKey_marks (k : Key) (m : ModelId) (s : State) (id : FaultId) :
    (flushKey k m s).marks id = s.marks id := congrArg (fun q => q.faults.get id) (flushKey_sup k m s)

/-! ### The ends of the timers -/

theorem stuckSuspended_iff (s : State) (b : Button) :
    s.stuckSuspended b = true ↔ b.mode = .hold ∧ s.ownsCue b.key b.modelId = true := by
  simp [State.stuckSuspended]

section
variable {s : State} {k : Key} {i : EntryIx} {b : Button} (mapped : s.entryOf k = some i) (entry : s.entry i = some b)
include mapped entry

theorem lockoutEnds_of_entry : lockoutEnds k s = { s with press := { s.press with
    buttons := tput s.press.buttons i (some { b with lockoutTimer := none }) } } := by
  rw [lockoutEnds, mapped]
  exact modEntry_of_entry entry _

/-- R70, R71: a stuck timer expires where it runs and is not suspended. -/
theorem stuckExpires_of_entry : stuckExpires k s =
    if b.stuckTimer.isSome = true ∧ ¬ (b.mode = .hold ∧ s.ownsCue k b.modelId = true) then
      flushKey k b.modelId (report (.buttonStuck k) true { s with press := { s.press with
        buttons := tput s.press.buttons i (some { b with stuckTimer := none, suspect := true }) } })
    else s := by
  have key := key_of_entryOf mapped entry
  have test : (b.stuckTimer.isSome && !s.stuckSuspended b) = true ↔
      b.stuckTimer.isSome = true ∧ ¬ (b.mode = .hold ∧ s.ownsCue k b.modelId = true) := by
    rw [Bool.and_eq_true, Bool.not_eq_true', ← Bool.not_eq_true, stuckSuspended_iff, key]
  rw [← modEntry_of_entry entry fun b => { b with stuckTimer := none, suspect := true }]
  unfold stuckExpires
  rw [mapped]
  dsimp only
  rw [entry]
  simp only [test]

end

/-- R85: the end of a refresh timer. -/
theorem refreshEnds_of_running {s : State} {n : NodeId} (timer : (tget s.press.refresh n).isSome = true) :
    refreshEnds n s = { s with press := { s.press with
      refresh := tput s.press.refresh n none
      dirty := if (s.node n).role = .panel then tput s.press.dirty n true else s.press.dirty } } := by
  have role : ((s.onPress fun q => { q with refresh := tput q.refresh n none }).node n).role = (s.node n).role := rfl
  rw [refreshEnds, if_pos timer, markDirty, role]
  by_cases panel : (s.node n).role = .panel
  · rw [if_pos panel, if_pos panel]; rfl
  · rw [if_neg panel, if_neg panel]; rfl

/-- R71, R112, R114: the marks of BUTTON_STUCK where a button has become stuck. -/
theorem reportStuck_marks (k : Key) (s : State) :
    ((report (.buttonStuck k) true s).marks (.buttonStuck k)).underlying = true ∧
    ((report (.buttonStuck k) true s).marks (.buttonStuck k)).active = (s.route 6).detect ∧
    (∀ id, id ≠ .buttonStuck k → (report (.buttonStuck k) true s).marks id = s.marks id) := by
  have detects : s.detects (.buttonStuck k) = (s.route 6).detect := rfl
  rw [report_true_of_no_trip rfl, detects]
  cases (s.route 6).detect <;> cases active : (s.marks (.buttonStuck k)).active <;>
    simp +contextual [active, State.modMarks_marks]

/-- R114, R130: newly stuck, the condition is latched and raised. -/
theorem reportStuck_new {k : Key} {s t : State} (detects : (s.route 6).detect = true)
    (new : (s.marks (.buttonStuck k)).active = false) (alert : s.alert = t.alert) (clock : s.clock = t.clock) :
    ((report (.buttonStuck k) true s).marks (.buttonStuck k)).latched = true ∧
    (report (.buttonStuck k) true s).alert = (raise (.fault (.buttonStuck k)) t).alert := by
  have on : s.detects (.buttonStuck k) = true := detects
  rw [report_true_of_no_trip rfl, if_neg (by simp [on]), if_neg (by simp [new])]
  exact ⟨by simp, raise_alert_congr _ alert clock⟩

/-- Settles O50: each of the three ends by whether its timer runs, and the stuck timer by whether it is suspended. -/
theorem buttonAndPanelTimersExpire : Obligations.ButtonAndPanelTimersExpire := by
  refine ⟨fun k s running => ⟨fun unmapped => ?_, fun i b mapped entry => ⟨?_, fun still => ?_, fun timer free => ?_⟩⟩,
    fun n s running => ⟨fun stopped => ?_, fun timer => ?_⟩⟩
  · rw [exec_lockoutEnd, exec_stuckTimerExpiry, act_of_running running, act_of_running running, lockoutEnds,
      stuckExpires, unmapped]
    exact ⟨rfl, rfl⟩
  · rw [exec_lockoutEnd, act_of_running running, lockoutEnds_of_entry mapped entry]
  · rw [exec_stuckTimerExpiry, act_of_running running, stuckExpires_of_entry mapped entry, if_neg]
    rintro ⟨runs, free⟩
    rcases still with none | suspended
    · simp [none] at runs
    · exact free suspended
  · let stuck : State := { s with press := { s.press with
      buttons := tput s.press.buttons i (some { b with stuckTimer := none, suspect := true }) } }
    let u := flushKey k b.modelId (report (.buttonStuck k) true stuck)
    have expires : stuckExpires k s = u := (stuckExpires_of_entry mapped entry).trans (if_pos ⟨timer, free⟩)
    have reported := report_eq_of_no_trip (id := .buttonStuck k) rfl true stuck
    have press : u.press = { stuck.press with
        waits := tput s.press.waits b.modelId ((s.waits b.modelId).filter fun r => r.key != k)
        tallies := if s.isWaiting k b.modelId then
            { s.press.tallies with flushed := addTally 1 s.press.tallies.flushed } else s.press.tallies } := by
      rw [flushKey_press, reported]; rfl
    obtain ⟨underlying, active, others⟩ := reportStuck_marks k stuck
    refine ⟨settle u, by rw [exec_stuckTimerExpiry, act_of_running running, expires], ?_, ?_, ?_, fun detects new => ?_,
      ?_, fun waits => ?_, fun absent => ?_, fun id other => ?_, ?_, ?_⟩
    · rw [settle_buttons, press]
    · rw [settle_marks, flushKey_marks, underlying]
    · rw [settle_marks, flushKey_marks, active]; rfl
    · obtain ⟨latched, alert⟩ := reportStuck_new (s := stuck) (t := s) detects new rfl rfl
      refine ⟨by rw [settle_marks, flushKey_marks, latched], settle_steady_alert ?_⟩
      rw [flushKey_alert, alert]
    · rw [settle_press_waits, press]
    · rw [settle_tallies, press, waits]; rfl
    · rw [settle_tallies, press, absent]; rfl
    · rw [settle_marks, flushKey_marks, others id other]; rfl
    · rw [settle_motion, flushKey_motion, reported]
    · exact settle_steady_relay ((State.relay_of_outer (flushKey_outer _ _ _)).trans
        (State.relay_of_outer (report_outer _ _ _)))
  · rw [exec_refreshTimerExpiry, act_of_running running, refreshEnds, if_neg (by simp [stopped])]
  · rw [exec_refreshTimerExpiry, act_of_running running, refreshEnds_of_running timer]

end Sys2Proof.Machine

/-! ## What no edge and no model-free notice touches

`State.backdrop` is what the Press Arbiter and the operations it sends leave alone once an edge is recorded: the
recorded sets, the show clock, the cues and profiles, the zones with what is reported of them, the STOP key and the
energised records. -/

namespace Sys2Proof.Machine

structure Backdrop where
  recorded : Vector (BitVec 16) 62
  clock : Clock
  cues : Vector (Option Cue) 32
  profiles : Vector (Option Profile) 64
  zones : Vector Zone 8
  reported : Vector (BitVec 8) 62
  stop : Bool
  energised : ModelId → Bool

def State.backdrop (s : State) : Backdrop :=
  ⟨s.press.recorded, s.motion.clock, s.motion.cues, s.motion.profiles, s.sup.zones, s.sup.reported,
    s.sup.stopAsserted, fun m => (s.watch m).energised⟩

@[simp] theorem State.setWaits_backdrop (s : State) (m : ModelId) (l : List Request) :
    (s.setWaits m l).backdrop = s.backdrop := rfl
@[simp] theorem State.onTallies_backdrop (s : State) (f : Tallies → Tallies) :
    (s.onTallies f).backdrop = s.backdrop := rfl
@[simp] theorem State.onMode_backdrop (s : State) (f : ModeControl → ModeControl) :
    (s.onMode f).backdrop = s.backdrop := rfl

@[simp] theorem quietTest_backdrop (b : Bool) (s : State) : (quietTest b s).backdrop = s.backdrop := by
  obtain ⟨q, h, -⟩ := quietTest_eq b s; rw [h]; rfl

@[simp] theorem raise_backdrop (a : About) (s : State) : (raise a s).backdrop = s.backdrop := by rw [raise_eq]; rfl

@[simp] theorem changeModel_recorded (m : ModelId) (f : Model → Model) (s : State) :
    (changeModel m f s).press.recorded = s.press.recorded := by
  rw [changeModel_press]
  split
  · rw [flushList_press]
  · rfl

/-- R102: a change of a model keeps every energised record. -/
theorem changeModel_energised (m k : ModelId) (f : Model → Model) (s : State) :
    ((changeModel m f s).watch k).energised = (s.watch k).energised := by
  rw [changeModel_watch]
  by_cases e : k = m <;> simp [e]

@[simp] theorem changeModel_backdrop (m : ModelId) (f : Model → Model) (s : State) :
    (changeModel m f s).backdrop = s.backdrop := by
  simp only [State.backdrop, changeModel_recorded, changeModel_energised]
  rw [changeModel_motion, changeModel_sup]

@[simp] theorem driveReport_backdrop (m : ModelId) (s : State) : (driveReport m s).backdrop = s.backdrop := by
  rw [driveReport_eq, raise_backdrop]
  split
  · rfl
  · exact changeModel_backdrop _ _ _

@[simp] theorem clearSuspect_backdrop (i : EntryIx) (k : Key) (s : State) :
    (clearSuspect i k s).backdrop = s.backdrop := by rw [clearSuspect, report_false]; rfl

/-! ### Starts and the opening of the bay -/

@[simp] theorem startRequest_backdrop (m : ModelId) (c : CueId) (o : Owner) (p : Bool) (s : State) :
    (startRequest m c o p s).1.backdrop = s.backdrop := by
  rw [startRequest_eq]
  cases s.verdict m c o <;> simp [startCue]

@[simp] theorem removeEntry_backdrop (m : ModelId) (s : State) : (removeEntry m s).backdrop = s.backdrop :=
  quietTest_backdrop _ _

@[simp] theorem serveEntry_backdrop (m : ModelId) (c : CueId) (s : State) :
    (serveEntry m c s).1.backdrop = s.backdrop := by
  have decided := startRequest_backdrop m c .control false s
  unfold serveEntry
  split <;> rename_i e <;> rw [e] at decided <;> simpa using decided

@[simp] theorem becomeFree_backdrop (m : ModelId) (s : State) : (becomeFree m s).backdrop = s.backdrop := by
  unfold becomeFree
  split
  · rfl
  · rename_i e _
    have served := serveEntry_backdrop m e.cue s
    split <;> rename_i h <;> rw [h] at served <;> exact served

@[simp] theorem freeAll_backdrop (s : State) : (freeAll s).backdrop = s.backdrop :=
  forEach_keeps State.backdrop _ (fun m t => by unfold freeIfStartable; split <;> simp) _ _

@[simp] theorem enterOpen_backdrop (s : State) : (enterOpen s).backdrop = s.backdrop := by
  rw [enterOpen, quietTest_backdrop, freeAll_backdrop]
  rfl

@[simp] theorem endWakeTest_backdrop (s : State) : (endWakeTest s).backdrop = s.backdrop := by
  unfold endWakeTest; split <;> simp

@[simp] theorem sendWake_backdrop (s : State) : (sendWake s).backdrop = s.backdrop := by
  unfold sendWake beginWake; split <;> simp

theorem withEntryTest_backdrop {taking : State → State} {s : State} {x : Backdrop}
    (kept : (taking s).backdrop = x) : (withEntryTest taking s).backdrop = x := by
  unfold withEntryTest; split <;> simp [kept]

/-! ### Edges -/

@[simp] theorem joinList_backdrop (b : Button) (s : State) : (joinList b s).backdrop = s.backdrop := by
  unfold joinList
  dsimp only
  (repeat' split) <;> simp

@[simp] theorem beginLockout_backdrop (i : EntryIx) (s : State) : (beginLockout i s).backdrop = s.backdrop := rfl

@[simp] theorem pressStart_backdrop (i : EntryIx) (b : Button) (s : State) :
    (pressStart i b s).backdrop = s.backdrop := by
  have decided := startRequest_backdrop b.modelId b.cueId (.button b.key) false s
  unfold pressStart
  split <;> rename_i e <;> rw [e] at decided <;> simpa using decided

@[simp] theorem press_backdrop (i : EntryIx) (b : Button) (s : State) : (press i b s).backdrop = s.backdrop := by
  unfold press
  dsimp only
  (repeat' split) <;> simp [cutModel, resumeModel]

@[simp] theorem callEdge_backdrop (i : EntryIx) (b : Button) (s : State) : (callEdge i b s).backdrop = s.backdrop := by
  unfold callEdge callPress
  (repeat' split) <;> simp

@[simp] theorem edgeCases_backdrop (i : EntryIx) (b : Button) (e : Edge) (s : State) :
    (edgeCases i b e s).backdrop = s.backdrop := by
  unfold edgeCases
  (repeat' split) <;> simp [pauseModel]

@[simp] theorem takeEdge_backdrop (i : EntryIx) (e : Edge) (s : State) : (takeEdge i e s).backdrop = s.backdrop := by
  have booked : (stuckBookkeeping i e s).backdrop = s.backdrop := by cases e <;> rfl
  unfold takeEdge
  dsimp only
  (repeat' split) <;> simp [booked]

theorem State.backdrop_of_steady {s t : State} (h : t.steady = s.steady) : t.backdrop = s.backdrop := by
  have same : t.steady.backdrop = s.steady.backdrop := by rw [h]
  exact same

@[simp] theorem deriveLamps_backdrop (s : State) : (deriveLamps s).backdrop = s.backdrop :=
  State.backdrop_of_steady (deriveLamps_steady s)

@[simp] theorem markDirty_backdrop (n : NodeId) (s : State) : (markDirty n s).backdrop = s.backdrop := by
  unfold markDirty; split <;> rfl

@[simp] theorem settle_backdrop (s : State) : (settle s).backdrop = s.backdrop :=
  State.backdrop_of_steady (settle_steady s)

end Sys2Proof.Machine

/-! ## A PANEL frame taken edge by edge (R60, R64, R70) -/

namespace Sys2Proof.Machine

/-! ### The recorded sets -/

theorem recordButton_isDown (k l : Key) (down : Bool) (s : State) :
    (recordButton k down s).isDown l = if l = k then down else s.isDown l := by
  simp only [State.isDown, recordButton, State.onPress_press, tget_tmod]
  by_cases node : l.node = k.node
  · by_cases button : l.button = k.button
    · obtain rfl : l = k := Key.ext_parts node button
      cases down <;> simp
    · have other : l ≠ k := fun e => button (congrArg Key.button e)
      have apart : l.button.val ≠ k.button.val := fun e => button (Fin.ext e)
      cases down <;> simp [node, other, apart]
  · have other : l ≠ k := fun e => node (congrArg Key.node e)
    simp [node, other]

theorem isDown_of_backdrop {s t : State} (h : t.backdrop = s.backdrop) (k : Key) : t.isDown k = s.isDown k :=
  congrArg (fun x => (tget x.recorded k.node).getLsbD k.button.val) h

/-- R60: after its turn a button is in the set that the frame gives, and the others are where they were. -/
theorem panelButton_isDown (n : NodeId) (d : BitVec 16) (b : ButtonIx) (k : Key) (s : State) :
    (panelButton n d b s).isDown k = if k = ⟨n, b⟩ then d.getLsbD b.val else s.isDown k := by
  unfold panelButton
  dsimp only
  split
  · rename_i same
    split
    · rename_i e; rw [e, same]
    · rfl
  · rw [← recordButton_isDown]
    split
    · exact isDown_of_backdrop ((deriveLamps_backdrop _).trans (takeEdge_backdrop _ _ _)) k
    · rfl

theorem forEach_panelButton_isDown (n : NodeId) (d : BitVec 16) (k : Key) (bs : List ButtonIx) (s : State) :
    (forEach bs (panelButton n d) s).isDown k =
      if k.node = n ∧ k.button ∈ bs then d.getLsbD k.button.val else s.isDown k := by
  induction bs generalizing s with
  | nil => simp
  | cons b rest ih =>
    rw [forEach_cons, ih, panelButton_isDown]
    by_cases own : k = ⟨n, b⟩
    · subst own; simp
    · have other : ¬ (k.node = n ∧ k.button = b) := fun e => own (Key.ext_parts e.1 e.2)
      by_cases node : k.node = n
      · have button : k.button ≠ b := fun e => other ⟨node, e⟩
        simp [own, node, button]
      · simp [own, node]

/-- The recorded sets are known from the buttons in them. -/
theorem recorded_eq_of_isDown {s : State} {r : Vector (BitVec 16) 62}
    (h : ∀ k : Key, s.isDown k = (tget r k.node).getLsbD k.button.val) : s.press.recorded = r :=
  table_ext fun n => BitVec.eq_of_getLsbD_eq fun b below => h ⟨n, ⟨b, below⟩⟩

/-- R60: a panel's recorded set is the frame's once every button has had its turn. -/
theorem forEach_panelButton_recorded (n : NodeId) (d : BitVec 16) (s : State) :
    (forEach allButtons (panelButton n d) s).press.recorded = tput s.press.recorded n d :=
  recorded_eq_of_isDown fun k => by
    have listed : k.button ∈ allButtons := List.mem_finRange k.button
    rw [forEach_panelButton_isDown, tget_tput]
    by_cases node : k.node = n
    · rw [if_pos ⟨node, listed⟩, if_pos node]
    · rw [if_neg fun e => node e.1, if_neg node]
      rfl

theorem flipped_getLsbD (s : State) (k : Key) (b : ButtonIx) :
    (s.flipped k).getLsbD b.val = if b = k.button then !s.isDown k else s.isDown ⟨k.node, b⟩ := by
  by_cases e : b = k.button
  · subst e; simp [State.flipped, State.isDown]
  · have apart : b.val ≠ k.button.val := fun h => e (Fin.ext h)
    simp [State.flipped, State.isDown, e, apart]

/-! ### The turns of a frame -/

theorem panelButton_of_same {n : NodeId} {d : BitVec 16} {b : ButtonIx} {s : State}
    (same : s.isDown ⟨n, b⟩ = d.getLsbD b.val) : panelButton n d b s = s := if_pos same

theorem forEach_panelButton_of_same {n : NodeId} {d : BitVec 16} {bs : List ButtonIx} {s : State}
    (same : ∀ b ∈ bs, s.isDown ⟨n, b⟩ = d.getLsbD b.val) : forEach bs (panelButton n d) s = s := by
  induction bs with
  | nil => rfl
  | cons b rest ih =>
    rw [forEach_cons, panelButton_of_same (same b List.mem_cons_self)]
    exact ih fun c member => same c (List.mem_cons_of_mem b member)

theorem forEach_append {α : Type} (a b : List α) (op : α → State → State) (s : State) :
    forEach (a ++ b) op s = forEach b op (forEach a op s) := List.foldl_append

/-- The buttons before one, and those after it. -/
theorem allButtons_split (b : ButtonIx) : ∃ before after, allButtons = before ++ b :: after ∧
    (∀ c ∈ before, c < b) ∧ (∀ c ∈ after, b < c) ∧ after.Pairwise (· < ·) := by
  obtain ⟨before, after, split⟩ := List.append_of_mem (List.mem_finRange b)
  have order : (before ++ b :: after).Pairwise (· < ·) := split ▸ List.pairwise_lt_finRange 16
  obtain ⟨-, tail, first⟩ := List.pairwise_append.mp order
  obtain ⟨later, order⟩ := List.pairwise_cons.mp tail
  exact ⟨before, after, split, fun c member => first c member b List.mem_cons_self, later, order⟩

/-! ### One edge -/

/-- DOWN or UP. -/
def edgeOf (down : Bool) : Edge := if down then .down else .up

/-- R60, R70: the state in which an edge is answered: it is recorded, and its stuck bookkeeping is done. -/
def State.booked (s : State) (k : Key) (i : EntryIx) (b : Button) (down : Bool) : State :=
  { s with press := { s.press with
      recorded := tput s.press.recorded k.node (s.flipped k)
      buttons := tput s.press.buttons i (some (b.edged down s.motion.clock)) } }

/-- R64: what an edge brings once its bookkeeping is done. -/
def answerEdge (i : EntryIx) (b : Button) (down : Bool) (s : State) : State :=
  if b.suspect then (if down then s else clearSuspect i b.key s)
  else edgeCases i b (edgeOf down) (if down then sendWake s else s)

theorem stuckBookkeeping_eq (i : EntryIx) (down : Bool) (s : State) :
    stuckBookkeeping i (edgeOf down) s = s.modEntry i fun b => b.edged down s.motion.clock := by
  cases down <;> rfl

theorem takeEdge_of_entry {i : EntryIx} {b : Button} {s : State} (entry : s.entry i = some b) (down : Bool) :
    takeEdge i (edgeOf down) s = answerEdge i (b.edged down s.motion.clock) down { s with press := { s.press with
      buttons := tput s.press.buttons i (some (b.edged down s.motion.clock)) } } := by
  have read : ({ s with press := { s.press with
      buttons := tput s.press.buttons i (some (b.edged down s.motion.clock)) } } : State).entry i =
        some (b.edged down s.motion.clock) := tget_tput_self _ _ _
  unfold takeEdge
  rw [stuckBookkeeping_eq, modEntry_of_entry entry]
  dsimp only
  rw [read]
  unfold answerEdge
  cases down <;> cases b.suspect <;> rfl

/-- R60: the membership that an edge changes. -/
theorem recordButton_of_edge {s : State} {k : Key} {down : Bool} (edge : s.isDown k = !down) :
    recordButton k down s = { s with press := { s.press with
      recorded := tput s.press.recorded k.node (s.flipped k) } } := by
  have recorded : (recordButton k down s).press.recorded = tput s.press.recorded k.node (s.flipped k) :=
    recorded_eq_of_isDown fun l => by
      rw [recordButton_isDown, tget_tput]
      by_cases node : l.node = k.node
      · rw [if_pos node, flipped_getLsbD, edge, Bool.not_not, ← node]
        by_cases button : l.button = k.button
        · rw [if_pos (Key.ext_parts node button), if_pos button]
        · rw [if_neg fun e => button (congrArg Key.button e), if_neg button]
      · rw [if_neg node, if_neg fun e => node (congrArg Key.node e)]
        rfl
  rw [← recorded]
  rfl

section
variable {s : State} {k : Key} {i : EntryIx} {b : Button} {down : Bool} (h : s.AnyEdge k i b down)
include h

/-- What the edge of a frame leaves before the lamps are derived. -/
theorem panelButton_of_edge {d : BitVec 16} (bit : d.getLsbD k.button.val = down) : panelButton k.node d k.button s =
    deriveLamps (answerEdge i (b.edged down s.motion.clock) down (s.booked k i b down)) := by
  have new : s.isDown k ≠ down := by rw [h.edge]; cases down <;> decide
  have mapped : ({ s with press := { s.press with
      recorded := tput s.press.recorded k.node (s.flipped k) } } : State).entryOf k = some i := h.mapped
  have booked := takeEdge_of_entry (s := { s with press := { s.press with
      recorded := tput s.press.recorded k.node (s.flipped k) } }) h.entry down
  unfold panelButton
  dsimp only
  rw [bit, if_neg new, recordButton_of_edge h.edge, mapped]
  exact congrArg deriveLamps booked

/-- R60: the frame that brings one edge. -/
theorem forEach_of_edge : forEach allButtons (panelButton k.node (s.flipped k)) s =
    deriveLamps (answerEdge i (b.edged down s.motion.clock) down (s.booked k i b down)) := by
  obtain ⟨before, after, split, first, later, -⟩ := allButtons_split k.button
  have bit : (s.flipped k).getLsbD k.button.val = down := by rw [flipped_getLsbD, if_pos rfl, h.edge, Bool.not_not]
  have other {c : ButtonIx} (e : c ≠ k.button) : s.isDown ⟨k.node, c⟩ = (s.flipped k).getLsbD c.val := by
    rw [flipped_getLsbD, if_neg e]
  rw [split, forEach_append, forEach_panelButton_of_same fun c member => other (first c member).ne, forEach_cons,
    forEach_panelButton_of_same, panelButton_of_edge h bit]
  intro c member
  have e : c ≠ k.button := (later c member).ne'
  rw [panelButton_isDown, if_neg fun same => e (congrArg Key.button same), other e]

theorem exec_of_edge : exec (.panel k.node (s.flipped k) false) s = .next (settle (withEntryTest
    (fun _ => deriveLamps (answerEdge i (b.edged down s.motion.clock) down (s.booked k i b down))) s)) := by
  rw [exec_panel, act_of_running h.running, takePanel, if_pos h.role, ← forEach_of_edge h]
  rfl

/-- Where the edge wakes no bay, or does not leave it WAKING, its answer stands. -/
theorem exec_of_edge_steady (awake : s.gallery = .doze →
      (answerEdge i (b.edged down s.motion.clock) down (s.booked k i b down)).gallery ≠ .waking) :
    ∃ t, exec (.panel k.node (s.flipped k) false) s = .next t ∧
      t.steady = (answerEdge i (b.edged down s.motion.clock) down (s.booked k i b down)).steady := by
  have gallery (u : State) : (deriveLamps u).gallery = u.gallery :=
    congrArg ModeControl.mode (State.modeCtl_of_steady (deriveLamps_steady u))
  refine ⟨_, exec_of_edge h, ?_⟩
  rw [settle_steady]
  unfold withEntryTest
  split
  · rename_i doze
    rw [endWakeTest_of_awake (by rw [gallery]; exact awake doze), deriveLamps_steady]
  · exact deriveLamps_steady _

theorem answerEdge_backdrop : (answerEdge i (b.edged down s.motion.clock) down (s.booked k i b down)).backdrop =
    { s.backdrop with recorded := tput s.press.recorded k.node (s.flipped k) } := by
  unfold answerEdge
  cases down <;> split <;> simp <;> rfl

theorem answerEdge_outer : (answerEdge i (b.edged down s.motion.clock) down (s.booked k i b down)).outer = s.outer := by
  unfold answerEdge
  cases down <;> split <;> simp <;> rfl

end

/-- R60: what an edge leaves alone, whatever it brings. -/
theorem edgeFrame_of_backdrop {s t u : State} {k : Key} (same : t.steady = u.steady) (outer : u.outer = s.outer)
    (backdrop : u.backdrop = { s.backdrop with recorded := tput s.press.recorded k.node (s.flipped k) }) :
    s.EdgeFrame t k where
  recorded := (State.recorded_of_steady same).trans (congrArg Backdrop.recorded backdrop)
  relay := by
    have relay : t.steady.relay = u.steady.relay := congrArg State.relay same
    rw [relay]
    simp only [State.steady, State.relay_of_outer outer]
  settings := (State.settings_of_steady same).trans (State.settings_of_outer outer)
  pins := (State.pins_of_steady same).trans (State.pins_of_outer outer)
  pending := (State.pending_of_steady same).trans (State.pending_of_outer outer)
  clock := (congrArg MotionSequencer.clock (State.motion_of_steady same)).trans (congrArg Backdrop.clock backdrop)
  cues := (congrArg MotionSequencer.cues (State.motion_of_steady same)).trans (congrArg Backdrop.cues backdrop)
  profiles := (congrArg MotionSequencer.profiles (State.motion_of_steady same)).trans
    (congrArg Backdrop.profiles backdrop)

end Sys2Proof.Machine

/-! ## Presses: starts, wait lists, owner edges and calls (R6, R10, R13, R66 to R69, R72) -/

namespace Sys2Proof.Machine

/-! ### Which case of R64 an edge is -/

theorem edgeCases_of_pressed {b : Button} {down : Bool} (visitor : b.mode ≠ .call) (pressed : b.pressedBy down)
    (i : EntryIx) (s : State) : edgeCases i b (edgeOf down) s = press i b s := by
  unfold edgeCases edgeOf
  rcases pressed with ⟨hold, rfl⟩ | ⟨other, acting⟩
  · rw [hold]; rfl
  · cases mode : b.mode <;> simp_all

theorem edgeCases_of_called {b : Button} {down : Bool} (call : b.mode = .call) (pressed : b.pressedBy down)
    (i : EntryIx) (s : State) : edgeCases i b (edgeOf down) s = callEdge i b s := by
  have acting : edgeOf down = b.acting := by
    rcases pressed with ⟨hold, -⟩ | ⟨-, acting⟩
    · rw [call] at hold; cases hold
    · exact acting.symm
  unfold edgeCases
  rw [call]
  exact if_pos acting

theorem edgeCases_of_not_acting {b : Button} {down : Bool} (other : b.mode ≠ .hold)
    (acting : b.acting ≠ if down then .down else .up) (i : EntryIx) (s : State) :
    edgeCases i b (edgeOf down) s = s := by
  have idle : edgeOf down ≠ b.acting := fun e => acting e.symm
  unfold edgeCases
  cases mode : b.mode
  case hold => exact absurd mode other
  all_goals exact if_neg idle

theorem edgeCases_of_let_go {b : Button} (hold : b.mode = .hold) (i : EntryIx) (s : State) :
    edgeCases i b .up s = if s.ownsCue b.key b.modelId then pauseModel b.modelId s else s := by
  unfold edgeCases
  rw [hold]

/-- R64: outside DOZE the edge of a button that is not SUSPECT is one of cases 3 to 6. -/
theorem answerEdge_of_awake {b : Button} {s : State} (sound : b.suspect = false) (awake : s.gallery ≠ .doze)
    (i : EntryIx) (down : Bool) : answerEdge i b down s = edgeCases i b (edgeOf down) s := by
  have still : sendWake s = s := if_neg awake
  rw [answerEdge, sound, still]
  cases down <;> rfl

/-! ### Presses that do nothing -/

theorem press_of_locked {b : Button} (locked : b.lockoutTimer.isSome = true) (i : EntryIx) (s : State) :
    press i b s = s := by
  unfold press Button.inLockout
  exact if_pos locked

theorem press_of_shut {s : State} (shut : s.gallery = .closed ∨ s.gallery = .service ∨ s.gallery = .doze)
    (i : EntryIx) (b : Button) : press i b s = s := by
  unfold press
  dsimp only
  split
  · rfl
  · rcases shut with e | e | e <;> rw [e]

section
variable {s : State} {i : EntryIx} {b : Button} (ready : b.lockoutTimer = none)
  (awake : s.gallery = .opened ∨ s.gallery = .waking)
include ready awake

/-- R66, R67: a press in OPEN or WAKING, out of lockout. -/
theorem press_of_ready : press i b s =
    if s.ownsCue b.key b.modelId && b.mode == .toggle then beginLockout i (cutModel b.modelId s)
    else if s.ownsCue b.key b.modelId && b.mode == .hold then
      (if (s.model b.modelId).holdPause then resumeModel b.modelId s else s)
    else if s.isWaiting b.key b.modelId then s
    else pressStart i b s := by
  have free : ¬ b.inLockout = true := by simp [Button.inLockout, ready]
  unfold press
  dsimp only
  rw [if_neg free]
  rcases awake with e | e <;> rw [e]

theorem press_of_toggle_owner (toggle : b.mode = .toggle) (owns : s.ownsCue b.key b.modelId = true) :
    press i b s = beginLockout i (cutModel b.modelId s) := by
  rw [press_of_ready ready awake, if_pos (by simp [toggle, owns])]

theorem press_of_hold_owner (hold : b.mode = .hold) (owns : s.ownsCue b.key b.modelId = true) :
    press i b s = if (s.model b.modelId).holdPause then resumeModel b.modelId s else s := by
  rw [press_of_ready ready awake, if_neg (by simp [hold]), if_pos (by simp [hold, owns])]

theorem press_of_new (new : s.ownsCue b.key b.modelId = false) (absent : s.isWaiting b.key b.modelId = false) :
    press i b s = pressStart i b s := by
  rw [press_of_ready ready awake, if_neg (by simp [new]), if_neg (by simp [new]), if_neg (by simp [absent])]

/-- R68: a call in OPEN or WAKING, out of lockout. -/
theorem callEdge_of_ready : callEdge i b s = beginLockout i (raise (.visitorCall b.key) s) := by
  have still : sendWake s = s := if_neg (by rcases awake with e | e <;> simp [e])
  have free : ¬ b.inLockout = true := by simp [Button.inLockout, ready]
  rw [callEdge, callPress, still, if_neg free]
  rcases awake with e | e <;> rw [e]

end

theorem beginLockout_of_entry {s : State} {i : EntryIx} {b : Button} (entry : s.entry i = some b) :
    beginLockout i s = { s with press := { s.press with
      buttons := tput s.press.buttons i (some (b.locked s.motion.clock)) } } := modEntry_of_entry entry _

/-! ### A request joins its list, or is refused -/

/-- R154: a bay with a request waiting is not quiet. -/
theorem not_quiet_of_waiting {s : State} {m : ModelId} (waiting : s.waits m ≠ []) : s.quiet = false := by
  have listed : (allModels.all fun m => (s.waits m).isEmpty) = false := by
    rw [List.all_eq_false]
    exact ⟨m, mem_allModels m, by simpa using waiting⟩
  simp [State.quiet, listed]

theorem joinList_of_invalid {b : Button} {s : State} (invalid : s.cueValid b.cueId = false) : joinList b s = s :=
  if_pos (by simp [invalid])

section
variable {b : Button} {s : State} (valid : s.cueValid b.cueId = true)
include valid

/-- R72: while there is room the request joins at the tail. -/
theorem joinList_of_room (room : (s.waits b.modelId).length < (s.model b.modelId).config.waitDepth) :
    joinList b s = { s with
      press := { s.press with
        waits := tput s.press.waits b.modelId (s.waits b.modelId ++
          [⟨b.key, b.cueId, s.motion.clock, (s.model b.modelId).config.maxWaitAge * 1000⟩])
        tallies := { s.press.tallies with taken := addTally 1 s.press.tallies.taken } }
      modeCtl := { s.modeCtl with dozeTimer := none } } := by
  have joined (r : Request) (g : Tallies → Tallies) :
      ((s.setWaits b.modelId (s.waits b.modelId ++ [r])).onTallies g).quiet = false :=
    not_quiet_of_waiting (m := b.modelId) (by rw [State.onTallies_waits, State.setWaits_waits_self]; simp)
  unfold joinList
  dsimp only
  rw [if_neg (by simp [valid]), if_pos room, quietTest_of_not_quiet (joined _ _)]
  rfl

theorem joinList_of_full (full : (s.model b.modelId).config.waitDepth ≤ (s.waits b.modelId).length) :
    joinList b s = { s with press := { s.press with
      tallies := { s.press.tallies with refused := addTally 1 s.press.tallies.refused } } } := by
  unfold joinList
  dsimp only
  rw [if_neg (by simp [valid]), if_neg (Nat.not_lt.mpr full)]
  rfl

end

/-! ### Presses that ask for a start, by their verdict (R66 point 5) -/

section
variable {i : EntryIx} {b : Button} {s : State}

/-- R66: a press that starts its cue is counted taken and started, and its lockout begins. -/
theorem pressStart_of_ok (ok : s.verdict b.modelId b.cueId (.button b.key) = .ok) (entry : s.entry i = some b) :
    pressStart i b s = { s with
      motion := { s.motion with models := tput s.motion.models b.modelId { s.model b.modelId with
        state := .running, owner := some (.button b.key)
        position := some
          (s.startPosition (s.model b.modelId).config b.cueId (s.model b.modelId).lastSetpoint) } }
      press := { s.press with
        buttons := tput s.press.buttons i (some (b.locked s.motion.clock))
        tallies := { s.press.tallies with
          taken := addTally 1 s.press.tallies.taken, started := addTally 1 s.press.tallies.started } }
      modeCtl := { s.modeCtl with dozeTimer := none } } := by
  obtain ⟨idle, -⟩ := verdict_ok ok
  unfold pressStart
  rw [startRequest_eq, ok]
  dsimp only
  rw [startCue_of_idle idle, beginLockout_of_entry (b := b), quietTest_of_not_quiet]
  · rfl
  · refine not_quiet_of_busy (m := b.modelId) ?_
    simp only [State.model, State.modModel, State.onTallies_motion, State.onMode, State.onMotion_motion, tget_tmod_self]
    exact ⟨nofun, nofun⟩
  · exact entry

theorem pressStart_of_not_ready (out : s.verdict b.modelId b.cueId (.button b.key) = .notReady) :
    pressStart i b s = { s with press := { s.press with
      tallies := { s.press.tallies with refused := addTally 1 s.press.tallies.refused } } } := by
  unfold pressStart
  rw [startRequest_eq, out]
  rfl

theorem pressStart_of_invalid (invalid : s.verdict b.modelId b.cueId (.button b.key) = .cueInvalid) :
    pressStart i b s = s := by
  unfold pressStart
  rw [startRequest_eq, invalid]

theorem pressStart_of_flagged (flagged : s.verdict b.modelId b.cueId (.button b.key) = .faultLatched) :
    pressStart i b s = (driveReport b.modelId s).onTallies fun t =>
      { t with refused := addTally 1 t.refused } := by
  unfold pressStart
  rw [startRequest_eq, flagged]

theorem pressStart_of_waits (waits : s.verdict b.modelId b.cueId (.button b.key) = .busy ∨
    s.verdict b.modelId b.cueId (.button b.key) = .blocked ∨ s.verdict b.modelId b.cueId (.button b.key) = .mode) :
    pressStart i b s = joinList b s := by
  unfold pressStart
  rw [startRequest_eq]
  rcases waits with e | e | e <;> rw [e]

end

/-! ### The edge of a press, booked -/

theorem booked_entry (s : State) (k : Key) (i : EntryIx) (b : Button) (down : Bool) :
    (s.booked k i b down).entry i = some (b.edged down s.motion.clock) := tget_tput_self _ _ _

theorem State.AnyEdge.key {s : State} {k : Key} {i : EntryIx} {b : Button} {down : Bool}
    (h : s.AnyEdge k i b down) : b.key = k := key_of_entryOf h.mapped h.entry

section
variable {s : State} {k : Key} {i : EntryIx} {b : Button} {down : Bool} (h : s.OneEdge k i b down)
include h

/-- The frame of an edge that is taken outside DOZE. -/
theorem exec_of_awake (awake : s.gallery = .opened ∨ s.gallery = .waking) {u : State}
    (brings : edgeCases i (b.edged down s.motion.clock) (edgeOf down) (s.booked k i b down) = u) :
    ∃ t, exec (.panel k.node (s.flipped k) false) s = .next t ∧ t.steady = u.steady ∧ s.EdgeFrame t k := by
  have day : s.gallery ≠ .doze := by rcases awake with e | e <;> simp [e]
  have booked : (s.booked k i b down).gallery ≠ .doze := day
  have answer : answerEdge i (b.edged down s.motion.clock) down (s.booked k i b down) = u :=
    (answerEdge_of_awake (b := b.edged down s.motion.clock) h.suspect booked i down).trans brings
  have outer := answerEdge_outer h.toAnyEdge
  have backdrop := answerEdge_backdrop h.toAnyEdge
  obtain ⟨t, run, same⟩ := exec_of_edge_steady h.toAnyEdge fun doze => absurd doze day
  rw [answer] at same outer backdrop
  exact ⟨t, run, same, edgeFrame_of_backdrop same outer backdrop⟩

/-- The frame of a press that asks for a start. -/
theorem exec_of_press (visitor : b.mode ≠ .call) (pressed : b.pressedBy down) (ready : b.lockoutTimer = none)
    (awake : s.gallery = .opened ∨ s.gallery = .waking) (new : s.ownsCue k b.modelId = false)
    (absent : s.isWaiting k b.modelId = false) {u : State}
    (start : pressStart i (b.edged down s.motion.clock) (s.booked k i b down) = u) :
    ∃ t, exec (.panel k.node (s.flipped k) false) s = .next t ∧ t.steady = u.steady ∧ s.EdgeFrame t k := by
  refine exec_of_awake h awake (Eq.trans ?_ start)
  rw [edgeCases_of_pressed (b := b.edged down s.motion.clock) visitor pressed]
  rw [← h.key] at new absent
  exact press_of_new (b := b.edged down s.motion.clock) ready awake new absent

end

/-- Settles O16: the verdict of the press is OK, so it starts its cue. -/
theorem startingPressStartsItsCue : Obligations.StartingPressStartsItsCue := by
  intro k i b down s h visitor pressed ready opened new absent idle valid free released unseen
  have ok : s.verdict b.modelId b.cueId (.button b.key) = .ok := by
    simp [State.verdict, idle, opened, modeAllows, valid, free, released, unseen]
  have start := pressStart_of_ok (i := i) (b := b.edged down s.motion.clock) (s := s.booked k i b down) ok
    (booked_entry s k i b down)
  obtain ⟨t, run, same, frame⟩ := exec_of_press h visitor pressed ready (.inl opened) new absent start
  refine ⟨t, run, (State.motion_of_steady same).trans ?_, (State.tallies_of_steady same).trans rfl,
    (State.buttons_of_steady same).trans ?_, (State.waits_of_steady same).trans rfl,
    (State.modeCtl_of_steady same).trans rfl, (State.sup_of_steady same).trans rfl,
    (congrArg State.alert same).trans rfl, frame⟩
  · rw [← h.key]; rfl
  · exact tput_tput _ _ _ _

end Sys2Proof.Machine

/-! ## Presses that cannot start their cue (O17) -/

namespace Sys2Proof.Machine

/-! ### A press that finds the drive flag seen (R6, R114) -/

/-- R6: FAULT_LATCHED is a verdict on an IDLE model. -/
theorem idle_of_flagged {s : State} {m : ModelId} {c : CueId} {o : Owner} (h : s.verdict m c o = .faultLatched) :
    (s.model m).state = .idle := by
  unfold State.verdict at h
  cases hs : (s.model m).state <;> simp_all

theorem driveReport_of_latched {m : ModelId} {s : State} (was : (s.marks (.model .driveReport m)).latched = true) :
    driveReport m s = raise (.fault (.model .driveReport m)) (s.reported m) := by rw [driveReport_eq, if_pos was]

/-- R17, R75, R114: a drive report flushes the list of an IDLE model that it trips. -/
theorem driveReport_press_of_idle {m : ModelId} {s : State} (idle : (s.model m).state = .idle) :
    (driveReport m s).press =
      if (s.marks (.model .driveReport m)).latched then s.press else (flushList m s).press := by
  have leaves : (s.model m).leaves (s.model m).trip = true := by simp [Model.leaves, Model.trip, idle]; rfl
  have trips : (tripModel m (s.reported m)).press = (flushList m s).press := by
    have flushed := changeModel_press m Model.trip (s.reported m)
    rw [flushList_press] at flushed ⊢
    exact flushed.trans (if_pos leaves)
  rw [driveReport_eq, raise_press]
  split
  · rfl
  · exact trips

/-- R76: a drive report counts no request but those flushed. -/
theorem driveReport_tallies {m : ModelId} {s : State} (idle : (s.model m).state = .idle) :
    ∃ n, (driveReport m s).press.tallies = { s.press.tallies with flushed := n } := by
  rw [driveReport_press_of_idle idle]
  split
  · exact ⟨_, rfl⟩
  · rw [flushList_press]
    exact ⟨_, rfl⟩

/-- R114: it is latched, and where the latch is new its model is FAULTED. -/
theorem driveReport_trips {m : ModelId} {s : State} (idle : (s.model m).state = .idle) :
    ((driveReport m s).marks (.model .driveReport m)).latched = true ∧
    ((s.marks (.model .driveReport m)).latched = false → ((driveReport m s).model m).state = .faulted) := by
  obtain ⟨latched, -, faulted⟩ := driveReport_local m s
  exact ⟨latched, faulted idle⟩

/-! ### The verdicts -/

theorem joinList_eq (b : Button) (s : State) : ∃ w g q,
    joinList b s = { s with press := { s.press with waits := w, tallies := g }, modeCtl := q } := by
  unfold joinList
  dsimp only
  split
  · exact ⟨_, _, _, rfl⟩
  · split
    · obtain ⟨q, eq, -⟩ := quietTest_eq true ((s.setWaits b.modelId (s.waits b.modelId ++
        [⟨b.key, b.cueId, s.clock, (s.model b.modelId).config.maxWaitAge * 1000⟩])).onTallies
          fun t => { t with taken := addTally 1 t.taken })
      exact ⟨_, _, q, eq⟩
    · exact ⟨_, _, _, rfl⟩

/-- R66: a press that neither starts its cue nor reports its drive touches the wait lists, the tallies and Mode Control
only. -/
theorem pressStart_eq {i : EntryIx} {b : Button} {s : State} (ok : s.verdict b.modelId b.cueId (.button b.key) ≠ .ok)
    (unseen : s.verdict b.modelId b.cueId (.button b.key) ≠ .faultLatched) : ∃ w g q,
    pressStart i b s = { s with press := { s.press with waits := w, tallies := g }, modeCtl := q } := by
  cases v : s.verdict b.modelId b.cueId (.button b.key)
  case ok => exact absurd v ok
  case faultLatched => exact absurd v unseen
  case notReady => exact ⟨_, _, _, pressStart_of_not_ready v⟩
  case cueInvalid => exact ⟨_, _, _, pressStart_of_invalid v⟩
  case busy => rw [pressStart_of_waits (.inl v)]; exact joinList_eq b s
  case blocked => rw [pressStart_of_waits (.inr (.inl v))]; exact joinList_eq b s
  case mode => rw [pressStart_of_waits (.inr (.inr v))]; exact joinList_eq b s

/-- R66, R72: a press counted refused. -/
theorem pressStart_of_refused {i : EntryIx} {b : Button} {s : State} {v : Verdict}
    (verdict : s.verdict b.modelId b.cueId (.button b.key) = v)
    (refused : v = .notReady ∨ ((v = .busy ∨ v = .blocked ∨ v = .mode) ∧ s.cueValid b.cueId = true ∧
      (s.model b.modelId).config.waitDepth ≤ (s.waits b.modelId).length)) :
    pressStart i b s = { s with press := { s.press with
      tallies := { s.press.tallies with refused := addTally 1 s.press.tallies.refused } } } := by
  subst verdict
  rcases refused with out | ⟨waits, valid, full⟩
  · exact pressStart_of_not_ready out
  · rw [pressStart_of_waits waits, joinList_of_full valid full]

/-- R66: a press for a cue that is not valid is ignored. -/
theorem pressStart_of_ignored {i : EntryIx} {b : Button} {s : State} {v : Verdict}
    (verdict : s.verdict b.modelId b.cueId (.button b.key) = v)
    (ignored : v = .cueInvalid ∨ ((v = .busy ∨ v = .blocked ∨ v = .mode) ∧ s.cueValid b.cueId = false)) :
    pressStart i b s = s := by
  subst verdict
  rcases ignored with invalid | ⟨waits, invalid⟩
  · exact pressStart_of_invalid invalid
  · rw [pressStart_of_waits waits, joinList_of_invalid invalid]

/-- Settles O17: the press asks for a start, and the verdict decides what becomes of it. -/
theorem pressThatCannotStartWaitsOrIsRefused : Obligations.PressThatCannotStartWaitsOrIsRefused := by
  intro k i b down s h visitor pressed ready awake new absent
  let b' := b.edged down s.motion.clock
  let s' := s.booked k i b down
  have verdict : s'.verdict b'.modelId b'.cueId (.button b'.key) = s.verdict b.modelId b.cueId (.button k) :=
    congrArg (fun k => s.verdict b.modelId b.cueId (.button k)) h.key
  refine ⟨fun notOk notFlagged => ?_, fun flagged => ?_⟩
  · obtain ⟨w, g, q, eq⟩ := pressStart_eq (i := i) (verdict ▸ notOk) (verdict ▸ notFlagged)
    obtain ⟨t, run, same, frame⟩ := exec_of_press h visitor pressed ready awake new absent rfl
    refine ⟨t, run, fun waits valid room => ?_, fun refused => ?_, fun ignored => ?_,
      (State.buttons_of_steady same).trans (congrArg (fun u => u.press.buttons) eq),
      ((State.motion_of_steady same).trans (congrArg State.motion eq)).trans rfl,
      ((State.sup_of_steady same).trans (congrArg State.sup eq)).trans rfl,
      (congrArg State.alert same).trans (congrArg (fun u => u.steady.alert) eq), frame⟩
    · rw [pressStart_of_waits (s := s') (b := b') (by rwa [verdict]),
        joinList_of_room (s := s') (b := b') valid room] at same
      rw [← h.key]
      exact ⟨State.waits_of_steady same, State.tallies_of_steady same, State.modeCtl_of_steady same⟩
    · rw [pressStart_of_refused (s := s') (b := b') verdict refused] at same
      exact ⟨(State.tallies_of_steady same).trans rfl, (State.waits_of_steady same).trans rfl,
        (State.modeCtl_of_steady same).trans rfl⟩
    · rw [pressStart_of_ignored (s := s') (b := b') verdict ignored] at same
      exact ⟨(State.tallies_of_steady same).trans rfl, (State.waits_of_steady same).trans rfl,
        (State.modeCtl_of_steady same).trans rfl⟩
  · have idle : (s'.model b.modelId).state = .idle := idle_of_flagged flagged
    obtain ⟨t, run, same, frame⟩ := exec_of_press h visitor pressed ready awake new absent
      (pressStart_of_flagged (i := i) (s := s') (b := b') (verdict.trans flagged))
    obtain ⟨latched, trips⟩ := driveReport_trips idle
    obtain ⟨n, counted⟩ := driveReport_tallies idle
    have tallies : t.press.tallies =
        { s.press.tallies with flushed := n, refused := addTally 1 s.press.tallies.refused } :=
      (State.tallies_of_steady same).trans
        (congrArg (fun g : Tallies => { g with refused := addTally 1 g.refused }) counted)
    have model (j : ModelId) : t.model j = (driveReport b.modelId s').model j :=
      (congrArg (fun q : MotionSequencer => tget q.models j) (State.motion_of_steady same)).trans rfl
    refine ⟨t, run, congrArg Tallies.refused tallies, by rw [tallies], by rw [tallies], ?_, ?_, fun new => ?_,
      fun j other => ?_, frame⟩
    · exact (State.buttons_of_steady same).trans (congrArg Scene.buttons (driveReport_beside b.modelId s').scene)
    · exact (congrArg (fun q : Supervisor => (q.faults.get (.model .driveReport b.modelId)).latched)
        (State.sup_of_steady same)).trans latched
    · rw [model]; exact trips new
    · rw [model]; exact congrArg Local.model ((driveReport_beside b.modelId s').others j other)

end Sys2Proof.Machine

/-! ## The owner's edges, edges that do nothing, and calls (O18) -/

namespace Sys2Proof.Machine

/-! ### Pauses and resumptions of a cue (R13) -/

theorem holdZone_of_not_holding {s : State} (agrees : s.MotionAgrees) {m : ModelId}
    (other : (s.model m).state ≠ .holding) : (s.model m).holdZone = false ∧ (s.model m).holdPause = false := by
  have causes := (agrees.holds m).1
  rw [show ((s.model m).state == .holding) = false by simpa using other] at causes
  simpa using causes

/-- R13: a change of a model in play that no zone hold takes part in changes that model alone. -/
theorem changeModel_of_playing {m : ModelId} {f : Model → Model} {s : State} {x : Model} (is : f (s.model m) = x)
    (before : (s.model m).state = .running ∨ (s.model m).state = .holding)
    (after : x.state = .running ∨ x.state = .holding) (hold : x.zoneHeld = (s.model m).zoneHeld) :
    changeModel m f s = { s with motion := { s.motion with models := tput s.motion.models m x } } := by
  subst is
  rw [changeModel_of_kept hold (by rcases after with e | e <;> simp [e, ModelState.outOfService])
    (by rcases after with e | e <;> simp [e]),
    syncQuiet_of_busy _ (by rcases before with e | e <;> simp [e]) (by rcases after with e | e <;> simp [e])]
  rfl

theorem pauseModel_of_running {m : ModelId} {s : State} (agrees : s.MotionAgrees)
    (running : (s.model m).state = .running) :
    pauseModel m s = { s with motion := { s.motion with models := tput s.motion.models m { s.model m with
      state := .holding, holdPause := true, target := some .cue
      pauseTimer := some ((s.model m).config.pauseWindow * 1000) } } } := by
  have free := (holdZone_of_not_holding agrees (m := m) (by simp [running])).1
  refine changeModel_of_playing ?_ (.inl running) (.inr rfl) ?_
  · simp only [Model.pause, running]
  · simp [Model.zoneHeld, free]

theorem pauseModel_of_held {m : ModelId} {s : State} (holding : (s.model m).state = .holding)
    (cue : (s.model m).target = some .cue) (unpaused : (s.model m).pauseTimer = none) :
    pauseModel m s = { s with motion := { s.motion with models := tput s.motion.models m { s.model m with
      holdPause := true, pauseTimer := some ((s.model m).config.pauseWindow * 1000) } } } := by
  refine changeModel_of_playing ?_ (.inr holding) (.inr holding) rfl
  simp only [Model.pause, holding, cue, unpaused]
  rfl

theorem resumeModel_of_paused {m : ModelId} {s : State} (holding : (s.model m).state = .holding)
    (paused : (s.model m).holdPause = true) (free : (s.model m).holdZone = false) :
    resumeModel m s = { s with motion := { s.motion with models := tput s.motion.models m { s.model m with
      state := .running, holdPause := false, target := none, pauseTimer := none } } } := by
  refine changeModel_of_playing ?_ (.inr holding) (.inl rfl) (by simp [Model.zoneHeld, free])
  simp [Model.resumeEdge, holding, paused, free]

theorem resumeModel_of_zone_held {m : ModelId} {s : State} (holding : (s.model m).state = .holding)
    (paused : (s.model m).holdPause = true) (held : (s.model m).holdZone = true) :
    resumeModel m s = { s with motion := { s.motion with models := tput s.motion.models m { s.model m with
      holdPause := false, pauseTimer := none } } } := by
  refine changeModel_of_playing ?_ (.inr holding) (.inr holding) rfl
  simp [Model.resumeEdge, holding, paused, held]

/-! ### An edge that changes one entry and one model -/

/-- The state of an edge whose entry becomes `b'` and whose model `m` becomes `x`. -/
def State.edgedTo (s : State) (k : Key) (i : EntryIx) (b' : Button) (m : ModelId) (x : Model) : State :=
  { s with
    press := { s.press with
      recorded := tput s.press.recorded k.node (s.flipped k), buttons := tput s.press.buttons i (some b') }
    motion := { s.motion with models := tput s.motion.models m x } }

/-- An edge that changes one entry and one model leaves the rest of the blocks alone. -/
theorem left_of_edgedTo {s t : State} {k : Key} {i : EntryIx} {b' : Button} {m : ModelId} {x : Model}
    (same : t.steady = (s.edgedTo k i b' m x).steady) (frame : s.EdgeFrame t k) :
    t.press.buttons = tput s.press.buttons i (some b') ∧
      t.motion = { s.motion with models := tput s.motion.models m x } ∧
      t.press.waits = s.press.waits ∧ t.press.tallies = s.press.tallies ∧ t.modeCtl = s.modeCtl ∧ t.sup = s.sup ∧
      t.steady.alert = s.steady.alert ∧ s.EdgeFrame t k :=
  ⟨(State.buttons_of_steady same).trans rfl, (State.motion_of_steady same).trans rfl,
    (State.waits_of_steady same).trans rfl, (State.tallies_of_steady same).trans rfl,
    (State.modeCtl_of_steady same).trans rfl, (State.sup_of_steady same).trans rfl,
    (congrArg State.alert same).trans rfl, frame⟩

/-- The stuck bookkeeping alone. -/
theorem booked_eq_edgedTo (s : State) (k : Key) (i : EntryIx) (b : Button) (down : Bool) (m : ModelId) :
    s.booked k i b down = s.edgedTo k i (b.edged down s.motion.clock) m (s.model m) := by
  unfold State.edgedTo State.model
  rw [tput_tget]
  rfl

theorem booked_agrees {s : State} (agrees : s.MotionAgrees) (k : Key) (i : EntryIx) (b : Button) (down : Bool) :
    (s.booked k i b down).MotionAgrees :=
  ⟨agrees.owned, agrees.holds, agrees.paused, agrees.window, agrees.limit⟩

/-- R67: a TOGGLE owner's press cuts its cue and begins its lockout. -/
theorem beginLockout_cut {s : State} {k : Key} {i : EntryIx} {b : Button} {down : Bool} {m : ModelId} {x : Model}
    (playing : (s.model m).state = .running ∨ (s.model m).state = .holding) (cut : (s.model m).asCut = x) :
    beginLockout i (cutModel m (s.booked k i b down)) =
      s.edgedTo k i ((b.edged down s.motion.clock).locked s.motion.clock) m x := by
  subst cut
  have own : cutModel m (s.booked k i b down) =
      s.edgedTo k i (b.edged down s.motion.clock) m (s.model m).asCut :=
    (cutModel_of_inPlay (s := s.booked k i b down) playing).trans (modModel_cut (s.booked k i b down) m)
  have entry : (s.edgedTo k i (b.edged down s.motion.clock) m (s.model m).asCut).entry i =
      some (b.edged down s.motion.clock) := tget_tput_self _ _ _
  rw [own, beginLockout_of_entry entry]
  unfold State.edgedTo
  dsimp only
  rw [tput_tput]

/-! ### The owner's edges -/

section
variable {s : State} {k : Key} {i : EntryIx} {b : Button} {down : Bool} (h : s.OneEdge k i b down)
  (awake : s.gallery = .opened ∨ s.gallery = .waking)
include h awake

/-- An edge that does the stuck bookkeeping alone. -/
theorem exec_of_idle_edge {m : ModelId}
    (idle : edgeCases i (b.edged down s.motion.clock) (edgeOf down) (s.booked k i b down) = s.booked k i b down) :
    ∃ t, exec (.panel k.node (s.flipped k) false) s = .next t ∧
      t.steady = (s.edgedTo k i (b.edged down s.motion.clock) m (s.model m)).steady ∧ s.EdgeFrame t k :=
  exec_of_awake h awake (idle.trans (booked_eq_edgedTo s k i b down m))

theorem exec_of_toggle_owner (toggle : b.mode = .toggle) (pressed : b.pressedBy down) (ready : b.lockoutTimer = none)
    (owns : s.ownsCue k b.modelId = true) :
    ∃ t, exec (.panel k.node (s.flipped k) false) s = .next t ∧
      t.steady = (beginLockout i (cutModel b.modelId (s.booked k i b down))).steady ∧ s.EdgeFrame t k := by
  refine exec_of_awake h awake ?_
  rw [edgeCases_of_pressed (b := b.edged down s.motion.clock) (fun call => by cases toggle.symm.trans call) pressed]
  rw [← h.key] at owns
  exact press_of_toggle_owner (b := b.edged down s.motion.clock) ready awake toggle owns

end

section
variable {s : State} {k : Key} {i : EntryIx} {b : Button} (hold : b.mode = .hold)
  (awake : s.gallery = .opened ∨ s.gallery = .waking)
include hold awake

/-- R67: a HOLD button's UP pauses the cue that it owns. -/
theorem exec_of_let_go (h : s.OneEdge k i b false) :
    ∃ t, exec (.panel k.node (s.flipped k) false) s = .next t ∧ t.steady =
      (if s.ownsCue k b.modelId then pauseModel b.modelId (s.booked k i b false) else s.booked k i b false).steady ∧
      s.EdgeFrame t k := by
  refine exec_of_awake h awake ?_
  rw [← h.key]
  exact edgeCases_of_let_go (b := b.edged false s.motion.clock) hold i (s.booked b.key i b false)

/-- R67: a HOLD button's DOWN resumes the cue that it owns, where PAUSE holds it. -/
theorem exec_of_hold_owner (h : s.OneEdge k i b true) (ready : b.lockoutTimer = none)
    (owns : s.ownsCue k b.modelId = true) :
    ∃ t, exec (.panel k.node (s.flipped k) false) s = .next t ∧ t.steady =
      (if (s.model b.modelId).holdPause then resumeModel b.modelId (s.booked k i b true)
        else s.booked k i b true).steady ∧ s.EdgeFrame t k := by
  refine exec_of_awake h awake ?_
  rw [edgeCases_of_pressed (b := b.edged true s.motion.clock) (fun call => by cases hold.symm.trans call)
    (.inl ⟨hold, rfl⟩)]
  rw [← h.key] at owns
  exact press_of_hold_owner (b := b.edged true s.motion.clock) ready awake hold owns

end

/-- Settles O18: by the case of R64 that the edge is. -/
theorem ownerEdgesAndCalls : Obligations.OwnerEdgesAndCalls := by
  intro k i b down s h agrees awake
  dsimp only
  have bookedAgrees := booked_agrees agrees k i b down
  refine ⟨fun toggle pressed ready owns => ?_, fun hold up owns => ?_, fun hold isDown ready owns => ?_,
    fun hold up free => ?_, fun other acting => ?_, fun call pressed ready => ?_⟩
  · obtain ⟨t, run, same, frame⟩ := exec_of_toggle_owner h awake toggle pressed ready owns
    refine ⟨t, run, fun running => ?_, fun holding held => ?_, fun holding free => ?_⟩ <;>
      refine left_of_edgedTo (same.trans (congrArg State.steady (beginLockout_cut ?_ ?_))) frame
    · exact .inl running
    · simp only [Model.asCut, running]
    · exact .inr holding
    · simp only [Model.asCut, holding, held, if_true]
    · exact .inr holding
    · simp [Model.asCut, holding, free]
  · subst up
    obtain ⟨t, run, same, frame⟩ := exec_of_let_go hold awake h
    rw [if_pos owns] at same
    exact ⟨t, run,
      fun running => left_of_edgedTo
        (same.trans (congrArg State.steady (pauseModel_of_running bookedAgrees running))) frame,
      fun holding cue unpaused => left_of_edgedTo
        (same.trans (congrArg State.steady (pauseModel_of_held (s := s.booked k i b false) holding cue unpaused)))
        frame⟩
  · subst isDown
    obtain ⟨t, run, same, frame⟩ := exec_of_hold_owner hold awake h ready owns
    refine ⟨t, run, fun holding paused free => ?_, fun holding paused held => ?_, fun unpaused => ?_⟩
    · rw [if_pos paused, resumeModel_of_paused (s := s.booked k i b true) holding paused free] at same
      exact left_of_edgedTo same frame
    · rw [if_pos paused, resumeModel_of_zone_held (s := s.booked k i b true) holding paused held] at same
      exact left_of_edgedTo same frame
    · rw [if_neg (by simp [unpaused]), booked_eq_edgedTo s k i b true b.modelId] at same
      exact left_of_edgedTo same frame
  · subst up
    obtain ⟨t, run, same, frame⟩ := exec_of_let_go hold awake h
    rw [if_neg (by simp [free]), booked_eq_edgedTo s k i b false b.modelId] at same
    exact ⟨t, run, left_of_edgedTo same frame⟩
  · obtain ⟨t, run, same, frame⟩ := exec_of_idle_edge h awake (m := b.modelId)
      (edgeCases_of_not_acting (b := b.edged down s.motion.clock) other acting i (s.booked k i b down))
    exact ⟨t, run, left_of_edgedTo same frame⟩
  · have entry : (raise (.visitorCall b.key) (s.booked k i b down)).entry i =
        some (b.edged down s.motion.clock) := by
      unfold State.entry
      rw [raise_press]
      exact booked_entry s k i b down
    obtain ⟨t, run, same, frame⟩ := exec_of_awake h awake
      ((edgeCases_of_called (b := b.edged down s.motion.clock) call pressed i _).trans
        (callEdge_of_ready (b := b.edged down s.motion.clock) ready awake))
    have called : raise (.visitorCall b.key) (s.booked k i b down) = { s.booked k i b down with
        alert := (raise (.visitorCall k) s).alert } := by
      rw [raise_eq, h.key, raise_alert_congr (.visitorCall k) (s := s.booked k i b down) (t := s) rfl rfl]
    have locked : beginLockout i (raise (.visitorCall b.key) (s.booked k i b down)) = { s with
        press := { s.press with
          recorded := tput s.press.recorded k.node (s.flipped k)
          buttons := tput s.press.buttons i (some ((b.edged down s.motion.clock).locked s.motion.clock)) }
        alert := (raise (.visitorCall k) s).alert } := by
      rw [beginLockout_of_entry entry, called]
      unfold State.booked
      dsimp only
      rw [tput_tput]
    rw [show (b.edged down s.motion.clock).key = b.key from rfl, locked] at same
    exact ⟨t, run, (congrArg State.alert same).trans rfl, (State.buttons_of_steady same).trans rfl,
      (State.waits_of_steady same).trans rfl, (State.tallies_of_steady same).trans rfl,
      (State.motion_of_steady same).trans rfl, (State.sup_of_steady same).trans rfl,
      (State.modeCtl_of_steady same).trans rfl, frame⟩

end Sys2Proof.Machine

/-! ## PANEL frames (O15): what every frame leaves, and edges that bring nothing -/

namespace Sys2Proof.Machine

/-! ### A HELLO that finds BAY_OUT busy (R84) -/

/-- R82: deriving a lamp marks panels dirty, and clears no mark. -/
theorem setLamp_dirty {n : NodeId} {s : State} (dirty : tget s.press.dirty n = true) (k : Key) (l : Lamp) :
    tget (setLamp k l s).press.dirty n = true := by
  have marked {t : State} (same : t.press.dirty = s.press.dirty) : tget (markDirty k.node t).press.dirty n = true := by
    unfold markDirty
    split
    · simp only [State.onPress, same, tget_tput, dirty, ite_self]
    · rw [same, dirty]
  unfold setLamp
  split
  · exact dirty
  · exact marked rfl

theorem deriveLamps_dirty {n : NodeId} {s : State} (dirty : tget s.press.dirty n = true) :
    tget (deriveLamps s).press.dirty n = true := by
  have derived (i : EntryIx) (t : State) (dirty : tget t.press.dirty n = true) :
      tget (deriveLamp i t).press.dirty n = true := by
    unfold deriveLamp
    split
    · exact setLamp_dirty dirty _ _
    · exact dirty
  unfold deriveLamps
  exact forEach_invariant (Good := fun t => tget t.press.dirty n = true) derived allEntries dirty

theorem takeOffer_press (s : State) : (takeOffer s).1.press = s.press := by
  unfold takeOffer
  (repeat' split) <;> rfl

@[simp] theorem takeSpine_press (s : State) : (takeSpine s).press = s.press := by
  unfold takeSpine
  split
  · rfl
  · split
    · rfl
    · have offered := takeOffer_press s
      split <;> rename_i pick
      · split at pick
        · rw [pick] at offered; exact offered
        · cases pick
      · split <;> rfl

/-- R84: a dirty panel stays so while BAY_OUT sends. -/
theorem settle_dirty {n : NodeId} {s : State} (dirty : tget s.press.dirty n = true)
    (sending : s.relay.bayOut.isSome = true) : tget (settle s).press.dirty n = true := by
  have busy : (deriveLamps s).relay.bayOut.isSome = true := by
    rw [State.relay_of_outer (deriveLamps_outer s)]; exact sending
  unfold settle takeUp
  split
  · rw [takeSpine_press, takeBay_of_sending busy]
    exact deriveLamps_dirty dirty
  · exact deriveLamps_dirty dirty

theorem markDirty_dirty {n : NodeId} {s : State} (role : (s.node n).role = .panel) :
    tget (markDirty n s).press.dirty n = true := by
  rw [markDirty, if_pos role]
  exact tget_tput_self _ _ _

/-! ### Every frame (R60) -/

theorem takePanel_of_panel {n : NodeId} {s : State} (role : (s.node n).role = .panel) (d : BitVec 16)
    (hello : Bool) : takePanel n d hello s = if hello then
      markDirty n (withEntryTest (forEach allButtons (panelButton n d)) s)
      else withEntryTest (forEach allButtons (panelButton n d)) s := if_pos role

theorem recordButton_backdrop (k : Key) (down : Bool) (s : State) : (recordButton k down s).backdrop =
    { s.backdrop with recorded := (recordButton k down s).press.recorded } := rfl

theorem forEach_panelButton_backdrop (n : NodeId) (d : BitVec 16) (s : State) :
    (forEach allButtons (panelButton n d) s).backdrop = { s.backdrop with recorded := tput s.press.recorded n d } := by
  have recorded := forEach_panelButton_recorded n d s
  have rest := forEach_keeps (fun t => { t.backdrop with recorded := s.press.recorded }) (panelButton n d)
    (fun b t => by
      unfold panelButton
      dsimp only
      (repeat' split) <;> simp [recordButton_backdrop]) allButtons s
  calc (forEach allButtons (panelButton n d) s).backdrop
    _ = { ({ (forEach allButtons (panelButton n d) s).backdrop with recorded := s.press.recorded } : Backdrop) with
          recorded := (forEach allButtons (panelButton n d) s).press.recorded } := rfl
    _ = _ := by rw [rest, recorded]

theorem takePanel_backdrop {n : NodeId} {s : State} (role : (s.node n).role = .panel) (d : BitVec 16)
    (hello : Bool) : (takePanel n d hello s).backdrop =
      { s.backdrop with recorded := tput s.press.recorded n d } := by
  have taken := withEntryTest_backdrop (forEach_panelButton_backdrop n d s)
  rw [takePanel_of_panel role]
  split <;> simp [taken]

/-- R60: a frame with the recorded set brings no edge. -/
theorem takePanel_of_same {n : NodeId} {d : BitVec 16} {s : State} (role : (s.node n).role = .panel)
    (same : tget s.press.recorded n = d) : takePanel n d false s = s := by
  have still : forEach allButtons (panelButton n d) s = s :=
    forEach_panelButton_of_same fun b _ => by rw [← same]; rfl
  rw [takePanel_of_panel role, if_neg Bool.false_ne_true, withEntryTest, still]
  split
  · exact endWakeTest_of_awake (by rename_i doze; rw [doze]; nofun)
  · rfl

/-! ### Edges that bring nothing but their bookkeeping (R64 case 1, R65, R66, R68, R71) -/

section
variable {s : State} {k : Key} {i : EntryIx} {b : Button} {down : Bool} (h : s.AnyEdge k i b down)
include h

/-- An edge that changes its entry and the fault table alone. -/
theorem exec_of_marking_edge {b' : Button} {faults : FaultTable}
    (answer : answerEdge i (b.edged down s.motion.clock) down (s.booked k i b down) = { s with
      press := { s.press with
        recorded := tput s.press.recorded k.node (s.flipped k), buttons := tput s.press.buttons i (some b') }
      sup := { s.sup with faults } }) :
    ∃ t, exec (.panel k.node (s.flipped k) false) s = .next t ∧
      t.press.buttons = tput s.press.buttons i (some b') ∧ t.sup = { s.sup with faults } ∧ t.motion = s.motion ∧
      t.press.waits = s.press.waits ∧ t.press.tallies = s.press.tallies ∧ t.modeCtl = s.modeCtl ∧
      t.steady.alert = s.steady.alert ∧ s.EdgeFrame t k := by
  have outer := answerEdge_outer h
  have backdrop := answerEdge_backdrop h
  obtain ⟨t, run, same⟩ := exec_of_edge_steady h fun doze waking => by
    rw [answer] at waking
    cases doze.symm.trans waking
  rw [answer] at same outer backdrop
  exact ⟨t, run, (State.buttons_of_steady same).trans rfl, (State.sup_of_steady same).trans rfl,
    (State.motion_of_steady same).trans rfl, (State.waits_of_steady same).trans rfl,
    (State.tallies_of_steady same).trans rfl, (State.modeCtl_of_steady same).trans rfl,
    (congrArg State.alert same).trans rfl, edgeFrame_of_backdrop same outer backdrop⟩

/-- R71: the UP of a SUSPECT button clears SUSPECT, and its condition. -/
theorem answerEdge_of_suspect_up (suspect : b.suspect = true) (up : down = false) :
    answerEdge i (b.edged down s.motion.clock) down (s.booked k i b down) = { s with
      press := { s.press with
        recorded := tput s.press.recorded k.node (s.flipped k)
        buttons := tput s.press.buttons i (some { b.edged down s.motion.clock with suspect := false }) }
      sup := { s.sup with
        faults := s.sup.faults.modify (.buttonStuck b.key) fun x => ⟨false, false, x.latched⟩ } } := by
  subst up
  have answer : answerEdge i (b.edged false s.motion.clock) false (s.booked k i b false) =
      clearSuspect i b.key (s.booked k i b false) := if_pos suspect
  rw [answer, clearSuspect, report_false, modEntry_of_entry (booked_entry s k i b false)]
  unfold State.booked
  dsimp only
  rw [tput_tput]
  rfl

/-- R71: the DOWN of a SUSPECT button is ignored. -/
theorem answerEdge_of_suspect_down (suspect : b.suspect = true) (isDown : down = true) :
    answerEdge i (b.edged down s.motion.clock) down (s.booked k i b down) = s.booked k i b down := by
  subst isDown
  exact if_pos suspect

end

theorem callPress_of_locked {b : Button} (locked : b.lockoutTimer.isSome = true) (i : EntryIx) (s : State) :
    callPress i b s = s := by
  unfold callPress Button.inLockout
  exact if_pos locked

theorem callPress_of_shut {s : State} (shut : s.gallery = .closed ∨ s.gallery = .service) (i : EntryIx) (b : Button) :
    callPress i b s = s := by
  unfold callPress
  split
  · rfl
  · rcases shut with e | e <;> rw [e]

/-- R66, R68: outside DOZE a press or a call in lockout brings nothing, nor does one in CLOSED or SERVICE. -/
theorem edgeCases_of_ignored {b : Button} {down : Bool} {s : State} (pressed : b.pressedBy down)
    (awake : s.gallery ≠ .doze)
    (ignored : b.lockoutTimer.isSome = true ∨ s.gallery = .closed ∨ s.gallery = .service) (i : EntryIx) :
    edgeCases i b (edgeOf down) s = s := by
  have still : sendWake s = s := if_neg awake
  by_cases call : b.mode = .call
  · rw [edgeCases_of_called call pressed, callEdge, still]
    rcases ignored with locked | shut
    · exact callPress_of_locked locked i s
    · exact callPress_of_shut shut i b
  · rw [edgeCases_of_pressed call pressed]
    rcases ignored with locked | shut | shut
    · exact press_of_locked locked i s
    · exact press_of_shut (.inl shut) i b
    · exact press_of_shut (.inr (.inl shut)) i b

/-- R65: in DOZE an UP press brings nothing, and wakes no bay. -/
theorem edgeCases_of_dozing_up {b : Button} {s : State} (pressed : b.pressedBy false) (visitor : b.mode ≠ .call)
    (doze : s.gallery = .doze) (i : EntryIx) : edgeCases i b (edgeOf false) s = s := by
  rw [edgeCases_of_pressed visitor pressed]
  exact press_of_shut (.inr (.inr doze)) i b

end Sys2Proof.Machine

/-! ## The edge that wakes a dozing bay (R65, R68, R156, R157) -/

namespace Sys2Proof.Machine

/-! ### What the operations keep of the mode and the wake-limit timer -/

def State.wake (s : State) : GalleryMode × Timer := (s.gallery, s.modeCtl.wakeTimer)

@[simp] theorem State.modModel_wake (s : State) (m : ModelId) (f : Model → Model) :
    (s.modModel m f).wake = s.wake := rfl
@[simp] theorem State.modMarks_wake (s : State) (id : FaultId) (f : Marks → Marks) :
    (s.modMarks id f).wake = s.wake := rfl
@[simp] theorem State.setWaits_wake (s : State) (m : ModelId) (l : List Request) : (s.setWaits m l).wake = s.wake := rfl
@[simp] theorem State.onTallies_wake (s : State) (f : Tallies → Tallies) : (s.onTallies f).wake = s.wake := rfl
@[simp] theorem beginLockout_wake (i : EntryIx) (s : State) : (beginLockout i s).wake = s.wake := rfl

@[simp] theorem quietTest_wake (b : Bool) (s : State) : (quietTest b s).wake = s.wake := by simp [State.wake]

@[simp] theorem raise_wake (a : About) (s : State) : (raise a s).wake = s.wake := by rw [raise_eq]; rfl

@[simp] theorem syncQuiet_wake (old new : Model) (s : State) : (syncQuiet old new s).wake = s.wake := by
  unfold syncQuiet
  (repeat' split) <;> simp

@[simp] theorem syncOutOfService_wake (m : ModelId) (old new : Model) (s : State) :
    (syncOutOfService m old new s).wake = s.wake := by
  unfold syncOutOfService flushList quench
  split <;> simp

@[simp] theorem changeModel_wake (m : ModelId) (f : Model → Model) (s : State) :
    (changeModel m f s).wake = s.wake := by
  obtain ⟨w, changed⟩ := s.changed_eq m (f (s.model m))
  rw [changeModel_eq, syncQuiet_wake, syncOutOfService_wake, changed]
  rfl

@[simp] theorem driveReport_wake (m : ModelId) (s : State) : (driveReport m s).wake = s.wake := by
  rw [driveReport_eq, raise_wake]
  split
  · rfl
  · exact changeModel_wake _ _ _

@[simp] theorem startRequest_wake (m : ModelId) (c : CueId) (o : Owner) (p : Bool) (s : State) :
    (startRequest m c o p s).1.wake = s.wake := by
  rw [startRequest_eq]
  cases s.verdict m c o <;> simp [startCue]

@[simp] theorem removeEntry_wake (m : ModelId) (s : State) : (removeEntry m s).wake = s.wake := quietTest_wake _ _

@[simp] theorem serveEntry_wake (m : ModelId) (c : CueId) (s : State) : (serveEntry m c s).1.wake = s.wake := by
  have decided := startRequest_wake m c .control false s
  unfold serveEntry
  split <;> rename_i e <;> rw [e] at decided <;> simpa using decided

@[simp] theorem becomeFree_wake (m : ModelId) (s : State) : (becomeFree m s).wake = s.wake := by
  unfold becomeFree
  split
  · rfl
  · rename_i e _
    have served := serveEntry_wake m e.cue s
    split <;> rename_i h <;> rw [h] at served <;> exact served

@[simp] theorem freeAll_wake (s : State) : (freeAll s).wake = s.wake :=
  forEach_keeps State.wake _ (fun m t => by unfold freeIfStartable; split <;> simp) _ _

/-- R152: a bay that opens is in OPEN with its wake-limit timer stopped. -/
@[simp] theorem enterOpen_wake (s : State) : (enterOpen s).wake = (.opened, none) := by
  rw [enterOpen, quietTest_wake, freeAll_wake]
  rfl

@[simp] theorem joinList_wake (b : Button) (s : State) : (joinList b s).wake = s.wake := by
  unfold joinList
  dsimp only
  (repeat' split) <;> simp

@[simp] theorem pressStart_wake (i : EntryIx) (b : Button) (s : State) : (pressStart i b s).wake = s.wake := by
  have decided := startRequest_wake b.modelId b.cueId (.button b.key) false s
  unfold pressStart
  split <;> rename_i e <;> rw [e] at decided <;> simpa using decided

@[simp] theorem press_wake (i : EntryIx) (b : Button) (s : State) : (press i b s).wake = s.wake := by
  unfold press
  dsimp only
  (repeat' split) <;> simp [cutModel, resumeModel]

@[simp] theorem callPress_wake (i : EntryIx) (b : Button) (s : State) : (callPress i b s).wake = s.wake := by
  unfold callPress
  (repeat' split) <;> simp

theorem edgeCases_wake {s : State} (awake : s.gallery ≠ .doze) (i : EntryIx) (b : Button) (e : Edge) :
    (edgeCases i b e s).wake = s.wake := by
  have still : sendWake s = s := if_neg awake
  unfold edgeCases callEdge
  (repeat' split) <;> simp [pauseModel, still]

theorem State.wake_of_steady {s t : State} (h : t.steady = s.steady) : t.wake = s.wake := by
  have same : t.steady.wake = s.steady.wake := by rw [h]
  exact same

/-! ### The wake test (R157) -/

theorem allEnergised_iff (s : State) :
    s.allEnergised = true ↔ ∀ m, (s.model m).state = .disabled ∨ (s.watch m).energised = true := by
  simp [State.allEnergised, allModels]

/-- An edge puts no model in or out of service from DISABLED, and keeps the energised records. -/
theorem edgeCases_allEnergised (i : EntryIx) (b : Button) (e : Edge) (s : State) :
    (edgeCases i b e s).allEnergised = s.allEnergised := by
  have disabled (m : ModelId) : (((edgeCases i b e s).model m).state == .disabled) = ((s.model m).state == .disabled) :=
    congrArg (fun x : ModelConfig × Option ModelConfig × Bool × Int × Nat => x.2.2.1) (edgeCases_berth i b e m s)
  have energised (m : ModelId) : ((edgeCases i b e s).watch m).energised = (s.watch m).energised :=
    congrFun (congrArg Backdrop.energised (edgeCases_backdrop i b e s)) m
  simp only [State.allEnergised, disabled, energised]

theorem State.allEnergised_of_steady {s t : State} (h : t.steady = s.steady) : t.allEnergised = s.allEnergised := by
  have same : t.steady.allEnergised = s.steady.allEnergised := by rw [h]
  exact same

theorem deriveLamps_gallery (s : State) : (deriveLamps s).gallery = s.gallery :=
  congrArg ModeControl.mode (State.modeCtl_of_steady (deriveLamps_steady s))

/-- R157: the end-of-wake test of a bay in WAKING, after its lamps are derived. -/
theorem endWakeTest_of_waking {s : State} (waking : s.gallery = .waking) :
    endWakeTest (deriveLamps s) = if s.allEnergised then enterOpen (deriveLamps s) else deriveLamps s := by
  unfold endWakeTest
  rw [deriveLamps_gallery, State.allEnergised_of_steady (deriveLamps_steady s)]
  cases s.allEnergised <;> simp [waking]

/-! ### The wake -/

/-- R156: a bay whose wake begins. -/
def State.woken (s : State) : State :=
  { s with modeCtl := ⟨.waking, none, some (s.settings.wakeLimit * 100)⟩ }

theorem sendWake_of_doze {s : State} (doze : s.gallery = .doze) : sendWake s = s.woken := by
  have stirring : (s.onMode fun q =>
      { q with mode := .waking, wakeTimer := some (s.settings.wakeLimit * 100) }).quiet = false := by
    simp [State.quiet, State.gallery, State.onMode]
  unfold sendWake beginWake
  dsimp only
  rw [if_pos doze, quietTest_of_not_quiet stirring]
  rfl

/-- R65, R68: the edge wakes the bay and is taken as in WAKING. -/
theorem answerEdge_of_doze {b : Button} {s : State} {down : Bool} (sound : b.suspect = false)
    (doze : s.gallery = .doze) (wakes : down = true ∨ (b.mode = .call ∧ b.acting = .up)) (i : EntryIx) :
    answerEdge i b down s = edgeCases i b (edgeOf down) s.woken := by
  have still : sendWake s.woken = s.woken := if_neg (show GalleryMode.waking ≠ .doze by decide)
  unfold answerEdge
  rw [sound]
  cases down
  case true => rw [← sendWake_of_doze doze]; rfl
  case false =>
    obtain wakes | ⟨call, acting⟩ := wakes
    · cases wakes
    have pressed : b.pressedBy false := .inr ⟨by rw [call]; nofun, acting⟩
    calc edgeCases i b .up s
      _ = callPress i b (sendWake s) := edgeCases_of_called call pressed i s
      _ = callPress i b (sendWake s.woken) := by rw [still, sendWake_of_doze doze]
      _ = edgeCases i b (edgeOf false) s.woken := (edgeCases_of_called call pressed i s.woken).symm

section
variable {s : State} {k : Key} {i : EntryIx} {b : Button} {down : Bool} (h : s.AnyEdge k i b down)
  (sound : b.suspect = false) (doze : s.gallery = .doze) (wakes : down = true ∨ (b.mode = .call ∧ b.acting = .up))
include h sound doze wakes

/-- The frame of an edge that wakes the bay: the wake's test comes once the edge is taken. -/
theorem exec_of_waking_edge : exec (.panel k.node (s.flipped k) false) s = .next (settle (endWakeTest (deriveLamps
    (edgeCases i (b.edged down s.motion.clock) (edgeOf down) (s.woken.booked k i b down))))) := by
  rw [exec_of_edge h, withEntryTest, if_pos doze,
    answerEdge_of_doze (b := b.edged down s.motion.clock) (s := s.booked k i b down) sound doze wakes]
  rfl

/-- R65: where a drive is not energised, the edge is taken as in WAKING. -/
theorem exec_of_waking_edge_eq (dark : ∃ m, (s.model m).state ≠ .disabled ∧ (s.watch m).energised = false) :
    exec (.panel k.node (s.flipped k) false) s = exec (.panel k.node (s.flipped k) false) s.woken := by
  have woken : s.woken.AnyEdge k i b down := ⟨h.running, h.role, h.mapped, h.entry, h.edge⟩
  have awake : s.woken.gallery ≠ .doze := show GalleryMode.waking ≠ .doze by decide
  have unlit : (s.woken.booked k i b down).allEnergised = false := by
    obtain ⟨m, inService, dark⟩ := dark
    rw [← Bool.not_eq_true, allEnergised_iff]
    intro all
    rcases all m with e | e
    · exact inService e
    · cases e.symm.trans dark
  have waking : (edgeCases i (b.edged down s.motion.clock) (edgeOf down) (s.woken.booked k i b down)).gallery =
      .waking := congrArg Prod.fst (edgeCases_wake (s := s.woken.booked k i b down) awake i _ _)
  rw [exec_of_waking_edge h sound doze wakes, endWakeTest_of_waking waking, edgeCases_allEnergised, unlit]
  refine Eq.trans ?_ (exec_of_edge woken).symm
  rw [withEntryTest, if_neg awake,
    answerEdge_of_awake (b := b.edged down s.woken.motion.clock) (s := s.woken.booked k i b down) sound awake]
  rfl

end

end Sys2Proof.Machine

/-! ## The bay that opens after the frame (log 15) -/

namespace Sys2Proof.Machine

/-! ### The entry into OPEN with no entry due (R9, R152) -/

/-- Model-free notices sent for these models. -/
def State.withNotices (s : State) (l : List ModelId) : State :=
  { s with motion := { s.motion with freeNotices := s.motion.freeNotices ++ l } }

/-- The models that become free when the bay opens. -/
def State.freed (s : State) : List ModelId := allModels.filter fun m =>
  (s.model m).state == .idle && !s.maskOccupied (s.model m).config.zoneMask && !s.sup.stopAsserted

theorem withNotices_nil (s : State) : s.withNotices [] = s := by simp [State.withNotices]

theorem withNotices_append (s : State) (l l' : List ModelId) :
    (s.withNotices l).withNotices l' = s.withNotices (l ++ l') := by simp [State.withNotices]

section
variable {s : State} (undue : ∀ e ∈ s.motion.schedule, e.due = none)
include undue

theorem dueEntry_of_undue (m : ModelId) : s.dueEntry m = none := by
  unfold State.dueEntry
  rw [List.find?_eq_none]
  intro e member
  simp [undue e member]

/-- R9: with no entry due, a model that becomes free has its notice sent. -/
theorem freeIfStartable_of_undue (m : ModelId) :
    freeIfStartable m s = s.withNotices (if s.startable m .control then [m] else []) := by
  unfold freeIfStartable becomeFree
  rw [dueEntry_of_undue undue]
  split
  · rfl
  · exact (withNotices_nil s).symm

end

theorem forEach_free_of_undue (ms : List ModelId) {s : State} (undue : ∀ e ∈ s.motion.schedule, e.due = none) :
    forEach ms freeIfStartable s = s.withNotices (ms.filter fun m => s.startable m .control) := by
  induction ms generalizing s with
  | nil => exact (withNotices_nil s).symm
  | cons m rest ih =>
    rw [forEach_cons, freeIfStartable_of_undue undue, ih (s := s.withNotices _) undue, withNotices_append]
    have kept (l : List ModelId) (j : ModelId) : (s.withNotices l).startable j .control = s.startable j .control := rfl
    simp only [kept, List.filter_cons]
    split <;> rfl

theorem enterOpen_of_undue {s : State} (undue : ∀ e ∈ s.motion.schedule, e.due = none) :
    ∃ q, enterOpen s = { s.withNotices s.freed with modeCtl := q } := by
  have free (j : ModelId) : (stopWakeTimer (setMode .opened s)).startable j .control =
      ((s.model j).state == .idle && !s.maskOccupied (s.model j).config.zoneMask && !s.sup.stopAsserted) := by
    exact Bool.and_true _
  obtain ⟨q, eq, -⟩ := quietTest_eq false (freeAll (stopWakeTimer (setMode .opened s)))
  refine ⟨q, ?_⟩
  rw [enterOpen, eq, freeAll, forEach_free_of_undue (s := stopWakeTimer (setMode .opened s)) allModels undue]
  simp only [free]
  rfl

/-- A bay that opens with no entry due sends its notices and changes no other block. -/
theorem opened_of_undue {s : State} (undue : ∀ e ∈ s.motion.schedule, e.due = none) :
    let t := settle (enterOpen (deriveLamps s))
    t.motion = { s.motion with freeNotices := s.motion.freeNotices ++ s.freed } ∧ t.sup = s.sup ∧
      t.press.buttons = s.press.buttons ∧ t.press.waits = s.press.waits ∧ t.press.tallies = s.press.tallies ∧
      t.steady.alert = s.steady.alert := by
  have lit := deriveLamps_steady s
  have motion := State.motion_of_steady lit
  have sup := State.sup_of_steady lit
  obtain ⟨q, eq⟩ := enterOpen_of_undue (s := deriveLamps s) (by rwa [motion])
  have freed : (deriveLamps s).freed = s.freed := by
    simp only [State.freed, State.model, State.maskOccupied, State.zoneOccupied, motion, sup]
  have same := settle_steady (enterOpen (deriveLamps s))
  rw [eq, freed] at same
  generalize deriveLamps s = u at *
  rw [eq, freed]
  generalize settle _ = t at *
  have buttons := State.buttons_of_steady lit
  have waits := State.waits_of_steady lit
  have tallies := State.tallies_of_steady lit
  have alert := congrArg State.alert lit
  refine ⟨(State.motion_of_steady same).trans ?_, (State.sup_of_steady same).trans sup,
    (State.buttons_of_steady same).trans buttons, (State.waits_of_steady same).trans waits,
    (State.tallies_of_steady same).trans tallies, (congrArg State.alert same).trans alert⟩
  rw [← motion]
  rfl

end Sys2Proof.Machine

/-! ## The presses of a frame that wakes the bay (O15) -/

namespace Sys2Proof.Machine

/-! ### Presses in WAKING (R5, R6, R66) -/

/-- R6: a model that is out of service. -/
def Model.isOut (x : Model) : Prop :=
  x.state = .disabled ∨ x.state = .enabling ∨ x.state = .stopped ∨ x.state = .faulted

theorem verdict_of_out {s : State} {m : ModelId} (out : (s.model m).isOut) (c : CueId) (o : Owner) :
    s.verdict m c o = .notReady := by
  unfold State.verdict
  rcases out with e | e | e | e <;> rw [e]

/-- R5, R6: in WAKING no model in service starts. -/
theorem verdict_of_waking {s : State} {m : ModelId} (waking : s.gallery = .waking) (service : ¬ (s.model m).isOut)
    (c : CueId) (o : Owner) : s.verdict m c o = .busy ∨ s.verdict m c o = .blocked ∨ s.verdict m c o = .mode := by
  unfold Model.isOut at service
  unfold State.verdict
  cases state : (s.model m).state <;> simp_all [modeAllows]

/-- R66: in WAKING a press touches the wait lists, the tallies and Mode Control only. -/
theorem pressStart_of_waking {s : State} {b : Button} (waking : s.gallery = .waking) (i : EntryIx) : ∃ w g q,
    pressStart i b s = { s with press := { s.press with waits := w, tallies := g }, modeCtl := q } := by
  by_cases out : (s.model b.modelId).isOut
  · exact ⟨_, _, _, pressStart_of_not_ready (verdict_of_out out _ _)⟩
  · rw [pressStart_of_waits (verdict_of_waking waking out _ _)]
    exact joinList_eq b s

/-! ### The bay opens after the frame -/

theorem woken_all {s : State} (lit : ∀ m, (s.model m).state = .disabled ∨ (s.watch m).energised = true) (k : Key)
    (i : EntryIx) (b : Button) (down : Bool) : (s.woken.booked k i b down).allEnergised = true :=
  (allEnergised_iff _).mpr lit

theorem opened_wake (s : State) : (settle (enterOpen (deriveLamps s))).gallery = .opened ∧
    (settle (enterOpen (deriveLamps s))).modeCtl.wakeTimer = none := by
  have wake := (State.wake_of_steady (settle_steady (enterOpen (deriveLamps s)))).trans (enterOpen_wake _)
  exact Prod.mk.inj wake

section
variable {s : State} {k : Key} {i : EntryIx} {b : Button} {down : Bool} (h : s.AnyEdge k i b down)
  (sound : b.suspect = false) (doze : s.gallery = .doze) (wakes : down = true ∨ (b.mode = .call ∧ b.acting = .up))
  (lit : ∀ m, (s.model m).state = .disabled ∨ (s.watch m).energised = true)
include h sound doze wakes lit

/-- R65, log 15: with every drive energised the bay opens once the edge is taken. -/
theorem exec_of_opening_edge : exec (.panel k.node (s.flipped k) false) s = .next (settle (enterOpen (deriveLamps
    (edgeCases i (b.edged down s.motion.clock) (edgeOf down) (s.woken.booked k i b down))))) := by
  have awake : (s.woken.booked k i b down).gallery ≠ .doze := show GalleryMode.waking ≠ .doze by decide
  have waking : (edgeCases i (b.edged down s.motion.clock) (edgeOf down) (s.woken.booked k i b down)).gallery =
      .waking := congrArg Prod.fst (edgeCases_wake awake i _ _)
  rw [exec_of_waking_edge h sound doze wakes, endWakeTest_of_waking waking, edgeCases_allEnergised,
    woken_all lit, if_pos rfl]

end

/-- R68: a call in WAKING changes its entry and the alerts. -/
theorem callEdge_of_woken {s : State} {k : Key} {i : EntryIx} {b : Button} {down : Bool} (key : b.key = k)
    (ready : b.lockoutTimer = none) : callEdge i (b.edged down s.motion.clock) (s.woken.booked k i b down) =
      { s.woken with
        press := { s.press with
          recorded := tput s.press.recorded k.node (s.flipped k)
          buttons := tput s.press.buttons i (some ((b.edged down s.motion.clock).locked s.motion.clock)) }
        alert := (raise (.visitorCall k) s).alert } := by
  have entry : (raise (.visitorCall b.key) (s.woken.booked k i b down)).entry i =
      some (b.edged down s.motion.clock) := by
    unfold State.entry
    rw [raise_press]
    exact booked_entry s.woken k i b down
  have called : raise (.visitorCall b.key) (s.woken.booked k i b down) = { s.woken.booked k i b down with
      alert := (raise (.visitorCall k) s).alert } := by
    rw [raise_eq, key, raise_alert_congr (.visitorCall k) (s := s.woken.booked k i b down) (t := s) rfl rfl]
  refine (callEdge_of_ready (b := b.edged down s.motion.clock) ready (.inr rfl)).trans ?_
  refine (beginLockout_of_entry entry).trans ?_
  rw [called]
  unfold State.booked
  dsimp only
  rw [tput_tput]
  rfl

/-! ### The first edge of the frame leaves the later press its way -/

/-- What the edge of a button that owns no cue leaves in WAKING: its entry keeps its key, and its request may have
joined a list. -/
structure State.Brushes (s t : State) (k : Key) (i : EntryIx) : Prop where
  motion : t.motion = s.motion
  entries : ∀ j, j ≠ i → t.entry j = s.entry j
  keys : ∀ j, (t.entry j).map Button.key = (s.entry j).map Button.key
  waits : ∀ m, t.waits m = s.waits m ∨ ∃ r : Request, r.key = k ∧ t.waits m = s.waits m ++ [r]

theorem State.Brushes.refl (s : State) (k : Key) (i : EntryIx) : s.Brushes s k i :=
  ⟨rfl, fun _ _ => rfl, fun _ => rfl, fun _ => .inl rfl⟩

theorem beginLockout_brushes (s : State) (k : Key) (i : EntryIx) : s.Brushes (beginLockout i s) k i := by
  refine ⟨rfl, fun j other => ?_, fun j => ?_, fun m => .inl rfl⟩
  · exact (State.modEntry_entry s i j _).trans (if_neg other)
  · refine (congrArg (Option.map Button.key) (State.modEntry_entry s i j _)).trans ?_
    split
    · rename_i e
      rw [e, Option.map_map]
      rfl
    · rfl

theorem joinList_brushes (b : Button) (s : State) (i : EntryIx) : s.Brushes (joinList b s) b.key i := by
  obtain ⟨w, g, q, eq⟩ := joinList_eq b s
  have waits (m : ModelId) : (joinList b s).waits m = s.waits m ∨
      ∃ r : Request, r.key = b.key ∧ (joinList b s).waits m = s.waits m ++ [r] := by
    by_cases valid : s.cueValid b.cueId = true
    · by_cases room : (s.waits b.modelId).length < (s.model b.modelId).config.waitDepth
      · rw [joinList_of_room valid room]
        by_cases own : m = b.modelId
        · subst own
          exact .inr ⟨_, rfl, tget_tput_self _ _ _⟩
        · exact .inl ((tget_tput _ _ _ _).trans (if_neg own))
      · rw [joinList_of_full valid (Nat.not_lt.mp room)]
        exact .inl rfl
    · rw [joinList_of_invalid (by simpa using valid)]
      exact .inl rfl
  rw [eq] at waits ⊢
  exact ⟨rfl, fun _ _ => rfl, fun _ => rfl, waits⟩

theorem pressStart_brushes {s : State} (waking : s.gallery = .waking) (b : Button) (i : EntryIx) :
    s.Brushes (pressStart i b s) b.key i := by
  by_cases out : (s.model b.modelId).isOut
  · rw [pressStart_of_not_ready (verdict_of_out out _ _)]
    exact ⟨rfl, fun _ _ => rfl, fun _ => rfl, fun _ => .inl rfl⟩
  · rw [pressStart_of_waits (verdict_of_waking waking out _ _)]
    exact joinList_brushes b s i

theorem press_brushes {s : State} (waking : s.gallery = .waking) {b : Button}
    (stranger : s.ownsCue b.key b.modelId = false) (i : EntryIx) : s.Brushes (press i b s) b.key i := by
  cases locked : b.lockoutTimer with
  | some t => rw [press_of_locked (by rw [locked]; rfl)]; exact .refl s _ _
  | none =>
    cases listed : s.isWaiting b.key b.modelId with
    | true =>
      rw [press_of_ready locked (.inr waking), if_neg (by simp [stranger]), if_neg (by simp [stranger]), if_pos listed]
      exact .refl s _ _
    | false =>
      rw [press_of_new locked (.inr waking) stranger listed]
      exact pressStart_brushes waking b i

theorem callEdge_brushes {s : State} (waking : s.gallery = .waking) (b : Button) (i : EntryIx) :
    s.Brushes (callEdge i b s) b.key i := by
  have still : sendWake s = s := if_neg (by rw [waking]; nofun)
  cases locked : b.lockoutTimer with
  | some t =>
    rw [callEdge, still, callPress_of_locked (by rw [locked]; rfl)]
    exact .refl s _ _
  | none =>
    obtain ⟨motion, entries, keys, waits⟩ := beginLockout_brushes (raise (.visitorCall b.key) s) b.key i
    rw [callEdge_of_ready locked (.inr waking)]
    have press : (raise (.visitorCall b.key) s).press = s.press := raise_press _ _
    simp only [State.entry, State.waits, press] at entries keys waits
    exact ⟨motion.trans (raise_motion _ _), entries, keys, waits⟩

theorem edgeCases_brushes {s : State} (waking : s.gallery = .waking) {b : Button}
    (stranger : s.ownsCue b.key b.modelId = false) (i : EntryIx) (e : Edge) :
    s.Brushes (edgeCases i b e s) b.key i := by
  have pressed := press_brushes waking stranger i
  have called := callEdge_brushes waking b i
  have none := State.Brushes.refl s b.key i
  unfold edgeCases
  split
  · rwa [if_neg (by simp [stranger])]
  · exact pressed
  · split
    · exact called
    · exact none
  all_goals
    split
    · exact pressed
    · exact none

end Sys2Proof.Machine

/-! ## A later press of the frame that wakes the bay (O15) -/

namespace Sys2Proof.Machine

/-- The entry of a key is known from the keys of the entries. -/
theorem entryOf_of_keys {s t : State} (keys : ∀ j, (t.entry j).map Button.key = (s.entry j).map Button.key) (k : Key) :
    t.entryOf k = s.entryOf k := by
  have holds (u : State) (j : EntryIx) :
      ((u.entry j).any fun b => b.key == k) = ((u.entry j).map Button.key).any (· == k) := by
    cases u.entry j <;> rfl
  unfold State.entryOf
  simp only [holds, keys]

/-- The recorded set after two edges. -/
theorem flipped_twice_getLsbD {s : State} {k later : Key} {down : Bool} (edge : s.isDown k = !down)
    (edge' : s.isDown later = !true) (node : later.node = k.node) (order : k.button < later.button) (c : ButtonIx) :
    (s.flipped k ^^^ BitVec.twoPow 16 later.button.val).getLsbD c.val =
      if c = k.button then down else if c = later.button then true else s.isDown ⟨k.node, c⟩ := by
  have apart : k.button ≠ later.button := order.ne
  have second : (BitVec.twoPow 16 later.button.val).getLsbD c.val = decide (c = later.button) := by
    by_cases e : c = later.button
    · subst e; simp
    · have apart : c.val ≠ later.button.val := fun h => e (Fin.ext h)
      simp [e, apart]
  have read : s.isDown ⟨k.node, later.button⟩ = false := by rw [← node]; exact edge'
  rw [BitVec.getLsbD_xor, flipped_getLsbD, second, edge, Bool.not_not]
  by_cases first : c = k.button
  · subst first; simp [apart]
  · by_cases e : c = later.button
    · subst e; simp [first, read]
    · simp [first, e]

theorem later_entry_ne {s : State} {k later : Key} {i j : EntryIx} {b b' : Button} {down : Bool}
    (h : s.AnyEdge k i b down) (h' : s.AnyEdge later j b' true) (order : k.button < later.button) : j ≠ i := by
  intro e
  have one : some b' = some b := h'.entry.symm.trans ((congrArg s.entry e).trans h.entry)
  have key : later = k := h'.key.symm.trans ((congrArg Button.key (Option.some.inj one)).trans h.key)
  rw [key] at order
  exact lt_irrefl _ order

section
variable {s : State} {k later : Key} {i j : EntryIx} {b b' : Button} {down : Bool} (h : s.AnyEdge k i b down)
  (h' : s.AnyEdge later j b' true) (node : later.node = k.node) (order : k.button < later.button)
include h h' node order

/-- R60: the two edges of the frame are taken in ascending button number. -/
theorem forEach_of_two_edges {u : State} (first : panelButton k.node
      (s.flipped k ^^^ BitVec.twoPow 16 later.button.val) k.button s = u)
    (again : u.AnyEdge later j b' true) :
    forEach allButtons (panelButton k.node (s.flipped k ^^^ BitVec.twoPow 16 later.button.val)) s =
      deriveLamps (answerEdge j (b'.edged true u.motion.clock) true (u.booked later j b' true)) := by
  let d := s.flipped k ^^^ BitVec.twoPow 16 later.button.val
  have bits (c : ButtonIx) := flipped_twice_getLsbD h.edge h'.edge node order c
  have unlike : ¬ later.button = k.button := order.ne'
  have turned (c : ButtonIx) : u.isDown ⟨k.node, c⟩ = if c = k.button then down else s.isDown ⟨k.node, c⟩ := by
    rw [← first, panelButton_isDown, bits, if_pos rfl]
    by_cases own : c = k.button
    · subst own; rw [if_pos rfl, if_pos rfl]
    · rw [if_neg own, if_neg fun same => own (congrArg Key.button same)]
  have still {c : ButtonIx} (other : c ≠ k.button) (other' : c ≠ later.button) {v : State}
      (same : v.isDown ⟨k.node, c⟩ = s.isDown ⟨k.node, c⟩) : v.isDown ⟨k.node, c⟩ = d.getLsbD c.val := by
    rw [same, bits, if_neg other, if_neg other']
  obtain ⟨before, after, split, low, high, sorted⟩ := allButtons_split k.button
  have listed : later.button ∈ after := by
    have all : later.button ∈ before ++ k.button :: after := split ▸ List.mem_finRange later.button
    rcases List.mem_append.mp all with member | member
    · exact absurd (low _ member) (not_lt.mpr order.le)
    · exact (List.mem_cons.mp member).resolve_left unlike
  obtain ⟨mid, rest, split'⟩ := List.append_of_mem listed
  rw [split'] at sorted high
  obtain ⟨-, tail, between⟩ := List.pairwise_append.mp sorted
  obtain ⟨beyond, -⟩ := List.pairwise_cons.mp tail
  have kept {c : ButtonIx} (other : c ≠ k.button) : u.isDown ⟨k.node, c⟩ = s.isDown ⟨k.node, c⟩ := by
    rw [turned, if_neg other]
  have bit : d.getLsbD later.button.val = true := by rw [bits, if_neg unlike, if_pos rfl]
  have second : panelButton k.node d later.button u =
      deriveLamps (answerEdge j (b'.edged true u.motion.clock) true (u.booked later j b' true)) := by
    rw [← node]; exact panelButton_of_edge again bit
  have early : forEach before (panelButton k.node d) s = s := forEach_panelButton_of_same fun c member =>
    still (low c member).ne ((low c member).trans order).ne rfl
  have middle : forEach mid (panelButton k.node d) u = u := forEach_panelButton_of_same fun c member => by
    have other : c ≠ k.button := (high c (by simp [member])).ne'
    exact still other (between c member later.button List.mem_cons_self).ne (kept other)
  have late : forEach rest (panelButton k.node d) (panelButton k.node d later.button u) =
      panelButton k.node d later.button u := forEach_panelButton_of_same fun c member => by
    have other : c ≠ k.button := (high c (by simp [member])).ne'
    have other' : c ≠ later.button := (beyond c member).ne'
    refine still other other' ?_
    rw [panelButton_isDown, if_neg fun same => other' (congrArg Key.button same), kept other]
  rw [split, forEach_append, early, forEach_cons, first, split', forEach_append, middle, forEach_cons, late, second]

end

/-! ### The state that the first edge leaves -/

theorem State.Brushes.of_booked {s t : State} {k : Key} {i : EntryIx} {b : Button} {down : Bool}
    (entry : s.entry i = some b) (brushes : (s.woken.booked k i b down).Brushes t k i) : s.Brushes t k i := by
  have booked (j : EntryIx) : (s.woken.booked k i b down).entry j =
      if j = i then some (b.edged down s.motion.clock) else s.entry j := tget_tput _ _ _ _
  refine ⟨brushes.motion, fun j other => ?_, fun j => ?_, brushes.waits⟩
  · rw [brushes.entries j other, booked, if_neg other]
  · rw [brushes.keys, booked]
    split
    · rename_i e
      rw [e, entry]
      rfl
    · rfl

theorem State.Brushes.of_steady {s t u : State} {k : Key} {i : EntryIx} (same : u.steady = t.steady)
    (brushes : s.Brushes t k i) : s.Brushes u k i := by
  obtain ⟨motion, entries, keys, waits⟩ := brushes
  have buttons (j : EntryIx) : u.entry j = t.entry j :=
    congrArg (fun v => tget v j) (State.buttons_of_steady same)
  have lists (m : ModelId) : u.waits m = t.waits m := congrArg (fun v => tget v m) (State.waits_of_steady same)
  exact ⟨(State.motion_of_steady same).trans motion, fun j other => (buttons j).trans (entries j other),
    fun j => by rw [buttons, keys], fun m => by rw [lists]; exact waits m⟩

section
variable {s : State} {k : Key} {i : EntryIx} {b : Button} {down : Bool} (h : s.AnyEdge k i b down)
  (sound : b.suspect = false) (doze : s.gallery = .doze) (wakes : down = true ∨ (b.mode = .call ∧ b.acting = .up))
include h sound doze wakes

/-- R65: the edge that wakes the bay leaves it WAKING for the rest of its frame. -/
theorem panelButton_of_waking_edge {d : BitVec 16} (bit : d.getLsbD k.button.val = down) :
    ∃ u, panelButton k.node d k.button s = u ∧ u.gallery = .waking ∧ u.outer = s.outer ∧
      u.allEnergised = s.allEnergised ∧ (s.ownsCue k b.modelId = false → s.Brushes u k i) := by
  have waking : (s.woken.booked k i b down).gallery = .waking := rfl
  have first := panelButton_of_edge h bit
  rw [answerEdge_of_doze (b := b.edged down s.motion.clock) (s := s.booked k i b down) sound doze wakes] at first
  have same := deriveLamps_steady (edgeCases i (b.edged down s.motion.clock) (edgeOf down) (s.woken.booked k i b down))
  refine ⟨_, first, ?_, ?_, ?_, fun stranger => ?_⟩
  · rw [deriveLamps_gallery]
    exact congrArg Prod.fst (edgeCases_wake (s := s.woken.booked k i b down) (by rw [waking]; nofun) i _ _)
  · rw [deriveLamps_outer, edgeCases_outer]
    rfl
  · exact (State.allEnergised_of_steady same).trans (edgeCases_allEnergised _ _ _ _)
  · rw [← h.key] at stranger
    have brushes := edgeCases_brushes (b := b.edged down s.motion.clock) waking stranger i (edgeOf down)
    rw [show (b.edged down s.motion.clock).key = k from h.key] at brushes
    exact .of_steady same (.of_booked h.entry brushes)

end

/-! ### The later press -/

section
variable {s u : State} {k later : Key} {i j : EntryIx} {b' : Button} (brushes : s.Brushes u k i)
include brushes

theorem State.Brushes.model (m : ModelId) : u.model m = s.model m :=
  congrArg (fun q : MotionSequencer => tget q.models m) brushes.motion

/-- A later edge of the frame is an edge of what the first has left. -/
theorem State.Brushes.anyEdge (h' : s.AnyEdge later j b' true) (ne : j ≠ i)
    (outer : u.outer = s.outer) (edge : u.isDown later = s.isDown later) :
    u.AnyEdge later j b' true where
  running := by
    have pins := State.pins_of_outer outer
    unfold State.running
    rw [pins]
    exact h'.running
  role := by
    have relay := State.relay_of_outer outer
    unfold State.node
    rw [relay]
    exact h'.role
  mapped := (entryOf_of_keys brushes.keys later).trans h'.mapped
  entry := (brushes.entries j ne).trans h'.entry
  edge := edge.trans h'.edge

/-- R72: what a list gained by the first edge leaves room for the later request, at the tail. -/
theorem State.Brushes.room {m : ModelId} (room : (s.waits m).length + 1 < (s.model m).config.waitDepth) :
    (u.waits m).length < (u.model m).config.waitDepth := by
  rw [brushes.model]
  rcases brushes.waits m with same | ⟨r, -, joined⟩
  · rw [same]; omega
  · rw [joined, List.length_append, List.length_singleton]; exact room

/-- A request of the first button is none of the later one's. -/
theorem State.Brushes.absent (apart : k ≠ later) {m : ModelId} (absent : s.isWaiting later m = false) :
    u.isWaiting later m = false := by
  rw [← Bool.not_eq_true, isWaiting_iff] at absent ⊢
  rcases brushes.waits m with same | ⟨r, key, joined⟩
  · rwa [same]
  · rw [joined]
    rintro ⟨q, member, own⟩
    rcases List.mem_append.mp member with member | member
    · exact absent ⟨q, member, own⟩
    · rw [List.mem_singleton.mp member, key] at own
      exact apart own

/-- R65, R72: the later press finds the mode WAKING and joins its list. -/
theorem State.Brushes.joins (h' : s.AnyEdge later j b' true) (apart : k ≠ later)
    (waking : u.gallery = .waking) (sound : b'.suspect = false)
    (visitor : b'.mode ≠ .call) (pressed : b'.pressedBy true) (ready : b'.lockoutTimer = none)
    (stranger : s.ownsCue later b'.modelId = false) (absent : s.isWaiting later b'.modelId = false)
    (idle : (s.model b'.modelId).state = .idle) :
    answerEdge j (b'.edged true u.motion.clock) true (u.booked later j b' true) =
      joinList (b'.edged true u.motion.clock) (u.booked later j b' true) := by
  have booked : (u.booked later j b' true).gallery ≠ .doze := by
    rw [show (u.booked later j b' true).gallery = .waking from waking]; nofun
  have answer := answerEdge_of_awake (b := b'.edged true u.motion.clock) (s := u.booked later j b' true) sound booked
    j true
  have press := edgeCases_of_pressed (b := b'.edged true u.motion.clock) visitor pressed j (u.booked later j b' true)
  have model := brushes.model b'.modelId
  have owner : u.ownsCue b'.key b'.modelId = false := by
    unfold State.ownsCue at stranger ⊢
    rw [h'.key, model, stranger]
  have listed : u.isWaiting b'.key b'.modelId = false := by rw [h'.key]; exact brushes.absent apart absent
  have start := press_of_new (i := j) (b := b'.edged true u.motion.clock) (s := u.booked later j b' true) ready
    (.inr waking) owner listed
  have service : ¬ (u.model b'.modelId).isOut := by
    unfold Model.isOut
    rw [model, idle]
    nofun
  have waits := verdict_of_waking (s := u.booked later j b' true) (m := b'.modelId) waking service b'.cueId
    (.button b'.key)
  exact answer.trans (press.trans (start.trans (pressStart_of_waits (b := b'.edged true u.motion.clock) waits)))

end

end Sys2Proof.Machine

/-! ## O15 -/

namespace Sys2Proof.Machine

/-- R60, R84: what every frame of a panel leaves. -/
theorem exec_panel_of_panel {n : NodeId} {s : State} (running : s.running = true) (role : (s.node n).role = .panel)
    (d : BitVec 16) (hello : Bool) : ∃ t, exec (.panel n d hello) s = .next t ∧
      t.press.recorded = tput s.press.recorded n d ∧
      (hello = true → s.relay.bayOut.isSome = true → tget t.press.dirty n = true) ∧
      (tget s.press.recorded n = d → hello = false → t = settle s) ∧
      t.steady.relay = s.steady.relay ∧ t.settings = s.settings ∧ t.pins = s.pins ∧ t.pending = s.pending ∧
      t.motion.clock = s.motion.clock ∧ t.motion.cues = s.motion.cues ∧ t.motion.profiles = s.motion.profiles ∧
      t.sup.zones = s.sup.zones ∧ t.sup.reported = s.sup.reported ∧ t.sup.stopAsserted = s.sup.stopAsserted := by
  have run : exec (.panel n d hello) s = .next (settle (takePanel n d hello s)) := by
    rw [exec_panel, act_of_running running]
  have outer := takePanel_outer n d hello s
  have same := settle_steady (takePanel n d hello s)
  have backdrop := (settle_backdrop _).trans (takePanel_backdrop role d hello)
  have relay : (takePanel n d hello s).steady.relay = s.steady.relay := by
    simp only [State.steady, State.relay_of_outer outer]
  have dirty (hi : hello = true) (sending : s.relay.bayOut.isSome = true) :
      tget (settle (takePanel n d hello s)).press.dirty n = true := by
    refine settle_dirty ?_ (by rw [State.relay_of_outer outer]; exact sending)
    rw [takePanel_of_panel role, if_pos hi]
    have kept : (withEntryTest (forEach allButtons (panelButton n d)) s).outer = s.outer := by
      have quiet := takePanel_outer n d false s
      rwa [takePanel_of_panel role, if_neg Bool.false_ne_true] at quiet
    refine markDirty_dirty ?_
    unfold State.node
    rw [State.relay_of_outer kept]
    exact role
  have still (recorded : tget s.press.recorded n = d) (plain : hello = false) :
      settle (takePanel n d hello s) = settle s := by
    rw [plain, takePanel_of_same role recorded]
  generalize settle (takePanel n d hello s) = t at *
  exact ⟨t, run, congrArg Backdrop.recorded backdrop, dirty, still, (congrArg State.relay same).trans relay,
    (State.settings_of_steady same).trans (State.settings_of_outer outer),
    (State.pins_of_steady same).trans (State.pins_of_outer outer),
    (State.pending_of_steady same).trans (State.pending_of_outer outer), congrArg Backdrop.clock backdrop,
    congrArg Backdrop.cues backdrop, congrArg Backdrop.profiles backdrop, congrArg Backdrop.zones backdrop,
    congrArg Backdrop.reported backdrop, congrArg Backdrop.stop backdrop⟩

section
variable {s : State} {k : Key} {i : EntryIx} {b : Button} {down : Bool} (h : s.AnyEdge k i b down)
  (visitor : b.mode ≠ .call) (pressed : b.pressedBy down) (ready : b.lockoutTimer = none)
  (new : s.ownsCue k b.modelId = false) (absent : s.isWaiting k b.modelId = false)
include h visitor pressed ready new absent

/-- R65: the press that wakes the bay asks for a start in WAKING. -/
theorem edgeCases_of_waking_press :
    edgeCases i (b.edged down s.motion.clock) (edgeOf down) (s.woken.booked k i b down) =
      pressStart i (b.edged down s.motion.clock) (s.woken.booked k i b down) := by
  rw [edgeCases_of_pressed (b := b.edged down s.motion.clock) visitor pressed]
  rw [← h.key] at new absent
  exact press_of_new (b := b.edged down s.motion.clock) (s := s.woken.booked k i b down) ready (.inr rfl) new absent

/-- R65, R66, R72: what becomes of it, once the bay is open. -/
theorem opened_of_waking_press (undue : ∀ e ∈ s.motion.schedule, e.due = none) :
    let t := settle (enterOpen (deriveLamps
      (edgeCases i (b.edged down s.motion.clock) (edgeOf down) (s.woken.booked k i b down))))
    let m := b.modelId
    let x := s.model m
    let out := x.state = .disabled ∨ x.state = .enabling ∨ x.state = .stopped ∨ x.state = .faulted
    let room := (s.waits m).length < x.config.waitDepth
    t.press.buttons = tput s.press.buttons i (some (b.edged down s.motion.clock)) ∧ t.sup = s.sup ∧
    t.motion = { s.motion with freeNotices := s.motion.freeNotices ++ allModels.filter fun j =>
      (s.model j).state == .idle && !s.maskOccupied (s.model j).config.zoneMask && !s.sup.stopAsserted } ∧
    (¬ out → s.cueValid b.cueId = true → room →
      t.press.waits = tput s.press.waits m
        (s.waits m ++ [⟨b.key, b.cueId, s.motion.clock, x.config.maxWaitAge * 1000⟩]) ∧
      t.press.tallies = { s.press.tallies with taken := min 4294967295 (s.press.tallies.taken + 1) }) ∧
    (out ∨ (s.cueValid b.cueId = true ∧ ¬ room) → t.press.waits = s.press.waits ∧
      t.press.tallies = { s.press.tallies with refused := min 4294967295 (s.press.tallies.refused + 1) }) ∧
    (¬ out → s.cueValid b.cueId = false →
      t.press.waits = s.press.waits ∧ t.press.tallies = s.press.tallies) := by
  let b' := b.edged down s.motion.clock
  let w := s.woken.booked k i b down
  have start := edgeCases_of_waking_press h visitor pressed ready new absent
  obtain ⟨l, g, q, eq⟩ := pressStart_of_waking (s := w) (b := b') rfl i
  have waits (service : ¬ (s.model b.modelId).isOut) := verdict_of_waking (s := w) (m := b.modelId) rfl service b.cueId
    (.button b.key)
  have due : ∀ e ∈ (pressStart i b' w).motion.schedule, e.due = none := by rw [eq]; exact undue
  obtain ⟨motion, sup, buttons, lists, tallies, -⟩ := opened_of_undue due
  rw [start]
  generalize settle (enterOpen (deriveLamps (pressStart i b' w))) = t at *
  refine ⟨buttons.trans (by rw [eq]; rfl), sup.trans (by rw [eq]; rfl), motion.trans (by rw [eq]; rfl),
    fun service valid room => ?_, fun refused => ?_, fun service invalid => ?_⟩
  · rw [pressStart_of_waits (b := b') (waits service), joinList_of_room (b := b') (s := w) valid room] at lists tallies
    exact ⟨lists, tallies⟩
  · have answer : pressStart i b' w = { w with press := { w.press with
        tallies := { s.press.tallies with refused := addTally 1 s.press.tallies.refused } } } := by
      by_cases out : (s.model b.modelId).isOut
      · exact pressStart_of_refused (s := w) (b := b') (verdict_of_out (s := w) out _ _) (.inl rfl)
      · obtain ⟨valid, full⟩ := refused.resolve_left out
        exact pressStart_of_refused (s := w) (b := b') rfl (.inr ⟨waits out, valid, Nat.not_lt.mp full⟩)
    rw [answer] at lists tallies
    exact ⟨lists, tallies⟩
  · rw [pressStart_of_ignored (s := w) (b := b') rfl (.inr ⟨waits service, invalid⟩)] at lists tallies
    exact ⟨lists, tallies⟩

end

/-- R65, R68: a call that wakes the bay is raised, and the bay opens. -/
theorem opened_of_waking_call {s : State} {k : Key} {i : EntryIx} {b : Button} {down : Bool} (h : s.AnyEdge k i b down)
    (call : b.mode = .call) (pressed : b.pressedBy down) (ready : b.lockoutTimer = none)
    (undue : ∀ e ∈ s.motion.schedule, e.due = none) :
    let t := settle (enterOpen (deriveLamps
      (edgeCases i (b.edged down s.motion.clock) (edgeOf down) (s.woken.booked k i b down))))
    t.steady.alert = (raise (.visitorCall k) s).steady.alert ∧
      t.press.buttons = tput s.press.buttons i (some ((b.edged down s.motion.clock).locked s.motion.clock)) := by
  have called := (edgeCases_of_called (b := b.edged down s.motion.clock) call pressed i
    (s.woken.booked k i b down)).trans (callEdge_of_woken h.key ready)
  obtain ⟨-, -, buttons, -, -, alert⟩ := opened_of_undue (s := edgeCases i (b.edged down s.motion.clock) (edgeOf down)
    (s.woken.booked k i b down)) (by rw [called]; exact undue)
  exact ⟨alert.trans (by rw [called]; rfl), buttons.trans (by rw [called])⟩

/-- R65, R72, log 15: a later press of the frame that wakes the bay joins its list and starts nothing, though the bay is
open after the frame. -/
theorem later_press_waits {s : State} {k later : Key} {i j : EntryIx} {b b' : Button} {down : Bool}
    (h : s.AnyEdge k i b down) (h' : s.AnyEdge later j b' true) (node : later.node = k.node)
    (order : k.button < later.button) (doze : s.gallery = .doze) (sound : b.suspect = false)
    (wakes : down = true ∨ (b.mode = .call ∧ b.acting = .up)) (stranger : s.ownsCue k b.modelId = false)
    (lit : ∀ m, (s.model m).state = .disabled ∨ (s.watch m).energised = true)
    (undue : ∀ e ∈ s.motion.schedule, e.due = none) (sound' : b'.suspect = false) (visitor : b'.mode ≠ .call)
    (pressed : b'.pressedBy true) (ready : b'.lockoutTimer = none) (stranger' : s.ownsCue later b'.modelId = false)
    (absent : s.isWaiting later b'.modelId = false) (idle : (s.model b'.modelId).state = .idle)
    (valid : s.cueValid b'.cueId = true)
    (room : (s.waits b'.modelId).length + 1 < (s.model b'.modelId).config.waitDepth) :
    ∃ t, exec (.panel k.node (s.flipped k ^^^ BitVec.twoPow 16 later.button.val) false) s = .next t ∧
      t.gallery = .opened ∧ t.model b'.modelId = s.model b'.modelId ∧
      (t.waits b'.modelId).getLast? =
        some ⟨later, b'.cueId, s.motion.clock, (s.model b'.modelId).config.maxWaitAge * 1000⟩ := by
  have apart : k ≠ later := fun e => order.ne (congrArg Key.button e)
  have bit : (s.flipped k ^^^ BitVec.twoPow 16 later.button.val).getLsbD k.button.val = down := by
    rw [flipped_twice_getLsbD h.edge h'.edge node order, if_pos rfl]
  obtain ⟨u, first, waking, outer, energised, brushes⟩ := panelButton_of_waking_edge h sound doze wakes bit
  replace brushes := brushes stranger
  have edge : u.isDown later = s.isDown later := by
    rw [← first, panelButton_isDown, if_neg apart.symm]
  have again := brushes.anyEdge h' (later_entry_ne h h' order) outer edge
  have joins := brushes.joins h' apart waking sound' visitor pressed ready stranger' absent idle
  have taken := forEach_of_two_edges h h' node order first again
  have valid' : (u.booked later j b' true).cueValid b'.cueId = true := by
    have same : (u.booked later j b' true).motion = s.motion := brushes.motion
    unfold State.cueValid State.cue State.profile at valid ⊢
    rw [same]
    exact valid
  have listed := joinList_of_room (b := b'.edged true u.motion.clock) valid' (brushes.room room)
  have all : (joinList (b'.edged true u.motion.clock) (u.booked later j b' true)).allEnergised = true := by
    rw [listed]
    exact energised.trans ((allEnergised_iff s).mpr lit)
  have asleep : (joinList (b'.edged true u.motion.clock) (u.booked later j b' true)).gallery = .waking := by
    rw [listed]
    exact waking
  have run : exec (.panel k.node (s.flipped k ^^^ BitVec.twoPow 16 later.button.val) false) s = .next (settle (enterOpen
      (deriveLamps (joinList (b'.edged true u.motion.clock) (u.booked later j b' true))))) := by
    rw [exec_panel, act_of_running h.running, takePanel_of_panel h.role, if_neg Bool.false_ne_true, withEntryTest,
      if_pos doze, taken, joins, endWakeTest_of_waking asleep, all, if_pos rfl]
  obtain ⟨motion, -, -, waits, -, -⟩ := opened_of_undue
    (s := joinList (b'.edged true u.motion.clock) (u.booked later j b' true)) (by
      rw [listed]
      exact brushes.motion ▸ undue)
  refine ⟨_, run, (opened_wake _).1, ?_, ?_⟩
  · have same := congrArg (fun q : MotionSequencer => tget q.models b'.modelId) motion
    rw [listed] at same ⊢
    exact same.trans (brushes.model b'.modelId)
  · have last := congrArg (fun v => (tget v b'.modelId).getLast?) waits
    refine last.trans ?_
    rw [listed]
    refine (congrArg List.getLast? (tget_tput_self _ _ _)).trans (List.getLast?_concat.trans ?_)
    show some (⟨b'.key, b'.cueId, u.motion.clock, (u.model b'.modelId).config.maxWaitAge * 1000⟩ : Request) = _
    rw [h'.key, brushes.model, brushes.motion]

/-- Settles O15: every frame by what its turns keep, one edge by its case of R64, and two edges by the turns between. -/
theorem panelFrameIsRecorded : Obligations.PanelFrameIsRecorded := by
  refine ⟨fun n d hello s running => ⟨fun role => ?_, fun role => exec_panel_of_panel running role d hello⟩,
    fun k i b down s h => ⟨fun suspect => ⟨fun up => ?_, fun isDown => ?_⟩,
      fun sound pressed => ⟨fun awake locked => ?_, fun shut => ?_, fun doze up visitor => ?_⟩,
      fun sound doze wakes => ⟨fun dark => exec_of_waking_edge_eq h sound doze wakes dark, fun lit undue => ?_⟩⟩,
    fun k later i j b b' down s h h' node order doze sound wakes stranger lit undue =>
      later_press_waits h h' node order doze sound wakes stranger lit undue⟩
  · rw [exec_panel, act_of_running running, takePanel, if_neg role]
  · exact exec_of_marking_edge h (answerEdge_of_suspect_up h suspect up)
  · exact exec_of_marking_edge h (answerEdge_of_suspect_down h suspect isDown)
  · have awake' : (s.booked k i b down).gallery ≠ .doze := awake
    exact exec_of_marking_edge h ((answerEdge_of_awake (b := b.edged down s.motion.clock) sound awake' i down).trans
      (edgeCases_of_ignored (b := b.edged down s.motion.clock) pressed awake' (.inl locked) i))
  · have awake' : (s.booked k i b down).gallery ≠ .doze := fun doze => by
      rcases shut with e | e <;> cases doze.symm.trans e
    exact exec_of_marking_edge h ((answerEdge_of_awake (b := b.edged down s.motion.clock) sound awake' i down).trans
      (edgeCases_of_ignored (b := b.edged down s.motion.clock) pressed awake' (.inr shut) i))
  · subst up
    have answer : answerEdge i (b.edged false s.motion.clock) false (s.booked k i b false) =
        edgeCases i (b.edged false s.motion.clock) (edgeOf false) (s.booked k i b false) :=
      if_neg (by rw [show (b.edged false s.motion.clock).suspect = false from sound]; nofun)
    exact exec_of_marking_edge h (answer.trans
      (edgeCases_of_dozing_up (b := b.edged false s.motion.clock) (s := s.booked k i b false) pressed visitor doze i))
  · obtain ⟨opened, stopped⟩ := opened_wake
      (edgeCases i (b.edged down s.motion.clock) (edgeOf down) (s.woken.booked k i b down))
    refine ⟨_, exec_of_opening_edge h sound doze wakes lit, opened, stopped,
      fun call pressed ready => opened_of_waking_call h call pressed ready undue,
      fun visitor pressed ready new absent => ?_⟩
    exact opened_of_waking_press h visitor pressed ready new absent undue

end Sys2Proof.Machine

/-! ## Wait lists that are served, and requests that run out (O49) -/

namespace Sys2Proof.Machine

/-- A model-free notice is no longer outstanding. -/
def State.heeded (m : ModelId) (s : State) : State :=
  { s with motion := { s.motion with freeNotices := s.motion.freeNotices.erase m } }

/-- R76: the head of a list is flushed, with the others `rest` behind it. -/
def State.headFlushed (m : ModelId) (rest : List Request) (s : State) : State :=
  { s with
    press := { s.press with
      waits := tput s.press.waits m rest
      tallies := { s.press.tallies with flushed := addTally 1 s.press.tallies.flushed } }
    modeCtl := { s.modeCtl with dozeTimer := none } }

/-- R6, R33: a start of a free model, paused or not. -/
theorem startCue_of_free {m : ModelId} {s : State} (idle : (s.model m).state = .idle)
    (free : (s.model m).holdZone = false) (c : CueId) (o : Owner) (paused : Bool) :
    startCue m c o paused s = (s.modModel m fun x =>
      x.started (s.startPosition (s.model m).config c (s.model m).lastSetpoint) o paused).onMode
        fun q => { q with dozeTimer := none } := by
  let pos := s.startPosition (s.model m).config c (s.model m).lastSetpoint
  have begins : ((s.model m).started pos o paused).state = if paused then .holding else .running := by
    cases paused <;> rfl
  have unheld : ((s.model m).started pos o paused).zoneHeld = (s.model m).zoneHeld := by
    cases paused <;> simp [Model.started, Model.zoneHeld, free]
  have busy : ((s.model m).started pos o paused).state ≠ .disabled ∧
      ((s.model m).started pos o paused).state ≠ .idle := by
    rw [begins]; cases paused <;> exact ⟨nofun, nofun⟩
  have kept : changeModel m (fun x => x.started pos o paused) s = syncQuiet (s.model m)
      ((s.model m).started pos o paused) (s.modModel m fun x => x.started pos o paused) :=
    changeModel_of_kept unheld (by rw [begins]; cases paused <;> rfl) (by rw [begins]; cases paused <;> nofun)
  refine kept.trans ?_
  unfold syncQuiet
  rw [if_neg (by rw [idle]; exact busy.2), if_pos (by simp [idle])]
  exact quietTest_of_not_quiet (not_quiet_of_busy (m := m) (by simpa using busy)) true

/-! ### A lockout that begins for a key (R69) -/

theorem beginLockoutOf_of_entry {k : Key} {i : EntryIx} {b : Button} {s : State} (mapped : s.entryOf k = some i)
    (entry : s.entry i = some b) : beginLockoutOf k s = { s with press := { s.press with
      buttons := tput s.press.buttons i (some (b.locked s.motion.clock)) } } := by
  unfold beginLockoutOf
  rw [mapped]
  exact beginLockout_of_entry entry

theorem beginLockoutOf_eq (k : Key) (s : State) :
    ∃ l, beginLockoutOf k s = { s with press := { s.press with buttons := l } } := by
  unfold beginLockoutOf
  split
  · exact ⟨_, rfl⟩
  · exact ⟨_, rfl⟩

theorem startsPaused_of_entry {k : Key} {i : EntryIx} {b : Button} {s : State} (mapped : s.entryOf k = some i)
    (entry : s.entry i = some b) : s.startsPaused k = (b.mode == .hold && !s.isDown k) := by
  unfold State.startsPaused
  rw [mapped, Option.any_some, entry, Option.any_some]

/-! ### The head of a list, by the verdict on it (R73) -/

section
variable {m : ModelId} {fuel : Nat} {s : State} {r : Request} {rest : List Request} (listed : s.waits m = r :: rest)
include listed

theorem serveList_of_waits (stays : s.verdict m r.cue (.button r.key) = .notReady ∨
    s.verdict m r.cue (.button r.key) = .busy ∨ s.verdict m r.cue (.button r.key) = .mode ∨
    s.verdict m r.cue (.button r.key) = .blocked) : serveList m (fuel + 1) s = s := by
  rw [serveList, listed]
  dsimp only
  rw [startRequest_eq]
  rcases stays with e | e | e | e <;> rw [e]

theorem serveList_of_flagged (flagged : s.verdict m r.cue (.button r.key) = .faultLatched) :
    serveList m (fuel + 1) s = driveReport m s := by
  rw [serveList, listed]
  dsimp only
  rw [startRequest_eq, flagged]

theorem serveList_of_invalid (invalid : s.verdict m r.cue (.button r.key) = .cueInvalid) :
    serveList m (fuel + 1) s = serveList m fuel (quietTest false ((s.setWaits m rest).onTallies fun t =>
      { t with flushed := addTally 1 t.flushed })) := by
  rw [serveList, listed]
  dsimp only
  rw [startRequest_eq, invalid]

/-- R73, R76: a head whose cue is not valid is flushed; with others behind it the bay is not quiet. -/
theorem serveList_of_invalid_head (invalid : s.verdict m r.cue (.button r.key) = .cueInvalid) (more : rest ≠ []) :
    serveList m (fuel + 1) s = serveList m fuel (s.headFlushed m rest) := by
  rw [serveList_of_invalid listed invalid, quietTest_of_not_quiet (not_quiet_of_waiting (m := m) (by simpa using more))]
  rfl

/-- R73, R76: the last request is flushed. -/
theorem serveList_of_invalid_last (invalid : s.verdict m r.cue (.button r.key) = .cueInvalid) (last : rest = []) :
    ∃ q, serveList m (fuel + 1) s = { s with
      press := { s.press with
        waits := tput s.press.waits m []
        tallies := { s.press.tallies with flushed := addTally 1 s.press.tallies.flushed } }
      modeCtl := q } := by
  subst last
  have empty (u : State) (none : u.waits m = []) : serveList m fuel u = u := by
    cases fuel with
    | zero => rfl
    | succ fuel => rw [serveList, none]
  obtain ⟨q, eq, -⟩ := quietTest_eq false ((s.setWaits m []).onTallies fun t =>
    { t with flushed := addTally 1 t.flushed })
  rw [serveList_of_invalid listed invalid, eq]
  exact ⟨q, empty _ (tget_tput_self _ _ _)⟩

/-- R6, R69, R73, R76: the head that starts leaves the list, is counted started, and its lockout begins. -/
theorem serveList_of_ok (ok : s.verdict m r.cue (.button r.key) = .ok) (free : (s.model m).holdZone = false) :
    ∃ l q, serveList m (fuel + 1) s = { s with
      motion := { s.motion with models := tput s.motion.models m ((s.model m).started
        (s.startPosition (s.model m).config r.cue (s.model m).lastSetpoint) (.button r.key) (s.startsPaused r.key)) }
      press := { s.press with
        waits := tput s.press.waits m rest
        tallies := { s.press.tallies with started := addTally 1 s.press.tallies.started }
        buttons := l }
      modeCtl := q } ∧
    ∀ i b, s.entryOf r.key = some i → s.entry i = some b →
      l = tput s.press.buttons i (some (b.locked s.motion.clock)) := by
  let started := startCue m r.cue (.button r.key) (s.startsPaused r.key) s
  let counted := (started.setWaits m rest).onTallies fun t => { t with started := addTally 1 t.started }
  have serves : serveList m (fuel + 1) s = beginLockoutOf r.key (quietTest false counted) := by
    rw [serveList, listed]
    dsimp only
    rw [startRequest_eq, ok]
  have begins : started = _ := startCue_of_free (verdict_ok ok).1 free r.cue (.button r.key) (s.startsPaused r.key)
  obtain ⟨q, quiet, -⟩ := quietTest_eq false counted
  obtain ⟨l, locks⟩ := beginLockoutOf_eq r.key (quietTest false counted)
  refine ⟨l, q, ?_, fun i b mapped entry => ?_⟩
  · rw [serves, locks, quiet]
    simp only [counted, begins]
    rfl
  · have buttons : (quietTest false counted).press.buttons = s.press.buttons := by
      rw [quiet]
      simp only [counted, begins]
      rfl
    have clock : (quietTest false counted).motion.clock = s.motion.clock := by
      rw [quiet]
      simp only [counted, begins]
      rfl
    have mapped' : (quietTest false counted).entryOf r.key = some i := by
      rw [← mapped]; simp only [State.entryOf, State.entry, buttons]
    have entry' : (quietTest false counted).entry i = some b := by
      rw [← entry]; simp only [State.entry, buttons]
    have same := locks.symm.trans (beginLockoutOf_of_entry mapped' entry')
    rw [buttons, clock] at same
    exact congrArg (fun u : State => u.press.buttons) same

end

/-! ### A notice, outstanding or not (R73, log 9) -/

section
variable {m : ModelId} {s : State} (runs : s.outOfReset = true)
include runs

theorem exec_notice_of_absent (absent : m ∉ s.motion.freeNotices) :
    exec (.modelFreeNotice m) s = .next (settle s) := by
  have still : takeFreeNotice m s = s := if_neg (by simpa using absent)
  rw [exec_modelFreeNotice, actOutOfReset, if_pos runs, still]

theorem exec_notice_of_outstanding (outstanding : m ∈ s.motion.freeNotices) :
    exec (.modelFreeNotice m) s = .next (settle (serveList m ((s.waits m).length + 1) (s.heeded m))) := by
  have taken : takeFreeNotice m s = serveList m ((s.waits m).length + 1) (s.heeded m) :=
    if_pos (by simpa using outstanding)
  rw [exec_modelFreeNotice, actOutOfReset, if_pos runs, taken]

end

/-- R74, R76: a request that runs out leaves its list, counted expired. -/
theorem requestExpires_of_waiting {m : ModelId} {k : Key} {s : State} (waiting : s.isWaiting k m = true) :
    ∃ q, requestExpires m k s = { s with
      press := { s.press with
        waits := tput s.press.waits m ((s.waits m).filter fun r => r.key != k)
        tallies := { s.press.tallies with expired := addTally 1 s.press.tallies.expired } }
      modeCtl := q } := by
  obtain ⟨q, eq, -⟩ := quietTest_eq false ((s.setWaits m ((s.waits m).filter fun r => r.key != k)).onTallies fun t =>
    { t with expired := addTally 1 t.expired })
  exact ⟨q, (if_pos waiting).trans eq⟩

end Sys2Proof.Machine

/-! ## O49 -/

namespace Sys2Proof.Machine

/-- R6, R114: a head that finds the drive flag seen. -/
theorem serveList_flagged_leaves {m : ModelId} {fuel : Nat} {s : State} {r : Request} {rest : List Request}
    (listed : s.waits m = r :: rest) (flagged : s.verdict m r.cue (.button r.key) = .faultLatched) :
    let t := serveList m (fuel + 1) s
    (t.marks (.model .driveReport m)).latched = true ∧
      ((s.marks (.model .driveReport m)).latched = true → t.motion = s.motion ∧ t.waits m = s.waits m) ∧
      ((s.marks (.model .driveReport m)).latched = false → (t.model m).state = .faulted ∧ t.waits m = []) := by
  have idle := idle_of_flagged flagged
  obtain ⟨latched, faults⟩ := driveReport_trips idle
  have press := driveReport_press_of_idle idle
  have lists : (driveReport m s).waits m = if (s.marks (.model .driveReport m)).latched then s.waits m else [] := by
    unfold State.waits
    rw [press]
    split
    · rfl
    · exact (flushList_waits m m s).trans (if_pos rfl)
  dsimp only
  rw [serveList_of_flagged listed flagged]
  refine ⟨latched, fun was => ⟨?_, by rw [lists, if_pos was]⟩, fun new => ⟨faults new, by rw [lists, new]; rfl⟩⟩
  rw [driveReport_of_latched was, raise_motion]
  rfl

/-- R6, R69, R73: a head that starts. -/
theorem exec_notice_of_ok {m : ModelId} {s : State} {r : Request} {rest : List Request} (runs : s.outOfReset = true)
    (outstanding : m ∈ s.motion.freeNotices) (listed : s.waits m = r :: rest)
    (ok : s.verdict m r.cue (.button r.key) = .ok) (agrees : s.MotionAgrees) :
    ∃ t, exec (.modelFreeNotice m) s = .next t ∧
      t.press.waits = tput s.press.waits m rest ∧
      t.press.tallies = { s.press.tallies with started := min 4294967295 (s.press.tallies.started + 1) } ∧
      (∀ k, k ≠ m → t.model k = s.model k) ∧
      (∀ i b, s.entryOf r.key = some i → s.entry i = some b →
        t.press.buttons = tput s.press.buttons i (some (b.locked s.motion.clock)) ∧
        let x := { s.model m with
          owner := some (.button r.key)
          position := some (s.startPosition (s.model m).config r.cue (s.model m).lastSetpoint) }
        (b.mode = .hold ∧ s.isDown r.key = false → t.model m = { x with
          state := .holding, holdPause := true, target := some .cue,
          pauseTimer := some (x.config.pauseWindow * 1000) }) ∧
        (¬ (b.mode = .hold ∧ s.isDown r.key = false) → t.model m = { x with state := .running })) ∧
      t.sup = s.sup ∧ t.steady.alert = s.steady.alert ∧ t.steady.relay = s.steady.relay ∧
      t.press.recorded = s.press.recorded := by
  have idle := (verdict_ok ok).1
  have free := (holdZone_of_not_holding agrees (m := m) (by rw [idle]; nofun)).1
  obtain ⟨l, q, serves, locks⟩ := serveList_of_ok (s := s.heeded m) (fuel := (s.waits m).length) listed ok free
  have run := exec_notice_of_outstanding runs outstanding
  have same := settle_steady (serveList m ((s.waits m).length + 1) (s.heeded m))
  generalize settle (serveList m ((s.waits m).length + 1) (s.heeded m)) = t at *
  rw [serves] at same
  have model (k : ModelId) : t.model k = if k = m then (s.model m).started
      (s.startPosition (s.model m).config r.cue (s.model m).lastSetpoint) (.button r.key) (s.startsPaused r.key)
      else s.model k :=
    (congrArg (fun u : MotionSequencer => tget u.models k) (State.motion_of_steady same)).trans (tget_tput _ _ _ _)
  refine ⟨t, run, (State.waits_of_steady same).trans rfl, (State.tallies_of_steady same).trans rfl,
    fun k other => (model k).trans (if_neg other), fun i b mapped entry => ⟨?_, fun paused => ?_, fun moving => ?_⟩,
    (State.sup_of_steady same).trans rfl, (congrArg State.alert same).trans rfl,
    (congrArg State.relay same).trans rfl, (State.recorded_of_steady same).trans rfl⟩
  · exact (State.buttons_of_steady same).trans (locks i b mapped entry)
  · obtain ⟨hold, up⟩ := paused
    rw [model, if_pos rfl, startsPaused_of_entry mapped entry, hold, up]
    rfl
  · have plain : (b.mode == .hold && !s.isDown r.key) = false := by
      rw [Bool.eq_false_iff]
      simpa using moving
    rw [model, if_pos rfl, startsPaused_of_entry mapped entry, plain]
    rfl

/-- Settles O49: a notice by the verdict on the head of the list, an expiry by whether the request waits. -/
theorem waitListsAreServedAndExpire : Obligations.WaitListsAreServedAndExpire := by
  refine ⟨fun m s runs => ⟨fun absent => exec_notice_of_absent runs absent, fun outstanding => ?_⟩,
    fun m k s running => ⟨fun absent => ?_, fun waiting => ?_⟩⟩
  · have run := exec_notice_of_outstanding runs outstanding
    refine ⟨fun empty => ?_, fun r rest listed => ⟨fun stays => ?_, fun invalid last => ?_, fun invalid more => ?_,
      fun flagged => ?_, exec_notice_of_ok runs outstanding listed⟩⟩
    · have none : (s.heeded m).waits m = [] := empty
      rw [run, serveList, none]
      rfl
    · rw [run, serveList_of_waits (s := s.heeded m) listed stays]
      rfl
    · obtain ⟨q, flushed⟩ := serveList_of_invalid_last (s := s.heeded m) (fuel := (s.waits m).length) listed invalid
        last
      have same := settle_steady (serveList m ((s.waits m).length + 1) (s.heeded m))
      rw [run]
      refine ⟨_, rfl, ?_⟩
      generalize settle (serveList m ((s.waits m).length + 1) (s.heeded m)) = t at *
      rw [flushed] at same
      exact ⟨(State.motion_of_steady same).trans rfl,
        (congrArg (fun v => tget v m) (State.waits_of_steady same)).trans (tget_tput_self _ _ _),
        (State.tallies_of_steady same).trans rfl⟩
    · have length : (s.waits m).length = rest.length + 1 := by rw [listed]; rfl
      rw [run, serveList_of_invalid_head (s := s.heeded m) listed invalid more, length]
      have left : (s.headFlushed m rest).waits m = rest := tget_tput_self _ _ _
      refine Eq.trans ?_ (exec_notice_of_outstanding (s := s.headFlushed m rest) runs outstanding).symm
      rw [left]
      rfl
    · obtain ⟨latched, kept, trips⟩ := serveList_flagged_leaves (s := s.heeded m) (fuel := (s.waits m).length) listed
        flagged
      have same := settle_steady (serveList m ((s.waits m).length + 1) (s.heeded m))
      rw [run]
      refine ⟨_, rfl, ?_⟩
      generalize settle (serveList m ((s.waits m).length + 1) (s.heeded m)) = t at *
      generalize serveList m ((s.waits m).length + 1) (s.heeded m) = u at *
      have marks : t.marks (.model .driveReport m) = u.marks (.model .driveReport m) :=
        congrArg (fun v : Supervisor => v.faults.get (.model .driveReport m)) (State.sup_of_steady same)
      have lists : t.waits m = u.waits m := congrArg (fun v => tget v m) (State.waits_of_steady same)
      have motion := State.motion_of_steady same
      refine ⟨by rw [marks, latched], fun was => ?_, fun new => ?_⟩
      · obtain ⟨motion', lists'⟩ := kept was
        exact ⟨motion.trans motion', lists.trans lists'⟩
      · obtain ⟨faulted, flushed⟩ := trips new
        refine ⟨?_, lists.trans flushed⟩
        rw [← faulted]
        exact congrArg (fun v : MotionSequencer => (tget v.models m).state) motion
  · have still : requestExpires m k s = s := if_neg (by rw [isWaiting_iff]; simpa using absent)
    rw [exec_requestExpiry, act_of_running running, still]
  · obtain ⟨q, expires⟩ := requestExpires_of_waiting ((isWaiting_iff s k m).mpr waiting)
    have same := settle_steady (requestExpires m k s)
    rw [exec_requestExpiry, act_of_running running]
    refine ⟨_, rfl, ?_⟩
    generalize settle (requestExpires m k s) = t at *
    rw [expires] at same
    exact ⟨(State.waits_of_steady same).trans rfl, (State.tallies_of_steady same).trans rfl,
      (State.buttons_of_steady same).trans rfl, (State.motion_of_steady same).trans rfl,
      (State.sup_of_steady same).trans rfl, (congrArg State.alert same).trans rfl,
      (congrArg State.relay same).trans rfl⟩

end Sys2Proof.Machine

/-! ## BUTTON writes (O29) -/

namespace Sys2Proof.Machine

/-! ### BUTTON records (R62, R175 to R177, Table 10-8) -/

theorem readButton_of_flag {d : Byte} {rest : List Byte} (fault : 1 < d.toNat) : readButton (d :: rest) = .error 0 := by
  rw [readButton, natAt_cons_zero, if_neg (by omega)]
  exact stages_of_form (by rw [formFault_cons (by simp), if_neg (by omega)]; rfl)

theorem readButton_empty_of_length {r : List Byte} (empty : natAt r 0 = 0) (wrong : r.length ≠ 1) :
    readButton r = .error 0xFFFF := by
  rw [readButton, if_pos empty]
  exact stages_of_form (formFault_nil_of_length_ne wrong)

/-- Log 19: a defined record of a wrong length is refused, whatever its fields. -/
theorem readButton_defined_of_length {r : List Byte} (defined : natAt r 0 ≠ 0) (wrong : r.length ≠ 9) :
    ∃ o, readButton r = .error o := by
  obtain ⟨o, fault⟩ := formFault_of_length_ne wrong
    [(0, decide (natAt r 0 ≤ 1)), (3, decide (natAt r 3 ≤ 3)), (4, decide (natAt r 4 ≤ 1))]
  rw [readButton, if_neg defined]
  exact ⟨o, stages_of_form fault⟩

/-- R63: an accepted record brings no run state. -/
theorem readButton_afresh {r : List Byte} {b : Button} {clamped : Bool} (read : readButton r = .ok (some b, clamped)) :
    b.lockoutTimer = none ∧ b.lockoutUntil = none ∧ b.suspect = false := by
  unfold readButton at read
  dsimp only at read
  split at read
  · obtain ⟨-, -, value, -⟩ := stages_ok_iff.mp read
    cases value
  · obtain ⟨-, -, value, -⟩ := stages_ok_iff.mp read
    obtain ⟨n, -, value⟩ := Option.bind_eq_some_iff.mp value
    obtain ⟨b, -, rfl⟩ := Option.map_eq_some_iff.mp value
    exact ⟨rfl, rfl, rfl⟩

/-- The entry that a record's bytes describe, once its panel and button are found. -/
def buttonOf (n : NodeId) (b : ButtonIx) (mode acting model cue lockout stuck : Byte) : Button :=
  { key := ⟨n, b⟩, mode := buttonModeOf mode.toNat, acting := if acting.toNat = 0 then .down else .up, model, cue,
    lockout := lockout.toNat, stuckLimit := max 1 stuck.toNat, downSince := none, stuckTimer := none,
    lockoutTimer := none, lockoutUntil := none, suspect := false }

/-- R175: a defined record of the right length, by its fields. -/
theorem readButton_bytes (node button mode acting model cue lockout stuck : Byte) :
    readButton [1, node, button, mode, acting, model, cue, lockout, stuck] = stages
      (if mode.toNat ≤ 3 then if acting.toNat ≤ 1 then none else some 4 else some 3)
      ((nodeOfAddress node.toNat).bind fun n => (indexBelow 16 button.toNat).map fun b =>
        buttonOf n b mode acting model cue lockout stuck)
      (decide (stuck = 0))
      (firstFault [(1, (nodeOfAddress node.toNat).isSome), (2, (indexBelow 16 button.toNat).isSome),
        (5, buttonModeOf mode.toNat == .call || decide (model.toNat ≤ 11)),
        (6, buttonModeOf mode.toNat == .call || decide (cue.toNat ≤ 31))]) := by
  have fields : formFault [1, node, button, mode, acting, model, cue, lockout, stuck]
      [(0, decide ((1 : Byte).toNat ≤ 1)), (3, decide (mode.toNat ≤ 3)), (4, decide (acting.toNat ≤ 1))] 9 =
      if mode.toNat ≤ 3 then if acting.toNat ≤ 1 then none else some 4 else some 3 := by
    rw [formFault_cons (by simp), formFault_cons (by simp), formFault_cons (by simp)]
    rfl
  have clamped : (max 1 stuck.toNat != stuck.toNat) = decide (stuck = 0) := by
    rw [Bool.eq_iff_iff, bne_iff_ne, decide_eq_true_iff, ← BitVec.toNat_inj, show (0 : Byte).toNat = 0 from rfl]
    omega
  rw [← fields, ← clamped]
  rfl

theorem buttonModeOf_code {n : Nat} (h : n ≤ 3) : (buttonModeOf n).code = n := by
  interval_cases n <;> rfl

theorem buttonModeOf_call_iff {mode : Byte} (h : mode.toNat ≤ 3) :
    (buttonModeOf mode.toNat == .call) = decide (mode = 3) := by
  rw [Bool.eq_iff_iff, beq_iff_eq, decide_eq_true_iff, ← BitVec.toNat_inj, show (3 : Byte).toNat = 3 from rfl]
  generalize mode.toNat = n at *
  interval_cases n <;> decide

theorem nodeOfAddress_isSome (a : Nat) : (nodeOfAddress a).isSome = decide (1 ≤ a ∧ a ≤ 62) := by
  unfold nodeOfAddress
  split <;> simp_all

theorem indexBelow_isSome (n a : Nat) : (indexBelow n a).isSome = decide (a < n) := by
  unfold indexBelow
  split <;> simp_all

section
variable {node button mode acting model cue lockout stuck : Byte}

theorem readButton_of_mode (fault : 3 < mode.toNat) :
    readButton [1, node, button, mode, acting, model, cue, lockout, stuck] = .error 3 := by
  rw [readButton_bytes]
  exact stages_of_form (if_neg (by omega))

theorem readButton_of_acting (mode' : mode.toNat ≤ 3) (fault : 1 < acting.toNat) :
    readButton [1, node, button, mode, acting, model, cue, lockout, stuck] = .error 4 := by
  rw [readButton_bytes]
  exact stages_of_form (by rw [if_pos mode', if_neg (by omega)])

variable (mode' : mode.toNat ≤ 3) (acting' : acting.toNat ≤ 1)
include mode' acting'

/-- R175: the structure checks of a record whose form is right. -/
theorem readButton_of_form : readButton [1, node, button, mode, acting, model, cue, lockout, stuck] = stages none
    ((nodeOfAddress node.toNat).bind fun n => (indexBelow 16 button.toNat).map fun b =>
      buttonOf n b mode acting model cue lockout stuck) (decide (stuck = 0))
    (if 1 ≤ node.toNat ∧ node.toNat ≤ 62 then if button.toNat < 16 then
      if mode = 3 ∨ model.toNat ≤ 11 then if mode = 3 ∨ cue.toNat ≤ 31 then none else some 6 else some 5
      else some 2 else some 1) := by
  rw [readButton_bytes, if_pos mode', if_pos acting', firstFault_cons, firstFault_cons, firstFault_cons,
    firstFault_cons, firstFault_nil, nodeOfAddress_isSome, indexBelow_isSome, buttonModeOf_call_iff mode']
  simp only [decide_eq_true_eq, Bool.or_eq_true]
  rfl

theorem readButton_of_node (fault : ¬ (1 ≤ node.toNat ∧ node.toNat ≤ 62)) :
    readButton [1, node, button, mode, acting, model, cue, lockout, stuck] = .error 1 := by
  rw [readButton_of_form mode' acting', if_neg fault]
  rfl

variable (panel : 1 ≤ node.toNat ∧ node.toNat ≤ 62)
include panel

theorem readButton_of_button (fault : 15 < button.toNat) :
    readButton [1, node, button, mode, acting, model, cue, lockout, stuck] = .error 2 := by
  rw [readButton_of_form mode' acting', if_pos panel, if_neg (by omega)]
  rfl

variable (button' : button.toNat ≤ 15)
include button'

theorem readButton_of_model (visitor : mode ≠ 3) (fault : 11 < model.toNat) :
    readButton [1, node, button, mode, acting, model, cue, lockout, stuck] = .error 5 := by
  rw [readButton_of_form mode' acting', if_pos panel, if_pos (by omega),
    if_neg (not_or.mpr ⟨visitor, Nat.not_le.mpr fault⟩)]
  rfl

theorem readButton_of_cue (visitor : mode ≠ 3) (model' : model.toNat ≤ 11) (fault : 31 < cue.toNat) :
    readButton [1, node, button, mode, acting, model, cue, lockout, stuck] = .error 6 := by
  rw [readButton_of_form mode' acting', if_pos panel, if_pos (by omega), if_pos (.inr model'),
    if_neg (not_or.mpr ⟨visitor, Nat.not_le.mpr fault⟩)]
  rfl

/-- R62, R176: an accepted defined record; for CALL the model and cue are not tested. -/
theorem readButton_accepts (fits : mode = 3 ∨ (model.toNat ≤ 11 ∧ cue.toNat ≤ 31)) :
    ∃ b, readButton [1, node, button, mode, acting, model, cue, lockout, stuck] = .ok (some b, decide (stuck = 0)) ∧
      addressOf b.key.node = node ∧ byteOf b.key.button.val = button ∧ b.mode.code = mode.toNat ∧
      (b.acting = .down ↔ acting = 0) ∧ b.model = model ∧ b.cue = cue ∧ b.lockout = lockout.toNat ∧
      b.stuckLimit = max 1 stuck.toNat := by
  obtain ⟨n, found⟩ := Option.isSome_iff_exists.mp ((nodeOfAddress_isSome node.toNat).trans (decide_eq_true panel))
  have index : indexBelow 16 button.toNat = some ⟨button.toNat, by omega⟩ := dif_pos (by omega)
  refine ⟨buttonOf n ⟨button.toNat, by omega⟩ mode acting model cue lockout stuck, ?_,
    (nodeOfAddress_eq_some_iff node n).mp found, byteOf_of_toNat button, buttonModeOf_code mode', ?_, rfl, rfl, rfl,
    rfl⟩
  · rw [readButton_of_form mode' acting', if_pos panel, if_pos (by omega), if_pos (fits.imp_right And.left),
      if_pos (fits.imp_right And.right), found, index]
    rfl
  · have zero : acting.toNat = 0 ↔ acting = 0 := by rw [← BitVec.toNat_inj]; rfl
    rw [← zero]
    unfold buttonOf
    by_cases e : acting.toNat = 0 <;> simp [e]

end

end Sys2Proof.Machine

/-! ## An accepted BUTTON record (O29) -/

namespace Sys2Proof.Machine

/-! ### The tests of the entry (R175 stages 4 and 5, R178) -/

/-- Another defined entry holds the key. -/
def State.holdsElsewhere (s : State) (i : EntryIx) (k : Key) (j : EntryIx) : Prop :=
  j ≠ i ∧ ∃ e, s.entry j = some e ∧ e.key = k

theorem holdsElsewhere_iff (s : State) (i : EntryIx) (k : Key) (j : EntryIx) :
    (j != i && (s.entry j).any fun b => b.key == k) = true ↔ s.holdsElsewhere i k j := by
  simp [State.holdsElsewhere, Option.any_eq_true]

theorem duplicateOf_eq_none {s : State} {i : EntryIx} {k : Key} (none : ∀ j, ¬ s.holdsElsewhere i k j) :
    s.duplicateOf i k = .none :=
  List.find?_eq_none.mpr fun j _ found => none j ((holdsElsewhere_iff s i k j).mp found)

/-- R175: the lowest entry that holds the key is the one that the refusal names. -/
theorem duplicateOf_eq_some {s : State} {i j : EntryIx} {k : Key} (holds : s.holdsElsewhere i k j)
    (lowest : ∀ l, l < j → ¬ s.holdsElsewhere i k l) : s.duplicateOf i k = some j := by
  obtain ⟨before, after, split⟩ := List.append_of_mem (List.mem_finRange j)
  have order : (before ++ j :: after).Pairwise (· < ·) := split ▸ List.pairwise_lt_finRange 128
  obtain ⟨-, -, first⟩ := List.pairwise_append.mp order
  refine List.find?_eq_some_iff_append.mpr
    ⟨(holdsElsewhere_iff s i k j).mpr holds, before, after, split, fun l member => ?_⟩
  rw [Bool.not_eq_true', ← Bool.not_eq_true, holdsElsewhere_iff]
  exact lowest l (first l member j List.mem_cons_self)

/-- The new entry's key stands in another entry. -/
theorem keyTaken_iff {s : State} {i j : EntryIx} {new : Option Button} :
    (j ≠ i ∧ ∃ b e, new = some b ∧ s.entry j = some e ∧ e.key = b.key) ↔
      ∃ b, new = some b ∧ s.holdsElsewhere i b.key j := by
  constructor
  · rintro ⟨other, b, e, is, found, own⟩
    exact ⟨b, is, other, e, found, own⟩
  · rintro ⟨b, is, other, e, found, own⟩
    exact ⟨other, b, e, is, found, own⟩

theorem unique_of_untaken {s : State} {i : EntryIx} {new : Option Button}
    (untaken : ∀ j, ¬ (j ≠ i ∧ ∃ b e, new = some b ∧ s.entry j = some e ∧ e.key = b.key)) :
    (new.bind fun b => s.duplicateOf i b.key) = none := by
  cases new with
  | none => rfl
  | some b => exact duplicateOf_eq_none fun j holds => untaken j (keyTaken_iff.mpr ⟨b, rfl, holds⟩)

theorem keyInUse_iff (s : State) (k : Key) : s.keyInUse k = true ↔
    ∃ m, (s.model m).owner = some (.button k) ∨ ∃ r ∈ s.waits m, r.key = k := by
  simp only [State.keyInUse, List.any_eq_true, mem_allModels, true_and, Bool.or_eq_true, isWaiting_iff,
    State.ownsCue, beq_iff_eq]

/-! ### An entry that is replaced (R63, R82) -/

theorem freshButton_eq {b : Button} (ready : b.lockoutTimer = none) (never : b.lockoutUntil = none)
    (sound : b.suspect = false) (s : State) : freshButton b s = { b with
      downSince := if s.isDown b.key then some s.motion.clock else none
      stuckTimer := if s.isDown b.key then some (b.stuckLimit * 1000) else none } := by
  unfold freshButton
  rw [← ready, ← never, ← sound]
  cases s.isDown b.key <;> rfl

theorem setLamp_eq (k : Key) (l : Lamp) (s : State) : ∃ lamps dirty,
    setLamp k l s = { s with press := { s.press with lamps, dirty } } ∧ (setLamp k l s).lamp k = l := by
  have written (t : State) (n : NodeId) : ∃ dirty, markDirty n t = { t with press := { t.press with dirty } } := by
    unfold markDirty
    split
    · exact ⟨_, rfl⟩
    · exact ⟨_, rfl⟩
  unfold setLamp
  split
  · rename_i same
    exact ⟨_, _, rfl, same⟩
  · obtain ⟨dirty, eq⟩ := written (s.onPress fun q =>
      { q with lamps := tmod q.lamps k.node fun v => tput v k.button l }) k.node
    rw [eq]
    refine ⟨_, dirty, rfl, ?_⟩
    unfold State.lamp
    dsimp only [State.onPress]
    rw [tget_tmod_self, tget_tput_self]

/-- R63: the entry alone. -/
def State.replaced (s : State) (i : EntryIx) (new : Option Button) : State :=
  { s with press := { s.press with buttons := tput s.press.buttons i (new.map fun b => freshButton b s) } }

theorem storeButton_of_empty {i : EntryIx} {s : State} (empty : s.entry i = none) (new : Option Button) :
    storeButton i new s = s.replaced i new := by
  unfold storeButton
  rw [empty]
  rfl

/-- R82: the former key's condition goes inactive, and its lamp is put OFF where the key is no longer mapped. -/
theorem storeButton_of_entry {i : EntryIx} {e : Button} {s : State} (entry : s.entry i = some e) (new : Option Button) :
    storeButton i new s =
      if ((s.replaced i new).entryOf e.key).isNone then
        setLamp e.key .off (quench (.buttonStuck e.key) (s.replaced i new))
      else quench (.buttonStuck e.key) (s.replaced i new) := by
  unfold storeButton
  rw [entry]
  dsimp only
  rw [report_false]
  rfl

/-- The blocks that a replaced entry leaves alone. -/
theorem storeButton_eq (i : EntryIx) (new : Option Button) (s : State) : ∃ lamps dirty faults,
    storeButton i new s = { s with
      press := { s.press with
        buttons := tput s.press.buttons i (new.map fun b => freshButton b s), lamps, dirty }
      sup := { s.sup with faults } } := by
  cases entry : s.entry i with
  | none => exact ⟨_, _, _, storeButton_of_empty entry new⟩
  | some e =>
    rw [storeButton_of_entry entry]
    split
    · obtain ⟨lamps, dirty, eq, -⟩ := setLamp_eq e.key .off (quench (.buttonStuck e.key) (s.replaced i new))
      exact ⟨lamps, dirty, _, eq⟩
    · exact ⟨_, _, _, rfl⟩

section
variable {i : EntryIx} {e : Button} {s : State} (entry : s.entry i = some e) (new : Option Button)
include entry

theorem storeButton_marks : (storeButton i new s).marks (.buttonStuck e.key) =
    ⟨false, false, (s.marks (.buttonStuck e.key)).latched⟩ := by
  have quenched : (quench (.buttonStuck e.key) (s.replaced i new)).marks (.buttonStuck e.key) =
      ⟨false, false, (s.marks (.buttonStuck e.key)).latched⟩ := (quench_marks _ _ _).trans (if_pos rfl)
  rw [storeButton_of_entry entry]
  split
  · obtain ⟨lamps, dirty, eq, -⟩ := setLamp_eq e.key .off (quench (.buttonStuck e.key) (s.replaced i new))
    rw [eq]
    exact quenched
  · exact quenched

theorem storeButton_lamp (unmapped : ∀ j b, (storeButton i new s).entry j = some b → b.key ≠ e.key) :
    (storeButton i new s).lamp e.key = .off := by
  obtain ⟨lamps, dirty, faults, eq⟩ := storeButton_eq i new s
  have entries (j : EntryIx) : (s.replaced i new).entry j = (storeButton i new s).entry j := by rw [eq]; rfl
  have gone : (s.replaced i new).entryOf e.key = none := by
    refine List.find?_eq_none.mpr fun j _ holds => ?_
    obtain ⟨b, found, own⟩ := (Option.any_eq_true _ _).mp holds
    exact unmapped j b ((entries j).symm.trans found) (by simpa using own)
  obtain ⟨-, -, -, off⟩ := setLamp_eq e.key .off (quench (.buttonStuck e.key) (s.replaced i new))
  rw [storeButton_of_entry entry, if_pos (by rw [gone]; rfl)]
  exact off

end

/-! ### The write -/

section
variable {i : EntryIx} {record : List Byte} {new : Option Button} {clamped : Bool} {s : State}
  (read : readButton record = .ok (new, clamped))
include read

theorem fresh_of_read : (new.map fun b => freshButton b s) = new.map fun b => { b with
    downSince := if s.isDown b.key then some s.motion.clock else none
    stuckTimer := if s.isDown b.key then some (b.stuckLimit * 1000) else none } := by
  cases new with
  | none => rfl
  | some b =>
    obtain ⟨ready, never, sound⟩ := readButton_afresh read
    exact congrArg some (freshButton_eq ready never sound s)

theorem writeButton_of_duplicate {j : EntryIx} (found : (new.bind fun b => s.duplicateOf i b.key) = some j) :
    writeButton i record s = (s, (.duplicate, BitVec.ofNat 16 j.val)) := by
  unfold writeButton
  rw [read]
  dsimp only
  rw [found]

theorem writeButton_of_unique (unique : (new.bind fun b => s.duplicateOf i b.key) = none) :
    writeButton i record s = if (s.entry i).any fun old => s.keyInUse old.key then (s, inUseReply)
      else (storeButton i new s, storedReply clamped) := by
  unfold writeButton
  rw [read]
  dsimp only
  rw [unique]

end

/-- R174: a BUTTON write is answered with what its test says. -/
theorem act_buttonWrite {c : Sender} {i : EntryIx} {record : List Byte} {s t : State} {r : Result} {d : Half}
    (h : s.carriesOut c = true) (some' : record ≠ []) (done : writeButton i record s = (t, (r, d))) :
    exec (.buttonWrite c (byteOf i.val) record) s = .next (settle (t.answeredWith c (writeReply 2 r d))) :=
  act_tableWrite h (tableAddressFault_entry rfl (by omega) i some')
    (by rw [byteOf_toNat (by omega), indexBelow_of_fin]; exact done)

/-- Settles O29: the record by its fields in the order of R175, and an accepted one by the tests of its entry. -/
theorem buttonWriteReplacesTheEntry : Obligations.ButtonWriteReplacesTheEntry := by
  refine ⟨fun c i record new clamped s carries some' read => ?_,
    ⟨rfl, fun r empty wrong => ?_, fun r defined wrong => ?_, fun d rest fault => readButton_of_flag fault⟩,
    fun node button mode acting model cue lockout stuck => ⟨readButton_of_mode, readButton_of_acting,
      fun mode' acting' => ⟨readButton_of_node mode' acting', readButton_of_button mode' acting',
        readButton_of_model mode' acting', readButton_of_cue mode' acting', readButton_accepts mode' acting'⟩⟩⟩
  · have inUse : ((s.entry i).any fun old => s.keyInUse old.key) = true ↔ ∃ e, s.entry i = some e ∧
        ∃ m, (s.model m).owner = some (.button e.key) ∨ ∃ r ∈ s.waits m, r.key = e.key := by
      simp only [Option.any_eq_true, keyInUse_iff]
    refine ⟨fun j taken lowest => ?_, fun none' used => ?_, fun none' unused => ?_⟩
    · obtain ⟨b, rfl, holds⟩ := keyTaken_iff.mp taken
      exact act_buttonWrite carries some' (writeButton_of_duplicate read (duplicateOf_eq_some holds fun l below other =>
        lowest l below (keyTaken_iff.mpr ⟨b, rfl, other⟩)))
    · refine act_buttonWrite carries some' ?_
      rw [writeButton_of_unique read (unique_of_untaken none'), if_pos (inUse.mpr used)]
      rfl
    · have done : writeButton i record s = (storeButton i new s, storedReply clamped) := by
        rw [writeButton_of_unique read (unique_of_untaken none'), if_neg fun used => unused (inUse.mp used)]
      obtain ⟨lamps, dirty, faults, eq⟩ := storeButton_eq i new s
      refine ⟨storeButton i new s, act_buttonWrite carries some' done, ?_, fun e entry => storeButton_marks entry new,
        fun e entry unmapped => storeButton_lamp entry new unmapped, fun empty => ?_, ?_⟩
      · rw [eq, fresh_of_read read]
      · rw [storeButton_of_empty empty]
        rfl
      · rw [eq]
        exact ⟨rfl, rfl, rfl, rfl, rfl, rfl, rfl, rfl⟩
  · exact readButton_empty_of_length (by rw [natAt, empty]; rfl) wrong
  · refine readButton_defined_of_length (fun zero => defined ?_) wrong
    exact BitVec.eq_of_toNat_eq zero

end Sys2Proof.Machine

/-! ## Settling (O3) -/

namespace Sys2Proof.Machine

theorem deriveLamps_running (s : State) : (deriveLamps s).running = s.running := by
  unfold State.running
  rw [State.pins_of_outer (deriveLamps_outer s)]

theorem settle_eq (s : State) :
    settle s = if s.running then takeSpine (takeBay (deriveLamps s)) else deriveLamps s := by
  unfold settle takeUp
  rw [deriveLamps_running]

/-- R169, R170, R185: where no transmitter is idle, or the part does not run, a settling derives the lamps only. -/
theorem settle_of_still {s : State} (still : s.busy = true ∨ s.running = false) : settle s = deriveLamps s := by
  rw [settle_eq]
  rcases still with busy | still
  · obtain ⟨bay, spine⟩ := Bool.and_eq_true_iff.mp busy
    rw [← State.relay_of_outer (deriveLamps_outer s)] at bay spine
    rw [takeBay_of_sending bay, takeSpine_of_sending spine, ite_self]
  · rw [still]
    rfl

/-- Settles O3: a settling is the derivation of the lamps and the transmitters' take-up, and each of these says what it
leaves alone. -/
theorem settlingTouchesOnlyLampsAndTransmitters : Obligations.SettlingTouchesOnlyLampsAndTransmitters :=
  fun u => ⟨settle_eq u, settle_steady u, fun still => by rw [settle_of_still still, deriveLamps_unlit]⟩

end Sys2Proof.Machine

/-! ## What a lamp is, by the first test that applies (R80, R81) -/

namespace Sys2Proof.Machine

theorem ownsCue_iff (s : State) (k : Key) (m : ModelId) :
    s.ownsCue k m = true ↔ (s.model m).owner = some (.button k) := beq_iff_eq

theorem callOutstanding_iff (s : State) (k : Key) :
    s.callOutstanding k = true ↔ ∃ r ∈ s.alert.queue, r.about = .visitorCall k ∧ r.state ≠ .acked := by
  simp [State.callOutstanding, AlertRecord.unacked]

/-- R5: what a visitor's button needs for its model to be startable. -/
theorem startable_button_iff (s : State) (m : ModelId) (k : Key) : s.startable m (.button k) = true ↔
    (s.model m).state = .idle ∧ s.maskOccupied (s.model m).config.zoneMask = false ∧ s.sup.stopAsserted = false ∧
      s.gallery = .opened := by
  cases gallery : s.gallery <;> simp [State.startable, modeAllows, gallery, and_assoc]

section
variable {s : State} {b : Button}

theorem lampOf_of_call (mode : b.mode = .call) : s.lampOf b = s.callLamp b := if_pos (beq_iff_eq.mpr mode)

theorem lampOf_of_visitor (mode : b.mode ≠ .call) : s.lampOf b = s.visitorLamp b :=
  if_neg fun call => mode (beq_iff_eq.mp call)

/-- R80, R81: with the bay closed, in service or dozing, the mode alone gives a lamp of either kind. -/
theorem lampOf_of_asleep : (s.gallery = .closed → s.lampOf b = .off) ∧ (s.gallery = .service → s.lampOf b = .out) ∧
    (s.gallery = .doze → s.lampOf b = .wake) := by
  by_cases mode : b.mode = .call
  · rw [lampOf_of_call mode, State.callLamp]
    refine ⟨?_, ?_, ?_⟩ <;> intro gallery <;> rw [gallery]
  · rw [lampOf_of_visitor mode, State.visitorLamp]
    refine ⟨?_, ?_, ?_⟩ <;> intro gallery <;> rw [gallery]

variable (awake : s.gallery = .opened ∨ s.gallery = .waking)
include awake

/-- R80, R81: a SUSPECT button is out of order. -/
theorem lampOf_of_suspect (suspect : b.suspect = true) : s.lampOf b = .out := by
  by_cases mode : b.mode = .call
  · rw [lampOf_of_call mode, State.callLamp]
    rcases awake with gallery | gallery <;> rw [gallery] <;> exact if_pos suspect
  · rw [lampOf_of_visitor mode, State.visitorLamp]
    rcases awake with gallery | gallery <;> rw [gallery] <;> exact if_pos suspect

variable (sound : b.suspect = false)
include sound

/-- R81, tests 5 to 7. -/
theorem callLamp_of_awake : s.callLamp b =
    if s.callOutstanding b.key then .running else if b.lockoutTimer.isSome then .locked else .ready := by
  unfold State.callLamp
  rcases awake with gallery | gallery <;> rw [gallery, sound] <;> rfl

/-- R80, tests 4 to 11 of a button that is not SUSPECT. -/
theorem visitorLamp_of_awake : s.visitorLamp b =
    if (s.model b.modelId).state == .disabled || (s.model b.modelId).state == .enabling ||
      (s.model b.modelId).state == .stopped || (s.model b.modelId).state == .faulted then .out
    else if s.ownsCue b.key b.modelId && (s.model b.modelId).state == .holding &&
      (s.model b.modelId).holdPause then .paused
    else if s.ownsCue b.key b.modelId then .running
    else if s.isWaiting b.key b.modelId then .wait
    else if b.lockoutTimer.isSome then .locked
    else if s.startable b.modelId (.button b.key) then .ready
    else .busy := by
  unfold State.visitorLamp
  rcases awake with gallery | gallery <;> rw [gallery, sound] <;> rfl

/-- R81: a CALL button's lamp, each test after those before it have failed. -/
theorem callLamp_tests (mode : b.mode = .call) :
    let called := ∃ r ∈ s.alert.queue, r.about = .visitorCall b.key ∧ r.state ≠ .acked
    (called → s.lampOf b = .running) ∧ (¬ called → b.lockoutTimer.isSome = true → s.lampOf b = .locked) ∧
      (¬ called → b.lockoutTimer = none → s.lampOf b = .ready) := by
  intro called
  rw [lampOf_of_call mode, callLamp_of_awake awake sound]
  simp only [callOutstanding_iff]
  refine ⟨fun h => if_pos h, fun h locked => ?_, fun h unlocked => ?_⟩
  · rw [if_neg h, if_pos locked]
  · rw [if_neg h, unlocked]
    rfl

/-- R80: a TAP, TOGGLE or HOLD button's lamp, each test after those before it have failed. -/
theorem visitorLamp_tests (mode : b.mode ≠ .call) :
    let x := s.model b.modelId
    let owns := x.owner = some (.button b.key)
    let out := x.state = .disabled ∨ x.state = .enabling ∨ x.state = .stopped ∨ x.state = .faulted
    let waits := ∃ r ∈ s.waits b.modelId, r.key = b.key
    let ready := x.state = .idle ∧ s.maskOccupied x.config.zoneMask = false ∧ s.sup.stopAsserted = false ∧
      s.gallery = .opened
    (out → s.lampOf b = .out) ∧
    (¬ out → owns → x.state = .holding → x.holdPause = true → s.lampOf b = .paused) ∧
    (¬ out → owns → ¬ (x.state = .holding ∧ x.holdPause = true) → s.lampOf b = .running) ∧
    (¬ out → ¬ owns → waits → s.lampOf b = .wait) ∧
    (¬ out → ¬ owns → ¬ waits → b.lockoutTimer.isSome = true → s.lampOf b = .locked) ∧
    (¬ out → ¬ owns → ¬ waits → b.lockoutTimer = none → ready → s.lampOf b = .ready) ∧
    (¬ out → ¬ owns → ¬ waits → b.lockoutTimer = none → ¬ ready → s.lampOf b = .busy) := by
  intro x owns out waits ready
  rw [lampOf_of_visitor mode, visitorLamp_of_awake awake sound]
  simp only [Bool.or_eq_true, Bool.and_eq_true, beq_iff_eq, or_assoc, and_assoc, ownsCue_iff, isWaiting_iff,
    startable_button_iff]
  refine ⟨fun gone => if_pos gone, fun here own held paused => ?_, fun here own plays => ?_, fun here other waiting => ?_,
    fun here other absent locked => ?_, fun here other absent unlocked startable => ?_,
    fun here other absent unlocked busy => ?_⟩
  all_goals refine (if_neg here).trans ?_
  · exact if_pos ⟨own, held, paused⟩
  · exact (if_neg fun both => plays both.2).trans (if_pos own)
  all_goals refine (if_neg fun both => other both.1).trans ((if_neg other).trans ?_)
  · exact if_pos waiting
  all_goals refine (if_neg absent).trans ?_
  · exact if_pos locked
  all_goals rw [unlocked]
  · exact (if_neg nofun).trans (if_pos startable)
  · exact (if_neg nofun).trans (if_neg busy)

end

end Sys2Proof.Machine

/-! ## Deriving every lamp (R79, R82)

`State.Wired` is what has to hold for a derivation of the lamps to leave every lamp as derived: no two entries hold one
key, and the lamp of an unmapped button is OFF. -/

namespace Sys2Proof.Machine

/-! ### What a lamp is derived from -/

/-- What a settling may change gives no lamp. -/
theorem lampOf_of_steady {s t : State} (h : t.steady = s.steady) : t.lampOf = s.lampOf := by
  have read (u : State) : u.steady.lampOf = u.lampOf := by
    have called (k : Key) : u.steady.callOutstanding k = u.callOutstanding k := List.any_map
    funext b
    simp only [State.lampOf, State.callLamp, called]
    rfl
  rw [← read t, h, read]

theorem entry_of_steady {s t : State} (h : t.steady = s.steady) : t.entry = s.entry :=
  congrArg (fun v => tget v) (State.buttons_of_steady h)

theorem entryOf_of_steady {s t : State} (h : t.steady = s.steady) : t.entryOf = s.entryOf := by
  funext k
  unfold State.entryOf
  rw [entry_of_steady h]

theorem keysApart_of_steady {s t : State} (h : t.steady = s.steady) (apart : s.KeysApart) : t.KeysApart := by
  unfold State.KeysApart
  rw [entry_of_steady h]
  exact apart

/-! ### One lamp, and every lamp -/

theorem setLamp_lamp (k j : Key) (l : Lamp) (s : State) :
    (setLamp k l s).lamp j = if j = k then l else s.lamp j := by
  have marked (t : State) : (markDirty k.node t).lamp j = t.lamp j := by unfold markDirty; split <;> rfl
  unfold setLamp
  split
  · rename_i same
    split
    · rename_i e; rw [e, same]
    · rfl
  · rw [marked]
    simp only [State.lamp, State.onPress_press, tget_tmod]
    by_cases node : j.node = k.node
    · by_cases button : j.button = k.button
      · obtain rfl : j = k := Key.ext_parts node button
        simp
      · have other : j ≠ k := fun e => button (congrArg Key.button e)
        simp [node, button, other]
    · have other : j ≠ k := fun e => node (congrArg Key.node e)
      simp [node, other]

theorem deriveLamp_steady (i : EntryIx) (s : State) : (deriveLamp i s).steady = s.steady :=
  steady_of_unlit (deriveLamp_unlit i s)

theorem deriveLamp_lamp_of_entry {s : State} {i : EntryIx} {b : Button} (entry : s.entry i = some b) (k : Key) :
    (deriveLamp i s).lamp k = if k = b.key then s.lampOf b else s.lamp k := by
  unfold deriveLamp
  rw [entry]
  exact setLamp_lamp _ _ _ _

/-- R82: a run over some of the entries derives their buttons' lamps; the lamp of another entry's button is as it was. -/
theorem forEach_deriveLamp_lamp {i : EntryIx} {b : Button} (is : List EntryIx) {s : State} (apart : s.KeysApart)
    (entry : s.entry i = some b) :
    (forEach is deriveLamp s).lamp b.key = if i ∈ is then s.lampOf b else s.lamp b.key := by
  induction is generalizing s with
  | nil => rfl
  | cons j rest ih =>
    have same := deriveLamp_steady j s
    have first : (deriveLamp j s).lamp b.key = if i = j then s.lampOf b else s.lamp b.key := by
      cases found : s.entry j with
      | none =>
        have other : i ≠ j := fun e => by rw [e, found] at entry; cases entry
        rw [if_neg other, deriveLamp, found]
      | some c =>
        rw [deriveLamp_lamp_of_entry found]
        by_cases own : i = j
        · obtain rfl : b = c := Option.some.inj (entry.symm.trans (own ▸ found))
          simp [own]
        · rw [if_neg own, if_neg fun e => own (apart i j b c entry found e)]
    rw [forEach_cons, ih (keysApart_of_steady same apart) (by rw [entry_of_steady same, entry]), first,
      lampOf_of_steady same]
    by_cases own : i = j <;> simp [own]

/-! ### The button map and its lamps -/

/-- What the derivation of the lamps starts from. -/
structure State.Wired (s : State) : Prop where
  apart : s.KeysApart
  dark : ∀ k, s.entryOf k = none → s.lamp k = .off

theorem entryOf_eq_none_iff (s : State) (k : Key) :
    s.entryOf k = none ↔ ∀ i b, s.entry i = some b → b.key ≠ k := by
  simp [State.entryOf, allEntries, Option.any_eq_false]

/-- The entry of a mapped key is defined and holds it. -/
theorem entry_of_entryOf {s : State} {k : Key} {i : EntryIx} (mapped : s.entryOf k = some i) :
    ∃ b, s.entry i = some b ∧ b.key = k := by
  simpa [Option.any_eq_true] using List.find?_some mapped

theorem State.LampsTrue.wired {s : State} (apart : s.KeysApart) (lamps : s.LampsTrue) : s.Wired :=
  ⟨apart, fun k unmapped => by rw [lamps k, unmapped]⟩

theorem deriveLamp_wired {i : EntryIx} {s : State} (h : s.Wired) : (deriveLamp i s).Wired := by
  have same := deriveLamp_steady i s
  refine ⟨keysApart_of_steady same h.apart, fun k unmapped => ?_⟩
  rw [entryOf_of_steady same] at unmapped
  cases entry : s.entry i with
  | none => rw [deriveLamp, entry]; exact h.dark k unmapped
  | some b =>
    have other : k ≠ b.key := ((entryOf_eq_none_iff s k).mp unmapped i b entry).symm
    rw [deriveLamp_lamp_of_entry entry, if_neg other]
    exact h.dark k unmapped

theorem deriveLamps_wired {s : State} (h : s.Wired) : (deriveLamps s).Wired := by
  unfold deriveLamps
  exact forEach_invariant (Good := State.Wired) (fun i _ => deriveLamp_wired (i := i)) allEntries h

theorem deriveLamps_lampsTrue {s : State} (h : s.Wired) : (deriveLamps s).LampsTrue := fun k => by
  have same := deriveLamps_steady s
  rw [lampOf_of_steady same, entry_of_steady same]
  cases mapped : (deriveLamps s).entryOf k with
  | none => exact (deriveLamps_wired h).dark k mapped
  | some i =>
    rw [entryOf_of_steady same] at mapped
    obtain ⟨b, entry, rfl⟩ := entry_of_entryOf mapped
    simp only [entry, Option.elim_some]
    exact (forEach_deriveLamp_lamp allEntries h.apart entry).trans (if_pos (List.mem_finRange i))

/-! ### A settling -/

/-- What a step leaves: the keys apart, and every lamp as derived. -/
structure State.Lit (s : State) : Prop where
  apart : s.KeysApart
  lamps : s.LampsTrue

theorem State.Lit.wired {s : State} (h : s.Lit) : s.Wired := h.lamps.wired h.apart

theorem takeBay_lamp (s : State) : (takeBay s).lamp = s.lamp := by
  simp only [takeBay]
  (repeat' split) <;> rfl

theorem takeUp_lamp (s : State) : (takeUp s).lamp = s.lamp := by
  have spine (t : State) : (takeSpine t).lamp = t.lamp := by
    funext k
    unfold State.lamp
    rw [takeSpine_press]
  unfold takeUp
  split
  · rw [spine, takeBay_lamp]
  · rfl

theorem takeUp_steady (s : State) : (takeUp s).steady = s.steady := by
  unfold takeUp
  split
  · exact (takeSpine_steady _).trans (takeBay_steady s)
  · rfl

/-- R169, R170: what the transmitters take up changes no lamp and nothing that a lamp is derived from. -/
theorem takeUp_lit {s : State} (h : s.Lit) : (takeUp s).Lit := by
  have same := takeUp_steady s
  refine ⟨keysApart_of_steady same h.apart, fun k => ?_⟩
  rw [takeUp_lamp, entryOf_of_steady same, entry_of_steady same, lampOf_of_steady same]
  exact h.lamps k

theorem settle_lit {s : State} (h : s.Wired) : (settle s).Lit :=
  takeUp_lit ⟨(deriveLamps_wired h).apart, deriveLamps_lampsTrue h⟩

end Sys2Proof.Machine

/-! ## The board: the keys of the entries and the lamps -/

namespace Sys2Proof.Machine

/-- The key that each entry of the button map holds, and the lamps. No operation changes them but a BUTTON write, the
derivation of the lamps, and a reset. -/
def State.board (s : State) : (EntryIx → Option Key) × (Key → Lamp) := (fun i => (s.entry i).map Button.key, s.lamp)

theorem entryOf_of_board {s t : State} (h : t.board = s.board) : t.entryOf = s.entryOf :=
  funext (entryOf_of_keys (congrFun (congrArg Prod.fst h)))

theorem lamp_of_board {s t : State} (h : t.board = s.board) : t.lamp = s.lamp := congrArg Prod.snd h

theorem keysApart_of_board {s t : State} (h : t.board = s.board) (apart : s.KeysApart) : t.KeysApart := by
  have keys (i : EntryIx) : (t.entry i).map Button.key = (s.entry i).map Button.key := congrFun (congrArg Prod.fst h) i
  have before (i : EntryIx) (b : Button) (entry : t.entry i = some b) : ∃ a, s.entry i = some a ∧ a.key = b.key := by
    have same := keys i
    rw [entry] at same
    exact Option.map_eq_some_iff.mp same.symm
  intro i j b c hi hj key
  obtain ⟨a, ha, ka⟩ := before i b hi
  obtain ⟨d, hd, kd⟩ := before j c hj
  exact apart i j a d ha hd (by rw [ka, kd, key])

theorem State.Wired.of_board {s t : State} (h : s.Wired) (same : t.board = s.board) : t.Wired :=
  ⟨keysApart_of_board same h.apart, fun k unmapped => by
    rw [lamp_of_board same]
    exact h.dark k (by rw [← entryOf_of_board same]; exact unmapped)⟩

theorem State.board_of_press {s t : State} (h : t.press = s.press) : t.board = s.board := by
  have keys : t.entry = s.entry := congrArg (fun q : PressArbiter => tget q.buttons) h
  have lamps : t.lamp = s.lamp := congrArg (fun (q : PressArbiter) (k : Key) => tget (tget q.lamps k.node) k.button) h
  rw [State.board, keys, lamps]
  rfl

/-! ### Updates of the state -/

@[simp] theorem State.onRelay_board (s : State) (f : LineRelay → LineRelay) : (s.onRelay f).board = s.board := rfl
@[simp] theorem State.onMotion_board (s : State) (f : MotionSequencer → MotionSequencer) :
    (s.onMotion f).board = s.board := rfl
@[simp] theorem State.onSup_board (s : State) (f : Supervisor → Supervisor) : (s.onSup f).board = s.board := rfl
@[simp] theorem State.onAlert_board (s : State) (f : AlertUnit → AlertUnit) : (s.onAlert f).board = s.board := rfl
@[simp] theorem State.onMode_board (s : State) (f : ModeControl → ModeControl) : (s.onMode f).board = s.board := rfl
@[simp] theorem State.onPins_board (s : State) (f : Pins → Pins) : (s.onPins f).board = s.board := rfl
@[simp] theorem State.withPending_board (s : State) (q : List Instr) : (s.withPending q).board = s.board := rfl
@[simp] theorem State.modModel_board (s : State) (m : ModelId) (f : Model → Model) :
    (s.modModel m f).board = s.board := rfl
@[simp] theorem State.modWatch_board (s : State) (m : ModelId) (f : Watch → Watch) :
    (s.modWatch m f).board = s.board := rfl
@[simp] theorem State.modNode_board (s : State) (n : NodeId) (f : NodeEntry → NodeEntry) :
    (s.modNode n f).board = s.board := rfl
@[simp] theorem State.modMarks_board (s : State) (id : FaultId) (f : Marks → Marks) :
    (s.modMarks id f).board = s.board := rfl
@[simp] theorem State.setWaits_board (s : State) (m : ModelId) (l : List Request) :
    (s.setWaits m l).board = s.board := rfl
@[simp] theorem State.onTallies_board (s : State) (f : Tallies → Tallies) : (s.onTallies f).board = s.board := rfl
@[simp] theorem State.onBayCounters_board (s : State) (f : BayCounters → BayCounters) :
    (s.onBayCounters f).board = s.board := rfl
@[simp] theorem State.onSpineCounters_board (s : State) (f : SpineCounters → SpineCounters) :
    (s.onSpineCounters f).board = s.board := rfl

/-- A table whose entries keep their keys. -/
theorem State.modEntry_board (s : State) (i : EntryIx) {f : Button → Button}
    (key : ∀ b, (f b).key = b.key := by exact fun _ => rfl) : (s.modEntry i f).board = s.board := by
  have keys : (fun j => ((s.modEntry i f).entry j).map Button.key) = fun j => (s.entry j).map Button.key :=
    funext fun j => by
      rw [State.modEntry_entry]
      split
      · rename_i e; subst e; cases s.entry j <;> simp [key]
      · rfl
  rw [State.board, keys]
  rfl

/-! ### Alerts, the doze timer and wait lists -/

@[simp] theorem raise_board (a : About) (s : State) : (raise a s).board = s.board :=
  State.board_of_press (raise_press a s)
@[simp] theorem quietTest_board (b : Bool) (s : State) : (quietTest b s).board = s.board :=
  State.board_of_press (quietTest_press b s)
@[simp] theorem deriveShowing_board (s : State) : (deriveShowing s).board = s.board := rfl
@[simp] theorem quench_board (id : FaultId) (s : State) : (quench id s).board = s.board := rfl
@[simp] theorem removeEntry_board (m : ModelId) (s : State) : (removeEntry m s).board = s.board := by simp [removeEntry]
@[simp] theorem sendFreeNotice_board (m : ModelId) (s : State) : (sendFreeNotice m s).board = s.board := rfl
@[simp] theorem flushList_board (m : ModelId) (s : State) : (flushList m s).board = s.board := by simp [flushList]
@[simp] theorem flushAll_board (s : State) : (flushAll s).board = s.board :=
  forEach_keeps State.board _ flushList_board _ s
@[simp] theorem trimList_board (m : ModelId) (d : Nat) (s : State) : (trimList m d s).board = s.board := by
  simp [trimList]
@[simp] theorem flushKey_board (k : Key) (m : ModelId) (s : State) : (flushKey k m s).board = s.board := by
  unfold flushKey; split <;> simp
@[simp] theorem requestExpires_board (m : ModelId) (k : Key) (s : State) : (requestExpires m k s).board = s.board := by
  unfold requestExpires; split <;> simp

/-! ### Changes of a model and faults -/

@[simp] theorem changeModel_board (m : ModelId) (f : Model → Model) (s : State) :
    (changeModel m f s).board = s.board := by
  rw [State.board_of_press (t := changeModel m f s)
    (s := if (s.model m).leaves (f (s.model m)) then flushList m s else s)
    (by rw [changeModel_press, apply_ite State.press])]
  split <;> simp

@[simp] theorem cutModel_board (m : ModelId) (s : State) : (cutModel m s).board = s.board := changeModel_board m _ s
@[simp] theorem pauseModel_board (m : ModelId) (s : State) : (pauseModel m s).board = s.board := changeModel_board m _ s
@[simp] theorem resumeModel_board (m : ModelId) (s : State) : (resumeModel m s).board = s.board :=
  changeModel_board m _ s
@[simp] theorem holdModel_board (m : ModelId) (s : State) : (holdModel m s).board = s.board := changeModel_board m _ s
@[simp] theorem stopModel_board (m : ModelId) (s : State) : (stopModel m s).board = s.board := changeModel_board m _ s
@[simp] theorem tripModel_board (m : ModelId) (s : State) : (tripModel m s).board = s.board := changeModel_board m _ s

@[simp] theorem pauseWindowEnds_board (m : ModelId) (s : State) : (pauseWindowEnds m s).board = s.board := by
  unfold pauseWindowEnds; split <;> simp

@[simp] theorem latchAndRaise_board (id : FaultId) (s : State) : (latchAndRaise id s).board = s.board := by
  unfold latchAndRaise
  rw [raise_board]
  split
  · split <;> simp
  · simp

@[simp] theorem driveReport_board (m : ModelId) (s : State) : (driveReport m s).board = s.board :=
  latchAndRaise_board _ s

@[simp] theorem report_board (id : FaultId) (v : Bool) (s : State) : (report id v s).board = s.board := by
  have activated (t : State) : (activate id t).board = t.board := by unfold activate; split <;> simp
  unfold report
  dsimp only
  split
  · split <;> simp [activated]
  · rfl

theorem redetect_board (code : Fin 15) (s : State) : (redetect code s).board = s.board :=
  forEach_keeps State.board _ (fun id t => report_board id _ t) _ s

@[simp] theorem reseat_board (m : ModelId) (s : State) : (reseat m s).board = s.board := by
  unfold reseat; split <;> simp

@[simp] theorem releaseTrip_board (m : ModelId) (s : State) : (releaseTrip m s).board = s.board := by
  unfold releaseTrip; (repeat' split) <;> simp

theorem resumeAll_board (s : State) : (resumeAll s).board = s.board := State.board_of_press (resumeAll_press s)

theorem clearLatches_board (ids : List FaultId) (s : State) : (clearLatches ids s).board = s.board := by
  unfold clearLatches
  dsimp only
  rw [forEach_keeps State.board _ fun id t => by simp [clearNotice],
    forEach_keeps State.board _ fun m t => by split <;> simp, forEach_keeps State.board _ fun id t => by simp]

/-! ### Starts, becoming free and zones -/

@[simp] theorem startRequest_board (m : ModelId) (c : CueId) (o : Owner) (p : Bool) (s : State) :
    (startRequest m c o p s).1.board = s.board := by
  rw [startRequest_eq]
  cases s.verdict m c o <;> simp [startCue]

@[simp] theorem serveEntry_board (m : ModelId) (c : CueId) (s : State) : (serveEntry m c s).1.board = s.board := by
  have decided := startRequest_board m c .control false s
  unfold serveEntry
  split <;> rename_i asked <;> rw [asked] at decided <;> simpa using decided

@[simp] theorem becomeFree_board (m : ModelId) (s : State) : (becomeFree m s).board = s.board := by
  unfold becomeFree
  split
  · rfl
  · rename_i e _
    have served := serveEntry_board m e.cue s
    split <;> rename_i answer <;> rw [answer] at served <;> exact served

@[simp] theorem freeIfStartable_board (m : ModelId) (s : State) : (freeIfStartable m s).board = s.board := by
  unfold freeIfStartable; split <;> simp

@[simp] theorem freeAll_board (s : State) : (freeAll s).board = s.board :=
  forEach_keeps State.board _ freeIfStartable_board _ s

@[simp] theorem updateMark_board (m : ModelId) (s : State) : (updateMark m s).board = s.board := by
  have released (t : State) : (releaseModel m t).board = t.board := by unfold releaseModel; split <;> simp
  unfold updateMark
  dsimp only
  (repeat' split) <;> simp [released]

@[simp] theorem setZone_board (z : ZoneId) (x : Zone) (s : State) : (setZone z x s).board = s.board := by
  unfold setZone
  dsimp only
  split
  · rfl
  · exact forEach_keeps State.board _ (fun m t => by split <;> simp) _ _

@[simp] theorem settleEnds_board (z : ZoneId) (s : State) : (settleEnds z s).board = s.board := by
  unfold settleEnds; split <;> simp

@[simp] theorem reviewZones_board (s : State) : (reviewZones s).board = s.board := by
  refine forEach_keeps State.board _ (fun z t => ?_) _ s
  unfold reviewZone
  dsimp only
  (repeat' split) <;> simp

/-! ### Commits and the sample -/

@[simp] theorem applyFields_board (m : ModelId) (c : ModelConfig) (s : State) : (applyFields m c s).board = s.board := by
  simp [applyFields]

theorem applyCommit_board (m : ModelId) (c : ModelConfig) (s : State) : (applyCommit m c s).board = s.board := by
  simp [applyCommit]

@[simp] theorem enterIdle_board (m : ModelId) (s : State) : (enterIdle m s).board = s.board := by
  have committed (t : State) : (deferredCommit m t).board = t.board := by
    unfold deferredCommit
    dsimp only
    (repeat' split) <;> simp
  simp [enterIdle, committed]

@[simp] theorem cueEnds_board (m : ModelId) (c : CueId) (s : State) : (cueEnds m c s).board = s.board := by
  unfold cueEnds; split <;> simp

theorem sampleModel_board (m : ModelId) (s : State) : (sampleModel m s).1.board = s.board := by
  unfold sampleModel
  dsimp only
  (repeat' split) <;> simp [repeatSetpoint]

theorem sampleExpiry_board (s : State) : (sampleExpiry s).board = s.board := by
  have slots (outs : List AxisOut) (t : State) : (forEach allNodes (fillSlot outs) t).board = t.board :=
    forEach_keeps State.board _ (fun n t => by unfold fillSlot; split <;> rfl) _ t
  unfold sampleExpiry
  dsimp only
  rw [slots, sampleModels_state, forEach_keeps State.board _ sampleModel_board]
  rfl

/-! ### Gallery modes and due entries -/

@[simp] theorem setMode_board (g : GalleryMode) (s : State) : (setMode g s).board = s.board := rfl
@[simp] theorem stopWakeTimer_board (s : State) : (stopWakeTimer s).board = s.board := rfl

@[simp] theorem cutAllInPlay_board (s : State) : (cutAllInPlay s).board = s.board :=
  forEach_keeps State.board _ (fun m t => by split <;> simp) _ s

@[simp] theorem cutVisitors_board (s : State) : (cutVisitors s).board = s.board :=
  forEach_keeps State.board _ (fun m t => by split <;> simp) _ s

@[simp] theorem relaxFollowing_board (s : State) : (relaxFollowing s).board = s.board :=
  forEach_keeps State.board _ (fun m t => by split <;> rfl) _ s

@[simp] theorem enterOpen_board (s : State) : (enterOpen s).board = s.board := by simp [enterOpen]
@[simp] theorem enterDoze_board (s : State) : (enterDoze s).board = s.board := by simp [enterDoze]

@[simp] theorem endWakeTest_board (s : State) : (endWakeTest s).board = s.board := by
  unfold endWakeTest; split <;> simp

@[simp] theorem sendWake_board (s : State) : (sendWake s).board = s.board := by
  unfold sendWake; split <;> simp [beginWake]

theorem withEntryTest_board {taking : State → State} {s : State} (kept : (taking s).board = s.board) :
    (withEntryTest taking s).board = s.board := by
  unfold withEntryTest; split <;> simp [kept]

theorem dozeEnds_board (s : State) : (dozeEnds s).board = s.board := by unfold dozeEnds; split <;> simp

theorem wakeLimitEnds_board (s : State) : (wakeLimitEnds s).board = s.board := by
  unfold wakeLimitEnds
  split
  · rw [enterOpen_board, forEach_keeps State.board _ driveReport_board, stopWakeTimer_board]
  · rfl

theorem modeCommand_board (g : GalleryMode) (s : State) : (modeCommand g s).1.board = s.board := by
  unfold modeCommand
  (repeat' split) <;> simp [enterClosed, enterService, requestWake, withEntryTest_board]

@[simp] theorem lateExpires_board (m : ModelId) (s : State) : (lateExpires m s).board = s.board := by
  unfold lateExpires; split <;> simp

theorem becomeDue_board (m : ModelId) (s : State) : (becomeDue m s).board = s.board := by
  have missed (e : ScheduleEntry) (t : State) : (missAtOnce e t).board = t.board := by
    unfold missAtOnce; split <;> simp
  unfold becomeDue
  split
  · rfl
  · dsimp only
    split
    · simp [missed]
    · rw [withEntryTest_board (by rw [missed, sendWake_board])]
      simp

theorem nextDue_board (s : State) : (nextDue s).board = s.board := by
  unfold nextDue; split <;> simp [becomeDue_board]

theorem syncClock_board (v : Clock) (s : State) : (syncClock v s).board = s.board :=
  forEach_keeps State.board _ becomeDue_board _ _

theorem scheduleStart_board (m : ModelId) (c : CueId) (w : Clock) (l : Nat) (s : State) :
    (scheduleStart m c w l s).1.board = s.board := by
  unfold scheduleStart
  dsimp only
  (repeat' split) <;> simp [becomeDue_board]

/-! ### Presses -/

@[simp] theorem markDirty_board (n : NodeId) (s : State) : (markDirty n s).board = s.board := by
  unfold markDirty; split <;> rfl

theorem refreshEnds_board (n : NodeId) (s : State) : (refreshEnds n s).board = s.board := by
  unfold refreshEnds
  split
  · rw [markDirty_board]; rfl
  · rfl

@[simp] theorem beginLockout_board (i : EntryIx) (s : State) : (beginLockout i s).board = s.board :=
  State.modEntry_board s i

theorem beginLockoutOf_board (k : Key) (s : State) : (beginLockoutOf k s).board = s.board := by
  unfold beginLockoutOf; split <;> simp

theorem lockoutEnds_board (k : Key) (s : State) : (lockoutEnds k s).board = s.board := by
  unfold lockoutEnds
  split
  · exact State.modEntry_board s _
  · rfl

theorem clearSuspect_board (i : EntryIx) (k : Key) (s : State) : (clearSuspect i k s).board = s.board :=
  (report_board _ _ _).trans (State.modEntry_board s i)

theorem stuckExpires_board (k : Key) (s : State) : (stuckExpires k s).board = s.board := by
  unfold stuckExpires
  split
  · rfl
  · split
    · rfl
    · split
      · rw [flushKey_board, report_board]
        exact State.modEntry_board s _
      · rfl

theorem joinList_board (b : Button) (s : State) : (joinList b s).board = s.board := by
  unfold joinList
  dsimp only
  (repeat' split) <;> simp

theorem serveList_board (m : ModelId) (fuel : Nat) (s : State) : (serveList m fuel s).board = s.board := by
  induction fuel generalizing s with
  | zero => rfl
  | succ fuel ih =>
    unfold serveList
    split
    · rfl
    · rename_i r rest _
      have decided := startRequest_board m r.cue (.button r.key) (s.startsPaused r.key) s
      split <;> rename_i asked <;> rw [asked] at decided <;> simpa [ih, beginLockoutOf_board] using decided

theorem takeFreeNotice_board (m : ModelId) (s : State) : (takeFreeNotice m s).board = s.board := by
  unfold takeFreeNotice; split <;> simp [serveList_board]

theorem press_board (i : EntryIx) (b : Button) (s : State) : (press i b s).board = s.board := by
  have started : (pressStart i b s).board = s.board := by
    have decided := startRequest_board b.modelId b.cueId (.button b.key) false s
    unfold pressStart
    split <;> rename_i asked <;> rw [asked] at decided <;> simpa [joinList_board] using decided
  unfold press
  dsimp only
  (repeat' split) <;> simp [started]

theorem edgeCases_board (i : EntryIx) (b : Button) (e : Edge) (s : State) : (edgeCases i b e s).board = s.board := by
  have called : (callEdge i b s).board = s.board := by
    unfold callEdge callPress
    (repeat' split) <;> simp
  unfold edgeCases
  (repeat' split) <;> simp [press_board, called]

theorem takeEdge_board (i : EntryIx) (e : Edge) (s : State) : (takeEdge i e s).board = s.board := by
  have booked : (stuckBookkeeping i e s).board = s.board := by
    cases e <;> exact State.modEntry_board s i
  unfold takeEdge
  dsimp only
  (repeat' split) <;> simp [booked, clearSuspect_board, edgeCases_board]

theorem emptyRecorded_board (n : NodeId) (s : State) : (emptyRecorded n s).board = s.board := by
  refine forEach_keeps State.board _ (fun b t => ?_) _ _
  unfold dropButton
  split
  · rfl
  · have cleared (i : EntryIx) := t.modEntry_board i (f := fun b => { b with stuckTimer := none, downSince := none })
    dsimp only
    (repeat' split) <;> simp [clearSuspect_board, cleared]

/-! ### The relay -/

@[simp] theorem forwardDown_board (f : Frame) (s : State) : (forwardDown f s).board = s.board := by
  unfold forwardDown; split <;> rfl
@[simp] theorem forwardUp_board (f : Frame) (s : State) : (forwardUp f s).board = s.board := by
  unfold forwardUp; split <;> rfl

theorem nodeHeard_board (n : NodeId) (s : State) : (nodeHeard n s).board = s.board := by
  have drives (t : State) : (driveHeard n t).board = t.board :=
    forEach_keeps State.board _ (fun m u => by simp) _ t
  unfold nodeHeard
  dsimp only
  (repeat' split) <;> simp [drives]

theorem nodeSilenceEnds_board (n : NodeId) (s : State) : (nodeSilenceEnds n s).board = s.board := by
  unfold nodeSilenceEnds
  dsimp only
  (repeat' split) <;> simp [emptyRecorded_board]

theorem driveSilenceEnds_board (m : ModelId) (s : State) : (driveSilenceEnds m s).board = s.board := by
  unfold driveSilenceEnds; split <;> simp

theorem spineHeard_board (s : State) : (spineHeard s).board = s.board := by simp [spineHeard]

theorem spineSilenceEnds_board (s : State) : (spineSilenceEnds s).board = s.board := by
  unfold spineSilenceEnds; split <;> simp

theorem bayError_board (s : State) : (bayError s).board = s.board := by
  unfold bayError; dsimp only; split <;> simp

theorem windowEnds_board (s : State) : (windowEnds s).board = s.board := by
  unfold windowEnds; dsimp only; split <;> simp

theorem reportRing_board (v : Bool) (s : State) : (reportRing v s).board = s.board := by
  unfold reportRing; dsimp only; split <;> simp

theorem ringReturn_board (s : State) : (ringReturn s).board = s.board := reportRing_board false _

theorem ringMiss_board (s : State) : (ringMiss s).board = s.board := by
  unfold ringMiss; dsimp only; (repeat' split) <;> simp [reportRing_board]

theorem takePresence_board (n : NodeId) (occupied : BitVec 8) (s : State) :
    (takePresence n occupied s).board = s.board := by
  unfold takePresence; split <;> simp

theorem checkEntry_board (m : ModelId) (p : Int) (load : Nat) (flagged : Bool) (s : State) :
    (checkEntry m p load flagged s).board = s.board := by
  unfold checkEntry; dsimp only; (repeat' split) <;> simp

theorem takeFeedback_board (n : NodeId) (entries : List AxisEntry) (s : State) :
    (takeFeedback n entries s).board = s.board := by
  have taken (e : AxisEntry) (t : State) : (takeAxisEntry n e t).board = t.board := by
    unfold takeAxisEntry
    dsimp only
    (repeat' split) <;> simp [checkEntry_board, firstFeedback]
  unfold takeFeedback
  split
  · exact forEach_keeps State.board _ taken _ s
  · rfl

@[simp] theorem setReceiver_board (p : Port) (r : Receiver) (s : State) : (setReceiver p r s).board = s.board := by
  cases p <;> rfl

theorem countGood_board (p : Port) (s : State) : (countGood p s).board = s.board := by cases p <;> rfl

theorem countCheckError_board (p : Port) (s : State) : (countCheckError p s).board = s.board := by
  cases p
  · exact bayError_board _
  · rfl

theorem abandon_board (p : Port) (next : Receiver) (s : State) : (abandon p next s).board = s.board := by
  have counted (t : State) : (countFraming p t).board = t.board := by
    cases p
    · exact bayError_board _
    · rfl
  unfold abandon; split <;> simp [counted]

theorem lineIdle_board (p : Port) (s : State) : (lineIdle p s).board = s.board := by unfold lineIdle; split <;> simp

theorem mirrorUp_markHello_board (n : NodeId) (f : Frame) (b : Byte) (s : State) :
    (mirrorUp n f (markHello n b s)).board = s.board := by
  unfold mirrorUp markHello; (repeat' split) <;> simp

theorem bayLeft_board (s : State) : (bayLeft s).board = s.board := by
  unfold bayLeft; dsimp only; (repeat' split) <;> rfl

/-! ### Tables and commands -/

theorem writeNode_board (n : NodeId) (r : List Byte) (s : State) : (writeNode n r s).1.board = s.board := by
  have stored (f : NodeFields) : (storeNode n f s).board = s.board := by
    unfold storeNode
    rw [reviewZones_board, State.onSup_board]
    dsimp only
    (repeat' split)
    · simp
    · simp
    · exact (emptyRecorded_board n _).trans (report_board _ _ _)
  unfold writeNode
  (repeat' split) <;> simp [stored]

theorem writeCue_board (c : CueId) (r : List Byte) (s : State) : (writeCue c r s).1.board = s.board := by
  unfold writeCue; (repeat' split) <;> rfl

theorem writeProfile_board (p : ProfileId) (r : List Byte) (s : State) : (writeProfile p r s).1.board = s.board := by
  unfold writeProfile; (repeat' split) <;> rfl

theorem writeModel_board (m : ModelId) (r : List Byte) (s : State) : (writeModel m r s).1.board = s.board := by
  unfold writeModel; (repeat' split) <;> rfl

theorem writeRoute_board (code : Fin 15) (r : List Byte) (s : State) : (writeRoute code r s).1.board = s.board := by
  have filled (t : State) : (fillSilent t).board = t.board :=
    forEach_keeps State.board _ (fun n u => by split <;> rfl) _ t
  unfold writeRoute
  split
  · rfl
  · unfold storeRoute
    dsimp only
    (repeat' split) <;> simp [redetect_board, filled]

theorem writePattern_board (i : Fin 3) (r : List Byte) (s : State) : (writePattern i r s).1.board = s.board := by
  unfold writePattern; split <;> rfl

theorem writeSettings_board (r : List Byte) (s : State) : (writeSettings r s).1.board = s.board := by
  have stored (v : Settings) : (storeSettings v s).board = s.board := by
    unfold storeSettings
    rw [quietTest_board]
    (repeat' split) <;> rfl
  unfold writeSettings
  (repeat' split) <;> simp [stored]

theorem enableModel_board (m : ModelId) (s : State) : (enableModel m s).1.board = s.board := by
  unfold enableModel; (repeat' split) <;> simp [enterEnabling]

theorem disableModel_board (m : ModelId) (s : State) : (disableModel m s).1.board = s.board := by
  have quenched (t : State) : (quenchModel m t).board = t.board := State.board_of_press (quenchModel_press m t)
  unfold disableModel; split <;> simp [quenched]

theorem commitModel_board (m : ModelId) (s : State) : (commitModel m s).1.board = s.board := by
  unfold commitModel; (repeat' split) <;> simp [applyCommit_board]

theorem startNow_board (a : List Byte) (s : State) : (startNow a s).1.board = s.board := by
  unfold startNow
  split
  · rfl
  · split
    · rfl
    · exact startRequest_board _ _ _ _ s

theorem startLater_board (a : List Byte) (s : State) : (startLater a s).1.board = s.board := by
  unfold startLater; (repeat' split) <;> simp [scheduleStart_board]

theorem stopCue_board (m : ModelId) (s : State) : (stopCue m s).1.board = s.board := by
  unfold stopCue; split <;> simp

theorem modeArgs_board (a : List Byte) (s : State) : (modeArgs a s).1.board = s.board := by
  unfold modeArgs; (repeat' split) <;> simp [modeCommand_board]

theorem syncArgs_board (a : List Byte) (s : State) : (syncArgs a s).1.board = s.board := by
  unfold syncArgs; split <;> simp [syncClock_board]

theorem clearArgs_board (a : List Byte) (s : State) : (clearArgs a s).1.board = s.board := by
  unfold clearArgs; (repeat' split) <;> simp [clearNamed, clearLatches_board]

theorem resumeArgs_board (a : List Byte) (s : State) : (resumeArgs a s).1.board = s.board := by
  unfold resumeArgs; (repeat' split) <;> simp [resumeAll_board]

theorem ackArgs_board (p : List Byte) (s : State) : (ackArgs p s).1.board = s.board := by
  unfold ackArgs ackNumber; (repeat' split) <;> rfl

theorem clearCounts_board (s : State) : (clearCounts s).board = s.board := by simp [clearCounts]

/-! ### Keys and deadlines -/

theorem escalate_board (n : Nat) (s : State) : (escalate n s).board = s.board := rfl

theorem stopAsserts_board (s : State) : (stopAsserts s).board = s.board := by
  unfold stopAsserts
  dsimp only
  split
  · rfl
  · rw [forEach_keeps State.board _ stopModel_board, report_board]; rfl

theorem stopReleases_board (s : State) : (stopReleases s).board = s.board := by
  unfold stopReleases; dsimp only; split <;> simp

theorem ackPressed_board (s : State) : (ackPressed s).board = s.board := by
  unfold ackPressed; dsimp only; split <;> rfl

theorem ackLetGo_board (s : State) : (ackLetGo s).board = s.board := by
  unfold ackLetGo; dsimp only; split <;> rfl

theorem ackHeld_board (s : State) : (ackHeld s).board = s.board := by
  unfold ackHeld; dsimp only; (repeat' split) <;> simp [resumeAll_board]

theorem holdLimitEnds_board (m : ModelId) (s : State) : (holdLimitEnds m s).board = s.board := by
  unfold holdLimitEnds; split <;> simp

end Sys2Proof.Machine

/-! ## The wiring through PANEL frames, BUTTON writes, resets and commands -/

namespace Sys2Proof.Machine

theorem wired_ite {c : Prop} [Decidable c] {s t : State} (hs : s.Wired) (ht : t.Wired) :
    (if c then s else t).Wired := by
  split
  · exact hs
  · exact ht

/-! ### PANEL frames -/

/-- R60, R82: the lamps are derived after each edge. -/
theorem panelButton_wired (n : NodeId) (d : BitVec 16) (b : ButtonIx) {s : State} (h : s.Wired) :
    (panelButton n d b s).Wired := by
  unfold panelButton
  refine wired_ite h ?_
  have recorded : (recordButton ⟨n, b⟩ (d.getLsbD b.val) s).Wired := h.of_board rfl
  dsimp only
  split
  · exact deriveLamps_wired (recorded.of_board (takeEdge_board _ _ _))
  · exact recorded

theorem takePanel_wired (n : NodeId) (d : BitVec 16) (hello : Bool) {s : State} (h : s.Wired) :
    (takePanel n d hello s).Wired := by
  have taken : (forEach allButtons (panelButton n d) s).Wired :=
    forEach_invariant (Good := State.Wired) (fun b _ => panelButton_wired n d b) allButtons h
  have tested : (withEntryTest (forEach allButtons (panelButton n d)) s).Wired :=
    wired_ite (taken.of_board (endWakeTest_board _)) taken
  exact wired_ite (wired_ite (tested.of_board (markDirty_board n _)) tested) h

/-! ### BUTTON writes (R62, R63, R82) -/

section
variable {i : EntryIx} {new : Option Button} {s : State}

theorem replaced_entry (i j : EntryIx) (new : Option Button) (s : State) :
    (s.replaced i new).entry j = if j = i then new.map (freshButton · s) else s.entry j := tget_tput _ _ _ _

theorem freshButton_key (b : Button) (s : State) : (freshButton b s).key = b.key := by
  unfold freshButton; split <;> rfl

/-- Stage 4 of R175: no other entry holds the key of the new one. -/
def State.KeyFree (s : State) (i : EntryIx) (new : Option Button) : Prop :=
  ∀ b, new = some b → ∀ j, ¬ s.holdsElsewhere i b.key j

theorem keyFree_of_no_duplicate (unique : (new.bind fun b => s.duplicateOf i b.key) = none) : s.KeyFree i new := by
  rintro b rfl j holds
  exact List.find?_eq_none.mp unique j (List.mem_finRange j) ((holdsElsewhere_iff s i b.key j).mpr holds)

theorem replaced_keysApart (apart : s.KeysApart) (free : s.KeyFree i new) : (s.replaced i new).KeysApart := by
  have written {b c : Button} {j : EntryIx} (stored : new.map (freshButton · s) = some b) (other : j ≠ i)
      (entry : s.entry j = some c) : c.key ≠ b.key := by
    obtain ⟨a, is, rfl⟩ := Option.map_eq_some_iff.mp stored
    exact fun own => free a is j ⟨other, c, entry, own.trans (freshButton_key a s)⟩
  intro j k b c hj hk key
  rw [replaced_entry] at hj hk
  split at hj <;> split at hk
  · rename_i e e'; rw [e, e']
  · rename_i other; exact absurd key.symm (written hj other hk)
  · rename_i other _; exact absurd key (written hk other hj)
  · exact apart j k b c hj hk key

/-- A key that the replacement of an entry leaves unmapped was unmapped before, unless it was that entry's. -/
theorem unmapped_of_replaced {k : Key} (gone : (s.replaced i new).entryOf k = none)
    (other : ∀ e, s.entry i = some e → e.key ≠ k) : s.entryOf k = none := by
  rw [entryOf_eq_none_iff] at gone ⊢
  intro j b entry
  by_cases own : j = i
  · exact other b (own ▸ entry)
  · exact gone j b (by rw [replaced_entry, if_neg own, entry])

theorem storeButton_wired (h : s.Wired) (free : s.KeyFree i new) : (storeButton i new s).Wired := by
  have apart := replaced_keysApart h.apart free
  cases entry : s.entry i with
  | none =>
    rw [storeButton_of_empty entry]
    exact ⟨apart, fun k gone => h.dark k (unmapped_of_replaced gone fun e found => by rw [entry] at found; cases found)⟩
  | some e =>
    have dark (k : Key) (gone : (s.replaced i new).entryOf k = none) (other : k ≠ e.key) : s.lamp k = .off :=
      h.dark k (unmapped_of_replaced gone fun x found => by
        obtain rfl : e = x := Option.some.inj (entry.symm.trans found)
        exact other.symm)
    rw [storeButton_of_entry entry]
    split
    · have same : (setLamp e.key .off (quench (.buttonStuck e.key) (s.replaced i new))).steady =
          (quench (.buttonStuck e.key) (s.replaced i new)).steady := steady_of_unlit (setLamp_unlit _ _ _)
      refine ⟨keysApart_of_steady same apart, fun k gone => ?_⟩
      rw [entryOf_of_steady same] at gone
      rw [setLamp_lamp]
      split
      · rfl
      · rename_i other; exact dark k gone other
    · rename_i mapped
      refine ⟨apart, fun k gone => dark k gone fun own => mapped ?_⟩
      have none : (s.replaced i new).entryOf e.key = .none := own ▸ gone
      rw [none]
      rfl

theorem writeButton_wired (i : EntryIx) (r : List Byte) (h : s.Wired) : (writeButton i r s).1.Wired := by
  unfold writeButton
  split
  · exact h
  · split
    · exact h
    · rename_i unique
      split
      · exact h
      · exact storeButton_wired h (keyFree_of_no_duplicate unique)

end

/-! ### Resets -/

theorem reset_wired : State.reset.Wired := State.reset_lampsTrue.wired State.reset_keysApart

theorem wired_of_reset {s : State} (press : s.press = PressArbiter.reset) : s.Wired :=
  reset_wired.of_board (State.board_of_press press)

theorem sampleKeys_board (s : State) : (sampleKeys s).board = s.board := by
  unfold sampleKeys
  dsimp only
  split <;> simp

theorem placeStartUp_board (origin : Byte) (s : State) : (placeStartUp origin s).board = s.board := rfl

theorem hardResetEnds_wired (s : State) : (hardResetEnds s).Wired :=
  (wired_of_reset rfl).of_board ((placeStartUp_board _ _).trans (sampleKeys_board _))

theorem hardResetHolds_wired (s : State) : (hardResetHolds s).Wired := wired_of_reset rfl

theorem softReset_wired (s : State) : (softReset s).Wired :=
  (wired_of_reset rfl).of_board ((placeStartUp_board _ _).trans (sampleKeys_board _))

theorem spineLeft_wired {s : State} (h : s.Wired) : (spineLeft s).Wired := by
  unfold spineLeft
  split
  · exact h
  · refine wired_ite (softReset_wired _) ?_
    split
    · exact h.of_board rfl
    · exact wired_ite (softReset_wired _) (h.of_board rfl)
    · exact h.of_board rfl

/-! ### Commands and their answers -/

theorem answered_wired {c : Sender} {body : State → State × Answer} {s : State} (done : (body s).1.Wired)
    (h : s.Wired) : (answered c body s).Wired :=
  wired_ite done (wired_ite (h.of_board rfl) (done.of_board rfl))

theorem control_wired {code : Byte} {c : Sender} {body : State → State × Verdict16} {s : State}
    (kept : (body s).1.board = s.board) (h : s.Wired) : (control code c body s).Wired :=
  answered_wired (h.of_board kept) h

theorem modelCommand_wired {code : Byte} {c : Sender} {args : List Byte} {body : ModelId → State → State × Verdict16}
    {s : State} (kept : ∀ m, (body m s).1.board = s.board) (h : s.Wired) :
    (modelCommand code c args body s).Wired := by
  refine control_wired ?_ h
  split
  · split
    · exact kept _
    · rfl
  · rfl

theorem tableWrite_wired {id : Byte} {c : Sender} {index : Byte} {record : List Byte}
    {body : State → State × Verdict16} {s : State} (done : (body s).1.Wired) (h : s.Wired) :
    (tableWrite id c index record body s).Wired := by
  refine answered_wired ?_ h
  split
  · exact h
  · exact done

section
variable (c : Sender) (i : Byte) (r : List Byte) {s : State} (h : s.Wired)
include h

theorem nodeWrite_wired : (nodeWrite c i r s).Wired :=
  tableWrite_wired (by split; exacts [h.of_board (writeNode_board _ r s), h]) h
theorem buttonWrite_wired : (buttonWrite c i r s).Wired :=
  tableWrite_wired (by split; exacts [writeButton_wired _ r h, h]) h
theorem cueWrite_wired : (cueWrite c i r s).Wired :=
  tableWrite_wired (by split; exacts [h.of_board (writeCue_board _ r s), h]) h
theorem profileWrite_wired : (profileWrite c i r s).Wired :=
  tableWrite_wired (by split; exacts [h.of_board (writeProfile_board _ r s), h]) h
theorem modelWrite_wired : (modelWrite c i r s).Wired :=
  tableWrite_wired (by split; exacts [h.of_board (writeModel_board _ r s), h]) h
theorem routeWrite_wired : (routeWrite c i r s).Wired :=
  tableWrite_wired (by split; exacts [h.of_board (writeRoute_board _ r s), h]) h
theorem patternWrite_wired : (patternWrite c i r s).Wired :=
  tableWrite_wired (by split; exacts [h.of_board (writePattern_board _ r s), h]) h
theorem settingsWrite_wired : (settingsWrite c i r s).Wired :=
  tableWrite_wired (h.of_board (writeSettings_board r s)) h

theorem badTable_wired : (badTable c r s).Wired := by
  unfold badTable
  split
  · exact answered_wired h h
  · exact h

theorem tableRead_wired : (tableRead c r s).Wired := answered_wired h h
theorem enable_wired : (enable c r s).Wired := modelCommand_wired (enableModel_board · s) h
theorem disable_wired : (disable c r s).Wired := modelCommand_wired (disableModel_board · s) h
theorem commit_wired : (commit c r s).Wired := modelCommand_wired (commitModel_board · s) h
theorem cueStart_wired : (cueStart c r s).Wired := control_wired (startNow_board r s) h
theorem cueStartScheduled_wired : (cueStartScheduled c r s).Wired := control_wired (startLater_board r s) h
theorem cueStop_wired : (cueStop c r s).Wired := modelCommand_wired (stopCue_board · s) h
theorem modeChange_wired : (modeChange c r s).Wired := control_wired (modeArgs_board r s) h
theorem showSync_wired : (showSync c r s).Wired := control_wired (syncArgs_board r s) h
theorem clearFault_wired : (clearFault c r s).Wired := control_wired (clearArgs_board r s) h
theorem resume_wired : (resume c r s).Wired := control_wired (resumeArgs_board r s) h
theorem statusQuery_wired : (statusQuery c r s).Wired := answered_wired h h

theorem statusQueryClear_wired : (statusQueryClear c r s).Wired := by
  unfold statusQueryClear
  exact answered_wired (wired_ite (h.of_board (clearCounts_board s)) h) h

theorem alertAck_wired : (alertAck c r s).Wired := answered_wired (h.of_board (ackArgs_board r s)) h
theorem badCommand_wired : (badCommand c r s).Wired := wired_ite h (control_wired rfl h)

theorem restart_wired : (restart c r s).Wired := by
  have all : (restartAll s).Wired := wired_ite (h.of_board rfl) (softReset_wired s)
  have own : (restartOwn c r s).Wired := wired_ite (h.of_board rfl) (wired_ite (h.of_board rfl) (h.of_board rfl))
  exact wired_ite (wired_ite all h) own

end

/-! ### Frames -/

theorem receive_wired {p : Port} {classify : Frame → State → State}
    (keeps : ∀ f t, t.Wired → (classify f t).Wired) (f : Frame) {s : State} (h : s.Wired) :
    (receive p classify f s).Wired := by
  have waiting : (setReceiver p .waiting s).Wired := h.of_board (setReceiver_board _ _ _)
  exact wired_ite h (wired_ite (h.of_board (abandon_board _ _ _))
    (wired_ite (keeps f _ (waiting.of_board (countGood_board _ _))) (waiting.of_board (countCheckError_board _ _))))

theorem handOn_wired (n : NodeId) (f : Frame) {s : State} (h : s.Wired) : (handOn n f s).Wired := by
  have taken (b : Byte) : (mirrorUp n f (markHello n b s)).Wired := h.of_board (mirrorUp_markHello_board n f b s)
  have misrouted : (misroutedBay s).Wired := h.of_board rfl
  unfold handOn
  cases (s.node n).role <;> dsimp only
  case panel => exact wired_ite (takePanel_wired _ _ _ (taken _)) misrouted
  case drive =>
    refine wired_ite ?_ misrouted
    split
    · exact (taken _).of_board (takeFeedback_board _ _ _)
    · exact misrouted
  case sensor => exact wired_ite ((taken _).of_board (takePresence_board _ _ _)) misrouted
  all_goals exact misrouted

theorem routeBay_wired {controller : State → State} (f : Frame) {s : State} (done : (controller s).Wired)
    (h : s.Wired) : (routeBay controller f s).Wired :=
  wired_ite (h.of_board rfl) (wired_ite done (wired_ite (h.of_board (forwardDown_board _ _))
    (wired_ite (h.of_board (forwardUp_board _ _)) (h.of_board rfl))))

theorem classifyBay_wired (f : Frame) {s : State} (h : s.Wired) : (classifyBay f s).Wired := by
  have counted (g : BayCounters → BayCounters) : (s.onBayCounters g).Wired := h.of_board rfl
  unfold classifyBay
  refine wired_ite (wired_ite (h.of_board (ringReturn_board s)) (counted _)) (wired_ite (counted _) ?_)
  split
  · rename_i n _
    have heard : (nodeHeard n s).Wired := h.of_board (nodeHeard_board n s)
    exact wired_ite (counted _) (wired_ite (heard.of_board (forwardUp_board _ _))
      (routeBay_wired f (handOn_wired n f heard) heard))
  · exact routeBay_wired f (h.of_board rfl) h

theorem dispatchWrite_wired (c : Sender) (p : List Byte) {s : State} (h : s.Wired) : (dispatchWrite c p s).Wired := by
  unfold dispatchWrite
  split
  · split
    · exact nodeWrite_wired c _ _ h
    · exact buttonWrite_wired c _ _ h
    · exact cueWrite_wired c _ _ h
    · exact profileWrite_wired c _ _ h
    · exact modelWrite_wired c _ _ h
    · exact routeWrite_wired c _ _ h
    · exact patternWrite_wired c _ _ h
    · exact settingsWrite_wired c _ _ h
  · exact badTable_wired c _ h

theorem dispatchControl_wired (c : Sender) (p : List Byte) {s : State} (h : s.Wired) :
    (dispatchControl c p s).Wired := by
  unfold dispatchControl
  split
  · exact badCommand_wired c _ h
  · split
    · exact enable_wired c _ h
    · exact disable_wired c _ h
    · exact commit_wired c _ h
    · exact wired_ite (cueStartScheduled_wired c _ h) (cueStart_wired c _ h)
    · exact cueStop_wired c _ h
    · exact modeChange_wired c _ h
    · exact showSync_wired c _ h
    · exact clearFault_wired c _ h
    · exact resume_wired c _ h
    · exact wired_ite (statusQueryClear_wired c _ h) (statusQuery_wired c _ h)
    · exact restart_wired c _ h
    · exact badCommand_wired c _ h

theorem classifySpine_wired (f : Frame) {s : State} (h : s.Wired) : (classifySpine f s).Wired := by
  have heard : (spineHeard s).Wired := h.of_board (spineHeard_board s)
  have misrouted : (misroutedSpine (spineHeard s)).Wired := heard.of_board rfl
  have commands : (dispatchCommand f (spineHeard s)).Wired :=
    wired_ite (dispatchWrite_wired _ _ heard) (wired_ite (tableRead_wired _ _ heard)
      (wired_ite (dispatchControl_wired _ _ heard) (wired_ite (alertAck_wired _ _ heard) misrouted)))
  exact wired_ite misrouted (wired_ite (wired_ite commands
    (wired_ite (heard.of_board (forwardDown_board _ _)) misrouted)) misrouted)

end Sys2Proof.Machine

/-! ## Every step leaves the lamps true (O59) -/

namespace Sys2Proof.Machine

/-! ### A millisecond -/

/-- A button a millisecond later. -/
def State.buttonLater (s : State) (b : Button) : Button :=
  { b with
    stuckTimer := if s.stuckSuspended b then b.stuckTimer else countDown b.stuckTimer
    lockoutTimer := countDown b.lockoutTimer }

theorem tick_entry (s : State) (i : EntryIx) : (tick s).entry i = (s.entry i).map s.buttonLater := tget_map _ _ i

theorem tick_lamp (s : State) : (tick s).lamp = s.lamp := rfl

theorem tick_board (s : State) : (tick s).board = s.board := by
  have keys (i : EntryIx) : ((tick s).entry i).map Button.key = (s.entry i).map Button.key := by
    rw [tick_entry, Option.map_map]
    rfl
  simp only [State.board, keys, tick_lamp]

/-- R80, R81: a lamp is derived from whether timers run, not from what is left of them. -/
theorem tick_lampOf (s : State) (b : Button) : (tick s).lampOf (s.buttonLater b) = s.lampOf b := by
  have zones (mask : BitVec 8) : (tick s).maskOccupied mask = s.maskOccupied mask :=
    congrArg (fun v => v.occupied mask) (tick_view s 0)
  have waits (k : Key) (m : ModelId) : (tick s).isWaiting k m = s.isWaiting k m := by
    rw [State.isWaiting, tick_waits, List.any_map]
    rfl
  have called (k : Key) : (tick s).callOutstanding k = s.callOutstanding k := List.any_map
  have owns (k : Key) (m : ModelId) : (tick s).ownsCue k m = s.ownsCue k m := by rw [State.ownsCue, tick_model]; rfl
  have gallery : (tick s).gallery = s.gallery := rfl
  have stop : (tick s).sup.stopAsserted = s.sup.stopAsserted := rfl
  have lockout : (s.buttonLater b).inLockout = b.inLockout := countDown_isSome _
  simp only [State.lampOf, State.callLamp, State.visitorLamp, State.startable, tick_model, zones, waits, called, owns,
    gallery, stop, lockout]
  rfl

theorem tick_lit {s : State} (h : s.Lit) : (tick s).Lit := by
  refine ⟨keysApart_of_board (tick_board s) h.apart, fun k => ?_⟩
  rw [tick_lamp, entryOf_of_board (tick_board s), h.lamps k]
  cases s.entryOf k with
  | none => rfl
  | some i =>
    dsimp only
    rw [tick_entry]
    cases s.entry i with
    | none => rfl
    | some b => exact (tick_lampOf s b).symm

theorem idle_lit {s : State} (h : s.Lit) : (idle s).Lit := by
  unfold idle
  split
  · exact takeUp_lit (tick_lit h)
  · exact h

/-! ### Steps -/

/-- An outcome whose next state, if there is one, has its lamps true. -/
def OutcomeLit (o : Outcome) : Prop := ∀ t, o = .next t → t.Lit

theorem next_lit {t : State} (h : t.Lit) : OutcomeLit (.next t) := fun _ e => Host.Outcome.next.inj e ▸ h

theorem act_lit {op : State → State} {s : State} (done : (op s).Wired) (h : s.Lit) : OutcomeLit (act op s) := by
  refine next_lit ?_
  split
  · exact settle_lit done
  · exact h

theorem actOutOfReset_lit {op : State → State} {s : State} (done : (op s).Wired) (h : s.Lit) :
    OutcomeLit (actOutOfReset op s) := by
  refine next_lit ?_
  split
  · exact settle_lit done
  · exact h

theorem actAlways_lit {op : State → State} {s : State} (done : (op s).Wired) : OutcomeLit (actAlways op s) :=
  next_lit (settle_lit done)

/-- A command that leaves the board. -/
theorem act_lit_of_board {op : State → State} {s : State} (kept : (op s).board = s.board) (h : s.Lit) :
    OutcomeLit (act op s) := act_lit (h.wired.of_board kept) h

theorem exec_lit (i : Instr) {s : State} (h : s.Lit) : OutcomeLit (exec i s) := by
  have wired := h.wired
  cases i with
  | hardReset b r stop ack =>
    exact actAlways_lit (wired_ite (hardResetEnds_wired _) (hardResetHolds_wired _))
  | softReset stop ack =>
    rw [exec_softReset]
    exact act_lit (softReset_wired _) h
  | stopKeyAsserted => exact actOutOfReset_lit (wired.of_board (stopAsserts_board s)) h
  | stopKeyReleased => exact act_lit_of_board (stopReleases_board s) h
  | ackKeyPressed => exact act_lit_of_board (ackPressed_board s) h
  | ackKeyLetGo => exact act_lit_of_board (ackLetGo_board s) h
  | ackPressTimerExpiry => exact act_lit_of_board (ackHeld_board s) h
  | receiverGapTimeout p => exact act_lit_of_board (abandon_board p _ s) h
  | framingError p => exact act_lit_of_board (abandon_board p _ s) h
  | receiverIdleTimeout p => exact act_lit_of_board (lineIdle_board p s) h
  | bayFrameReceived f => exact act_lit (receive_wired (fun f _ => classifyBay_wired f) f wired) h
  | panel n d hello => exact act_lit (takePanel_wired n d hello wired) h
  | feedback n entries => exact act_lit_of_board (takeFeedback_board n entries s) h
  | presence n occupied => exact act_lit_of_board (takePresence_board n occupied s) h
  | ringCheckReturn => exact act_lit_of_board (ringReturn_board s) h
  | spineFrameReceived f => exact act_lit (receive_wired (fun f _ => classifySpine_wired f) f wired) h
  | nodeWrite c i r => exact act_lit (nodeWrite_wired c i r wired) h
  | buttonWrite c i r => exact act_lit (buttonWrite_wired c i r wired) h
  | cueWrite c i r => exact act_lit (cueWrite_wired c i r wired) h
  | profileWrite c i r => exact act_lit (profileWrite_wired c i r wired) h
  | modelWrite c i r => exact act_lit (modelWrite_wired c i r wired) h
  | routeWrite c i r => exact act_lit (routeWrite_wired c i r wired) h
  | patternWrite c i r => exact act_lit (patternWrite_wired c i r wired) h
  | settingsWrite c i r => exact act_lit (settingsWrite_wired c i r wired) h
  | badTable c p => exact act_lit (badTable_wired c p wired) h
  | tableRead c p => exact act_lit (tableRead_wired c p wired) h
  | enable c a => exact act_lit (enable_wired c a wired) h
  | disable c a => exact act_lit (disable_wired c a wired) h
  | commit c a => exact act_lit (commit_wired c a wired) h
  | cueStart c a => exact act_lit (cueStart_wired c a wired) h
  | cueStartScheduled c a => exact act_lit (cueStartScheduled_wired c a wired) h
  | cueStop c a => exact act_lit (cueStop_wired c a wired) h
  | mode c a => exact act_lit (modeChange_wired c a wired) h
  | showSync c a => exact act_lit (showSync_wired c a wired) h
  | clearFault c a => exact act_lit (clearFault_wired c a wired) h
  | resume c a => exact act_lit (resume_wired c a wired) h
  | statusQuery c a => exact act_lit (statusQuery_wired c a wired) h
  | statusQueryClear c a => exact act_lit (statusQueryClear_wired c a wired) h
  | restart c a => exact act_lit (restart_wired c a wired) h
  | alertAck c p => exact act_lit (alertAck_wired c p wired) h
  | bayOutFrameSent => exact act_lit_of_board (bayLeft_board s) h
  | spineOutFrameSent => exact act_lit (spineLeft_wired wired) h
  | sampleTimerExpiry => exact act_lit_of_board (sampleExpiry_board s) h
  | modelFreeNotice m => exact actOutOfReset_lit (wired.of_board (takeFreeNotice_board m s)) h
  | scheduleEntryDue => exact act_lit_of_board (nextDue_board s) h
  | lateCountdownExpiry m => exact act_lit_of_board (lateExpires_board m s) h
  | pauseWindowExpiry m => exact act_lit_of_board (pauseWindowEnds_board m s) h
  | holdLimitExpiry m => exact act_lit_of_board (holdLimitEnds_board m s) h
  | stuckTimerExpiry k => exact act_lit_of_board (stuckExpires_board k s) h
  | lockoutEnd k => exact act_lit_of_board (lockoutEnds_board k s) h
  | requestExpiry m k => exact act_lit_of_board (requestExpires_board m k s) h
  | refreshTimerExpiry n => exact act_lit_of_board (refreshEnds_board n s) h
  | nodeSilenceExpiry n => exact act_lit_of_board (nodeSilenceEnds_board n s) h
  | driveSilenceExpiry m => exact act_lit_of_board (driveSilenceEnds_board m s) h
  | zoneSettleExpiry z => exact act_lit_of_board (settleEnds_board z s) h
  | spineSilenceExpiry => exact act_lit_of_board (spineSilenceEnds_board s) h
  | ringCheckTimerExpiry => exact act_lit_of_board (State.onRelay_board s _) h
  | ringCheckMiss => exact act_lit_of_board (ringMiss_board s) h
  | bayCheckWindowEnd => exact act_lit_of_board (windowEnds_board s) h
  | escalationDeadlineExpiry n => exact act_lit_of_board (escalate_board n.toNat s) h
  | beaconPhaseEnd =>
    rw [exec_beaconPhaseEnd]
    exact act_lit_of_board (State.onAlert_board s _) h
  | dozeTimerExpiry => exact act_lit_of_board (dozeEnds_board s) h
  | wakeLimitExpiry => exact act_lit_of_board (wakeLimitEnds_board s) h
  | resetNLow =>
    rw [exec_resetNLow]
    exact actAlways_lit (hardResetHolds_wired _)
  | clkStop =>
    rw [exec_clkStop]
    exact actAlways_lit (wired.of_board (State.onPins_board s _))
  | clkResume =>
    rw [exec_clkResume]
    exact actAlways_lit (wired_ite (hardResetEnds_wired _) (wired.of_board (State.onPins_board s _)))
  | badCommand c p => exact act_lit (badCommand_wired c p wired) h

theorem withPending_lit {s : State} (h : s.Lit) (q : List Instr) : (s.withPending q).Lit := ⟨h.apart, h.lamps⟩

theorem step_lit {s t : State} (h : s.Lit) (run : step s = .next t) : t.Lit := by
  unfold step at run
  split at run
  · exact exec_lit _ (withPending_lit h _) t run
  · cases run
    exact idle_lit h

/-- Settles O59: the tests of R80 and R81 one by one; and a step, whose operations leave the keys apart and the lamps of
unmapped buttons OFF, ends with the derivation of every lamp. -/
theorem stepKeepsTheLampsTrue : Obligations.StepKeepsTheLampsTrue := by
  refine ⟨fun s b => ?_, fun s t apart lamps run => ?_⟩
  · obtain ⟨closed, service, doze⟩ := lampOf_of_asleep (s := s) (b := b)
    exact ⟨closed, service, doze, lampOf_of_suspect, callLamp_tests, visitorLamp_tests⟩
  · obtain ⟨apart', lamps'⟩ := step_lit ⟨apart, lamps⟩ run
    exact ⟨apart', lamps'⟩

end Sys2Proof.Machine

/-! ## The STOP key (O9) -/

namespace Sys2Proof.Machine

/-! ### A run over all models, seen from one of them -/

/-- A run over all models meets each of them once, as it stood at the start and in the scene of the start. -/
theorem forEach_meets {op : ModelId → State → State} (beside : ∀ m t, State.Beside m t (op m t)) (m : ModelId)
    (s : State) : (forEach allModels op s).scene = s.scene ∧ ∃ t, t.scene = s.scene ∧ t.localAt m = s.localAt m ∧
      (forEach allModels op s).localAt m = (op m t).localAt m := by
  obtain ⟨before, after, split, notBefore, notAfter⟩ := allModels_split m
  rw [forEach_split op split]
  obtain ⟨scene, place⟩ := forEach_beside beside before notBefore s
  obtain ⟨scene', place'⟩ := forEach_beside beside after notAfter (op m (forEach before op s))
  exact ⟨scene'.trans ((beside m _).scene.trans scene), _, scene, place, place'⟩

theorem stopModel_beside (m : ModelId) (s : State) : State.Beside m s (stopModel m s) := changeModel_beside m _ s

/-! ### What a stop makes of a model (R15, R75, R97) -/

theorem settled_stop (x : Model) : x.settled x.stop = if x.state.stoppable then x.asStopped else x := by
  cases state : x.state <;>
    simp [Model.settled, Model.leaves, Model.stop, state, ModelState.stoppable, ModelState.outOfService,
      Model.asStopped, Model.dropCue, Model.dropHold]

theorem leaves_stop (x : Model) : x.leaves x.stop = x.state.stoppable := by
  cases state : x.state <;>
    simp [Model.leaves, Model.stop, state, ModelState.stoppable, ModelState.outOfService]

/-- R97: a stop ends the following check of the models that it stops, and touches no other mark. -/
theorem stopModels_marks {id : FaultId} (ms : List ModelId) {s : State}
    (other : ∀ m, (s.model m).state.stoppable = true → id ≠ .model .follow m) :
    (forEach ms stopModel s).marks id = s.marks id := by
  induction ms generalizing s with
  | nil => rfl
  | cons m rest ih =>
    have kept : (stopModel m s).marks id = s.marks id := by
      rw [stopModel, changeModel_marks, leaves_stop]
      exact if_neg fun ⟨stops, own⟩ => other m stops own
    rw [forEach_cons, ih fun k stops => ?_, kept]
    rw [stopModel, changeModel_model, settled_stop] at stops
    by_cases own : k = m
    · subst own
      by_cases moves : (s.model k).state.stoppable = true
      · exact other k moves
      · simp [moves] at stops
    · exact other k (by simpa [own] using stops)

/-- What a change of each model keeps, a stop of all models keeps. -/
theorem stopModels_keep {β : Type} (read : State → β) (change : ∀ m f t, read (changeModel m f t) = read t) (s : State) :
    read (forEach allModels stopModel s) = read s := forEach_keeps read stopModel (fun m t => change m _ t) _ s

/-! ### The key is pressed (R107) -/

/-- R106: the STOP key's contact is seen open or closed, and its state follows. -/
def State.keyed (s : State) (down : Bool) : State :=
  { s with pins := { s.pins with stopOpen := down }, sup := { s.sup with stopAsserted := down } }

/-- R107: the part once the key's condition is latched and its alert raised, before any model is stopped. -/
def State.alarmed (s : State) : State :=
  raise (.fault (.bay .stopKey)) ((s.keyed true).modMarks (.bay .stopKey) fun _ => ⟨true, true, true⟩)

section
variable (s : State)

theorem stopAsserts_of_released (released : s.sup.stopAsserted = false)
    (inactive : (s.marks (.bay .stopKey)).active = false) (detects : (s.route 7).detect = true) :
    stopAsserts s = forEach allModels stopModel s.alarmed := by
  have asserts : stopAsserts s = forEach allModels stopModel (report (.bay .stopKey) true (s.keyed true)) :=
    if_neg (Bool.eq_false_iff.mp released)
  have detected : (s.keyed true).detects (.bay .stopKey) = true := detects
  have idle : ((s.keyed true).marks (.bay .stopKey)).active = false := inactive
  rw [asserts, report_true_of_no_trip rfl, detected, idle, if_neg (by decide), if_neg (by decide)]
  rfl

theorem alarmed_eq : ∃ a, s.alarmed = { s with
    alert := a, pins := { s.pins with stopOpen := true }
    sup := { s.sup with
      stopAsserted := true, faults := s.sup.faults.modify (.bay .stopKey) fun _ => ⟨true, true, true⟩ } } :=
  ⟨_, raise_eq _ _⟩

theorem alarmed_alert : s.alarmed.alert = (raise (.fault (.bay .stopKey)) s).alert := raise_alert_congr _ rfl rfl

theorem alarmed_marks (id : FaultId) :
    s.alarmed.marks id = if id = .bay .stopKey then ⟨true, true, true⟩ else s.marks id := by
  obtain ⟨a, eq⟩ := alarmed_eq s
  rw [eq]
  exact FaultTable.get_modify _ _ _ _

end

/-- R107: an edge that finds the key asserted changes the level of its pin only. -/
theorem stopAsserts_of_asserted {s : State} (asserted : s.sup.stopAsserted = true) :
    stopAsserts s = { s with pins := { s.pins with stopOpen := true } } := if_pos asserted

/-! ### The key is let go (R9, R106, R107) -/

theorem stopReleases_of_released {s : State} (released : s.sup.stopAsserted = false) :
    stopReleases s = { s with pins := { s.pins with stopOpen := false } } := if_neg (Bool.eq_false_iff.mp released)

/-- R9, R107: with no entry due, the release makes the condition inactive and sends the notices. -/
theorem stopReleases_of_asserted {s : State} (asserted : s.sup.stopAsserted = true)
    (undue : ∀ e ∈ s.motion.schedule, e.due = none) : stopReleases s = { s with
      pins := { s.pins with stopOpen := false }
      sup := { s.sup with
        stopAsserted := false
        faults := s.sup.faults.modify (.bay .stopKey) fun k => ⟨false, false, k.latched⟩ }
      motion := { s.motion with freeNotices := s.motion.freeNotices ++ allModels.filter fun m =>
        (s.model m).state == .idle && !s.maskOccupied (s.model m).config.zoneMask &&
          (s.gallery == .opened || s.gallery == .service) } } := by
  have releases : stopReleases s = freeAll (report (.bay .stopKey) false (s.keyed false)) := if_pos asserted
  have allows : modeAllows s.gallery .control = (s.gallery == .opened || s.gallery == .service) := by
    cases s.gallery <;> rfl
  rw [releases, report_false, freeAll, forEach_free_of_undue (s := quench (.bay .stopKey) (s.keyed false)) allModels undue,
    ← allows]
  have free (m : ModelId) : (quench (.bay .stopKey) (s.keyed false)).startable m .control =
      ((s.model m).state == .idle && !s.maskOccupied (s.model m).config.zoneMask &&
        modeAllows s.gallery .control) := by
    unfold State.startable
    exact congrArg (· && modeAllows s.gallery .control) (Bool.and_true _)
  simp only [free]
  rfl

/-- Settles O9: the key's edge as a run of stops over all models, each met as it stood; and its release, which sends the
notices of the startable models. -/
theorem stopKeyStopsAndFreesModels : Obligations.StopKeyStopsAndFreesModels := by
  refine ⟨fun s runs => ⟨fun asserted => ?_, fun released inactive detects => ?_⟩, fun s running => ⟨fun released => ?_,
    fun asserted undue => ?_⟩⟩
  · rw [exec_stopKeyAsserted, actOutOfReset, if_pos runs, stopAsserts_of_asserted asserted]
  · have exec_eq : exec .stopKeyAsserted s = .next (settle (forEach allModels stopModel s.alarmed)) := by
      rw [exec_stopKeyAsserted, actOutOfReset, if_pos runs, stopAsserts_of_released s released inactive detects]
    obtain ⟨a, eq⟩ := alarmed_eq s
    have meets := fun m => forEach_meets stopModel_beside m s.alarmed
    have scene := (meets 0).1
    have place (m : ModelId) : (s.alarmed.model m = s.model m) ∧ s.alarmed.waits m = s.waits m := by
      rw [eq]; exact ⟨rfl, rfl⟩
    have outer := stopModels_keep State.outer (fun m f t => changeModel_outer m f t) s.alarmed
    have steady := settle_steady (forEach allModels stopModel s.alarmed)
    refine ⟨_, exec_eq, ?_, ?_, fun m => ?_, fun m => ?_, ?_, fun id key other => ?_, ?_, ?_, ?_, ?_, ?_, ?_, ?_, ?_, ?_⟩
    · rw [settle_sup, State.stop_of_scene scene, eq]
    · rw [settle_marks, stopModels_marks allModels (fun _ _ => by simp), alarmed_marks, if_pos rfl]
    · obtain ⟨t, -, before, after⟩ := (meets m).2
      have model : t.model m = s.model m := (congrArg Local.model before).trans (place m).1
      rw [settle_model]
      refine (congrArg Local.model after).trans ((changeModel_model_self m Model.stop t).trans ?_)
      rw [settled_stop, model]
    · obtain ⟨t, -, before, after⟩ := (meets m).2
      have model : t.model m = s.model m := (congrArg Local.model before).trans (place m).1
      have waits : t.waits m = s.waits m := (congrArg Local.waits before).trans (place m).2
      rw [settle_waits]
      refine (congrArg Local.waits after).trans ((changeModel_waits m m Model.stop t).trans ?_)
      rw [leaves_stop, model, waits]
      simp only [true_and]
    · exact settle_steady_alert ((stopModels_keep State.alert changeModel_alert _).trans (alarmed_alert s))
    · rw [settle_marks, stopModels_marks allModels fun m stops => other m ((place m).1 ▸ stops), alarmed_marks,
        if_neg key]
    · exact settle_steady_relay ((State.relay_of_outer outer).trans (by rw [eq]))
    · rw [settle_sup, stopModels_keep (fun t => t.sup.zones) changeModel_zones, eq]
    · rw [settle_buttons, stopModels_keep (fun t => t.press.buttons) changeModel_buttons, eq]
    · rw [State.recorded_of_steady steady, stopModels_keep (fun t => t.press.recorded) changeModel_recorded, eq]
    · rw [settle_motion, stopModels_keep (fun t => t.motion.schedule) changeModel_schedule, eq]
    · rw [settle_motion]
      refine (State.clock_of_scene scene).trans ?_
      rw [eq]; rfl
    · refine (congrArg ModeControl.mode (settle_modeCtl _)).trans ((State.gallery_of_scene scene).trans ?_)
      rw [eq]; rfl
    · rw [settle_settings, State.settings_of_outer outer, eq]
    · rw [State.pins_of_steady steady, State.pins_of_outer outer, eq]
  · rw [exec_stopKeyReleased, act_of_running running, stopReleases_of_released released]
  · rw [exec_stopKeyReleased, act_of_running running, stopReleases_of_asserted asserted undue]

end Sys2Proof.Machine

/-! ## Zones: what their review reads, and what follows a zone (R88 to R92) -/

namespace Sys2Proof.Machine

/-! ### The models that follow a zone -/

theorem releaseModel_beside (m : ModelId) (s : State) : State.Beside m s (releaseModel m s) := by
  unfold releaseModel
  split
  · exact freeIfStartable_beside m s
  · exact changeModel_beside m _ s

/-- R92: a model whose mask-occupied mark takes a value, before a hold or a release is sent to it. -/
def State.marked (s : State) (m : ModelId) (occupied : Bool) : State :=
  s.modWatch m fun w => { w with maskOccupied := occupied }

/-- R92: a mark that is worked out again stays, or sends a zone hold, or sends a zone release. -/
theorem updateMark_cases (m : ModelId) (s : State) : updateMark m s = s ∨
    updateMark m s = holdModel m (s.marked m true) ∨ updateMark m s = releaseModel m (s.marked m false) := by
  unfold updateMark State.marked
  by_cases disabled : (s.model m).state = .disabled
  · exact .inl (if_pos disabled)
  · dsimp only
    rw [if_neg disabled]
    split
    · exact .inl rfl
    · cases s.maskOccupied (s.model m).config.zoneMask
      · exact .inr (.inr rfl)
      · exact .inr (.inl rfl)

theorem updateMark_beside (m : ModelId) (s : State) : State.Beside m s (updateMark m s) := by
  obtain same | hold | release := updateMark_cases m s
  · rw [same]; exact .refl m s
  · rw [hold]; exact (modWatch_beside m _ s).trans (changeModel_beside m _ _)
  · rw [release]; exact (modWatch_beside m _ s).trans (releaseModel_beside m _)

/-- R92: a model whose mask covers the zone works out its mark again. -/
def followZone (z : ZoneId) (m : ModelId) (s : State) : State :=
  if (s.model m).config.zoneMask.getLsbD z.val then updateMark m s else s

theorem followZone_beside (z : ZoneId) (m : ModelId) (s : State) : State.Beside m s (followZone z m s) := by
  unfold followZone
  split
  · exact updateMark_beside m s
  · exact .refl m s

/-- The part with one zone in another state, before any model follows it. -/
def State.zoned (s : State) (z : ZoneId) (new : Zone) : State := s.onSup fun q => { q with zones := tput q.zones z new }

theorem setZone_eq (z : ZoneId) (new : Zone) (s : State) : setZone z new s =
    if new.state.isOccupied = s.zoneOccupied z then s.zoned z new
    else forEach allModels (followZone z) (s.zoned z new) := rfl

theorem setZone_scene (z : ZoneId) (new : Zone) (s : State) : (setZone z new s).scene = (s.zoned z new).scene := by
  rw [setZone_eq]
  split
  · rfl
  · exact (forEach_meets (followZone_beside z) 0 _).1

theorem setZone_zones (z : ZoneId) (new : Zone) (s : State) : (setZone z new s).sup.zones = tput s.sup.zones z new :=
  congrArg Scene.zones (setZone_scene z new s)

/-! ### What a zone is held by (R90) -/

/-- R90: what is reported of the zones, the conditions of the sensors and that of the ring. -/
def State.sources (s : State) : Vector (BitVec 8) 62 × (NodeId → Marks) × Marks :=
  (s.sup.reported, fun n => s.marks (.nodeSilent n), s.marks (.bay .ringOpen))

theorem State.reported_of_sources {s t : State} (h : t.sources = s.sources) : t.sup.reported = s.sup.reported :=
  congrArg Prod.fst h

@[simp] theorem quietTest_sources (b : Bool) (s : State) : (quietTest b s).sources = s.sources := by
  simp only [State.sources, State.marks, quietTest_sup]

@[simp] theorem raise_sources (a : About) (s : State) : (raise a s).sources = s.sources := by
  simp only [State.sources, State.marks, raise_sup]

theorem modMarks_sources (s : State) (kind : ModelKind) (m : ModelId) (f : Marks → Marks) :
    (s.modMarks (.model kind m) f).sources = s.sources := by
  have reported : (s.modMarks (.model kind m) f).sup.reported = s.sup.reported := rfl
  simp [State.sources, State.modMarks_marks, reported]

@[simp] theorem changeModel_sources (m : ModelId) (f : Model → Model) (s : State) :
    (changeModel m f s).sources = s.sources := by
  have reported : (changeModel m f s).sup.reported = s.sup.reported := by rw [changeModel_sup]
  simp [State.sources, changeModel_marks, reported]

@[simp] theorem driveReport_sources (m : ModelId) (s : State) : (driveReport m s).sources = s.sources := by
  rw [driveReport_eq, raise_sources]
  split
  · exact modMarks_sources s _ _ _
  · exact (changeModel_sources m _ _).trans (modMarks_sources s _ _ _)

@[simp] theorem startRequest_sources (m : ModelId) (c : CueId) (o : Owner) (p : Bool) (s : State) :
    (startRequest m c o p s).1.sources = s.sources := by
  rw [startRequest_eq]
  cases s.verdict m c o <;> simp [startCue]

@[simp] theorem removeEntry_sources (m : ModelId) (s : State) : (removeEntry m s).sources = s.sources :=
  quietTest_sources _ _

@[simp] theorem serveEntry_sources (m : ModelId) (c : CueId) (s : State) :
    (serveEntry m c s).1.sources = s.sources := by
  have decided := startRequest_sources m c .control false s
  unfold serveEntry
  split <;> rename_i e <;> rw [e] at decided <;> simpa using decided

@[simp] theorem freeIfStartable_sources (m : ModelId) (s : State) : (freeIfStartable m s).sources = s.sources := by
  unfold freeIfStartable becomeFree
  split
  · split
    · rfl
    · rename_i e _
      have served := serveEntry_sources m e.cue s
      split <;> rename_i answer <;> rw [answer] at served <;> exact served
  · rfl

@[simp] theorem updateMark_sources (m : ModelId) (s : State) : (updateMark m s).sources = s.sources := by
  obtain same | hold | release := updateMark_cases m s
  · rw [same]
  · rw [hold, holdModel, changeModel_sources]; rfl
  · rw [release, releaseModel]
    split
    · rw [freeIfStartable_sources]; rfl
    · rw [changeModel_sources]; rfl

@[simp] theorem setZone_sources (z : ZoneId) (new : Zone) (s : State) : (setZone z new s).sources = s.sources := by
  rw [setZone_eq]
  split
  · rfl
  · exact forEach_keeps State.sources _ (fun m t => by unfold followZone; split <;> simp) _ _

theorem zoneOwned_iff (s : State) (z : ZoneId) : s.zoneOwned z = true ↔
    ∃ k, (s.node k).role = .sensor ∧ (s.node k).zones.getLsbD z.val = true := by
  simp [State.zoneOwned, State.ownsZone, allNodes]

theorem zoneHeld_iff (s : State) (z : ZoneId) : s.zoneHeld z = true ↔
    ∃ k, ((s.node k).role = .sensor ∧ (s.node k).zones.getLsbD z.val = true) ∧
      ((tget s.sup.reported k).getLsbD z.val = true ∨ (s.marks (.nodeSilent k)).active = true ∨
        (s.marks (.bay .ringOpen)).active = true) := by
  simp [State.zoneHeld, State.ownsZone, allNodes, or_assoc]

/-! ### The review of the zones (R90, R91) -/

/-- R90, R91: what a zone is once its held condition has been looked at. -/
def State.reviewed (s : State) (z : ZoneId) : Zone :=
  let now := tget s.sup.zones z
  if s.zoneOwned z = false then if now.state = .clear then now else ⟨.clear, none⟩
  else if s.zoneHeld z = true then if now.state = .occupied then now else ⟨.occupied, none⟩
  else if now.state ≠ .occupied then now
  else if s.settings.clearSettle = 0 then ⟨.clear, none⟩
  else ⟨.settling, some (s.settings.clearSettle * 100)⟩

theorem reviewZone_eq (z : ZoneId) (s : State) : reviewZone z s = s ∧ s.reviewed z = tget s.sup.zones z ∨
    reviewZone z s = setZone z (s.reviewed z) s := by
  unfold reviewZone State.reviewed
  dsimp only
  cases s.zoneOwned z <;> cases s.zoneHeld z <;> cases state : (tget s.sup.zones z).state <;> simp
  split <;> exact .inr rfl

/-- The review of a zone reads of the zones that zone only. -/
theorem reviewed_congr {s t : State} {z : ZoneId} (zone : tget t.sup.zones z = tget s.sup.zones z)
    (sources : t.sources = s.sources) (nodes : t.relay.nodes = s.relay.nodes) (settings : t.settings = s.settings) :
    t.reviewed z = s.reviewed z := by
  simp only [State.sources, Prod.mk.injEq] at sources
  obtain ⟨reported, silent, ring⟩ := sources
  have silent (n : NodeId) : t.marks (.nodeSilent n) = s.marks (.nodeSilent n) := congrFun silent n
  have node (n : NodeId) : t.node n = s.node n := congrArg (tget · n) nodes
  have owned : t.zoneOwned z = s.zoneOwned z := by simp only [State.zoneOwned, State.ownsZone, node]
  have held : t.zoneHeld z = s.zoneHeld z := by
    simp only [State.zoneHeld, State.ownsZone, node, reported, silent, ring]
  simp only [State.reviewed, zone, settings, owned, held]

theorem reviewZone_zones (z : ZoneId) (s : State) :
    (reviewZone z s).sup.zones = tput s.sup.zones z (s.reviewed z) := by
  obtain ⟨same, zone⟩ | set := reviewZone_eq z s
  · rw [same, zone, tput_tget]
  · rw [set, setZone_zones]

@[simp] theorem reviewZone_sources (z : ZoneId) (s : State) : (reviewZone z s).sources = s.sources := by
  obtain ⟨same, -⟩ | set := reviewZone_eq z s
  · rw [same]
  · rw [set, setZone_sources]

theorem reviewZone_reviewed {z y : ZoneId} (other : y ≠ z) (s : State) :
    (reviewZone z s).reviewed y = s.reviewed y :=
  reviewed_congr (by rw [reviewZone_zones, tget_tput_ne other]) (reviewZone_sources z s)
    (congrArg LineRelay.nodes (State.relay_of_outer (reviewZone_outer z s)))
    (State.settings_of_outer (reviewZone_outer z s))

/-- R91: a review of several zones leaves each as its own review would, and the others as they were. -/
theorem forEach_reviewZone (zs : List ZoneId) (apart : zs.Nodup) (z : ZoneId) (s : State) :
    tget (forEach zs reviewZone s).sup.zones z = if z ∈ zs then s.reviewed z else tget s.sup.zones z := by
  induction zs generalizing s with
  | nil => rfl
  | cons y rest ih =>
    obtain ⟨first, apart⟩ := List.nodup_cons.mp apart
    rw [forEach_cons, ih apart, reviewZone_zones, tget_tput]
    by_cases own : z = y
    · subst own
      simp [first]
    · simp [own, reviewZone_reviewed own]

theorem allZones_nodup : allZones.Nodup := List.nodup_finRange 8

theorem mem_allZones (z : ZoneId) : z ∈ allZones := List.mem_finRange z

theorem reviewZones_zone (z : ZoneId) (s : State) : tget (reviewZones s).sup.zones z = s.reviewed z := by
  rw [reviewZones, forEach_reviewZone allZones allZones_nodup, if_pos (mem_allZones z)]

theorem reviewZones_sources (s : State) : (reviewZones s).sources = s.sources :=
  forEach_keeps State.sources _ reviewZone_sources _ _

/-! ### PRESENCE -/

/-- R89: the part once a sensor's report is recorded. -/
def State.presented (s : State) (n : NodeId) (occupied : BitVec 8) : State :=
  s.onSup fun q => { q with reported := tput q.reported n (occupied &&& (s.node n).zones) }

theorem takePresence_of_sensor {n : NodeId} {s : State} (sensor : (s.node n).role = .sensor) (occupied : BitVec 8) :
    takePresence n occupied s = reviewZones (s.presented n occupied) := if_pos sensor

/-! ### Settle timers (R91) -/

theorem settleEnds_of_stopped {z : ZoneId} {s : State}
    (stopped : (tget s.sup.zones z).state ≠ .settling ∨ (tget s.sup.zones z).settle = none) : settleEnds z s = s :=
  if_neg fun ⟨settling, runs⟩ => stopped.elim (· settling) fun none => by simp [none] at runs

theorem settleEnds_of_running {z : ZoneId} {s : State} (settling : (tget s.sup.zones z).state = .settling)
    (runs : (tget s.sup.zones z).settle.isSome = true) : settleEnds z s = setZone z ⟨.clear, none⟩ s :=
  if_pos ⟨settling, runs⟩

/-- Settles O21: the review of every zone from what the frame and the sensors say of it, and the end of a settle timer.
-/
theorem zonesFollowTheirReports : Obligations.ZonesFollowTheirReports := by
  refine ⟨fun n occupied s running => ⟨fun other => ?_, fun sensor => ?_⟩, fun z s running => ⟨fun stopped => ?_,
    fun settling runs => ?_⟩⟩
  · rw [exec_presence, act_of_running running, takePresence, if_neg other]
  · refine ⟨_, (exec_presence n occupied s).trans (act_of_running running), ?_⟩
    dsimp only
    rw [takePresence_of_sensor sensor]
    have outer : (reviewZones (s.presented n occupied)).outer = s.outer := reviewZones_outer _
    rw [settle_sup]
    refine ⟨State.reported_of_sources (reviewZones_sources (s.presented n occupied)), fun z => ?_,
      settle_steady_relay (State.relay_of_outer outer), ?_, ?_⟩
    · rw [reviewZones_zone]
      have owned := zoneOwned_iff (s.presented n occupied) z
      have held := zoneHeld_iff (s.presented n occupied) z
      refine ⟨fun none => ?_, fun holds => ?_, fun owner free => ?_⟩
      · have unowned : (s.presented n occupied).zoneOwned z = false :=
          Bool.eq_false_iff.mpr fun own => (owned.mp own).elim none
        rw [State.reviewed, if_pos unowned]
        rfl
      · have own : (s.presented n occupied).zoneOwned z = true :=
          owned.mpr (holds.elim fun k h => ⟨k, h.1⟩)
        rw [State.reviewed, own, if_neg (by decide), if_pos (held.mpr holds)]
        rfl
      · have own : (s.presented n occupied).zoneOwned z = true := owned.mpr owner
        rw [State.reviewed, own, if_neg (by decide), if_neg fun h => free (held.mp h)]
        rfl
    · rw [settle_settings, State.settings_of_outer outer]
    · rw [State.pins_of_steady (settle_steady _), State.pins_of_outer outer]
  · rw [exec_zoneSettleExpiry, act_of_running running, settleEnds_of_stopped stopped]
  · refine ⟨_, (exec_zoneSettleExpiry z s).trans (act_of_running running), ?_⟩
    rw [settleEnds_of_running settling runs, settle_sup, settle_settings]
    have outer := setZone_outer z ⟨.clear, none⟩ s
    exact ⟨setZone_zones z _ s, State.reported_of_sources (setZone_sources z _ s),
      settle_steady_relay (State.relay_of_outer outer), State.settings_of_outer outer⟩

end Sys2Proof.Machine

/-! ## Zone holds and zone releases (O22) -/

namespace Sys2Proof.Machine

/-! ### What a hold and a release make of a model (R11, R12, R94) -/

theorem settled_zoneHold (x : Model) : x.settled x.zoneHold = x.zoneHold := by
  cases state : x.state <;> simp [Model.settled, Model.leaves, Model.zoneHold, state, ModelState.outOfService]

theorem zoneHold_enabling (x : Model) : (x.zoneHold.state == .enabling && x.state != .enabling) = false := by
  cases state : x.state <;> simp [Model.zoneHold, state]

/-! What a release makes of a held model: it stays paused, goes home, goes on, or goes home without its cue. -/

section
variable {x : Model} (g : GalleryMode) (holding : x.state = .holding)
include holding

theorem zoneRelease_paused (pause : x.holdPause = true) : x.zoneRelease g = { x with holdZone := false } := by
  simp [Model.zoneRelease, holding, pause]

theorem zoneRelease_home (free : x.holdPause = false) (home : x.target ≠ some .cue) :
    x.zoneRelease g = { x with holdZone := false, state := .returning, target := none } := by
  unfold Model.zoneRelease
  cases target : x.target with
  | none => simp [holding, free]
  | some t =>
    cases t
    · exact absurd target home
    · simp [holding, free]

theorem zoneRelease_on (free : x.holdPause = false) (cue : x.target = some .cue)
    (allowed : x.owner.any (modeAllows g) = true) :
    x.zoneRelease g = { x with holdZone := false, state := .running, target := none } := by
  simp [Model.zoneRelease, holding, free, cue, allowed]

theorem zoneRelease_cut (free : x.holdPause = false) (cue : x.target = some .cue)
    (refused : x.owner.any (modeAllows g) = false) :
    x.zoneRelease g = { x with
      holdZone := false, state := .returning, target := none, owner := none, position := none, pauseTimer := none } := by
  simp [Model.zoneRelease, Model.cut, Model.dropCue, holding, free, cue, refused]

/-- A release takes ZONE away and leaves a held model in service. -/
theorem zoneRelease_free : (x.zoneRelease g).holdZone = false ∧ ((x.zoneRelease g).state = .holding ∨
    (x.zoneRelease g).state = .running ∨ (x.zoneRelease g).state = .returning) := by
  by_cases pause : x.holdPause = true
  · rw [zoneRelease_paused g holding pause]
    exact ⟨rfl, .inl holding⟩
  · have free := Bool.eq_false_iff.mpr pause
    by_cases cue : x.target = some .cue
    · by_cases allowed : x.owner.any (modeAllows g) = true
      · rw [zoneRelease_on g holding free cue allowed]
        exact ⟨rfl, .inr (.inl rfl)⟩
      · rw [zoneRelease_cut g holding free cue (Bool.eq_false_iff.mpr allowed)]
        exact ⟨rfl, .inr (.inr rfl)⟩
    · rw [zoneRelease_home g holding free cue]
      exact ⟨rfl, .inr (.inr rfl)⟩

/-- R94: the hold-limit timer of a held model stops as ZONE leaves its hold causes. -/
theorem holdTimerAfter_zoneRelease (zone : x.holdZone = true) (t : Timer) :
    x.holdTimerAfter (x.zoneRelease g) t = none := by
  have held : x.zoneHeld = true := by simp [Model.zoneHeld, holding, zone]
  have unheld : (x.zoneRelease g).zoneHeld = false := by
    simp [Model.zoneHeld, (zoneRelease_free g holding).1]
  simp [Model.holdTimerAfter, held, unheld]
end

section
variable {m : ModelId} {s : State}

/-- R92: a model in service whose mask becomes occupied is sent a zone hold. -/
theorem updateMark_of_occupied (service : (s.model m).state ≠ .disabled) (clear : (s.watch m).maskOccupied = false)
    (occupied : s.maskOccupied (s.model m).config.zoneMask = true) :
    updateMark m s = holdModel m (s.marked m true) := by
  simp [updateMark, State.marked, service, clear, occupied]

/-- R92: a model in service whose mask becomes clear is sent a zone release. -/
theorem updateMark_of_clear (service : (s.model m).state ≠ .disabled) (occupied : (s.watch m).maskOccupied = true)
    (clear : s.maskOccupied (s.model m).config.zoneMask = false) :
    updateMark m s = releaseModel m (s.marked m false) := by
  simp [updateMark, State.marked, service, clear, occupied]

/-- R11, R94: what a zone hold makes of a model and of what the Supervisor keeps for it. -/
theorem holdModel_marked : (holdModel m (s.marked m true)).model m = (s.model m).zoneHold ∧
    (holdModel m (s.marked m true)).watch m = { s.watch m with
      maskOccupied := true
      holdTimer := (s.model m).holdTimerAfter (s.model m).zoneHold (s.watch m).holdTimer } := by
  have model : (s.marked m true).model m = s.model m := rfl
  have watch : (s.marked m true).watch m = { s.watch m with maskOccupied := true } := State.modWatch_watch_self s m _
  refine ⟨(changeModel_model_self m Model.zoneHold _).trans (by rw [model, settled_zoneHold]), ?_⟩
  refine (changeModel_watch_self m Model.zoneHold _).trans ?_
  simp only [model, watch, zoneHold_enabling, Bool.false_eq_true, if_false]

/-- R12, R94: what a zone release makes of a held model and of what the Supervisor keeps for it. -/
theorem releaseModel_marked (holding : (s.model m).state = .holding) :
    (releaseModel m (s.marked m false)).model m = (s.model m).zoneRelease s.gallery ∧
    (releaseModel m (s.marked m false)).watch m = { s.watch m with
      maskOccupied := false
      holdTimer := (s.model m).holdTimerAfter ((s.model m).zoneRelease s.gallery) (s.watch m).holdTimer } := by
  have model : (s.marked m false).model m = s.model m := rfl
  have watch : (s.marked m false).watch m = { s.watch m with maskOccupied := false } := State.modWatch_watch_self s m _
  have gallery : (s.marked m false).gallery = s.gallery := rfl
  have change : releaseModel m (s.marked m false) =
      changeModel m (Model.zoneRelease s.gallery) (s.marked m false) := by
    rw [releaseModel, if_neg (by simp [model, holding]), gallery]
  have state := (zoneRelease_free s.gallery holding).2
  rw [change, changeModel_model_self, changeModel_watch_self]
  simp only [model, watch]
  constructor
  · obtain h | h | h := state <;> simp [Model.settled, Model.leaves, h, ModelState.outOfService]
  · obtain h | h | h := state <;> simp [h]

end

/-! ### A zone's change, seen from one model (R92) -/

section
variable {z : ZoneId} {new : Zone} {m : ModelId} {s : State}

/-- R92: a model whose mask covers a zone that becomes occupied or clear works out its mark again. -/
theorem setZone_meets (covered : (s.model m).config.zoneMask.getLsbD z.val = true)
    (changed : new.state.isOccupied ≠ s.zoneOccupied z) : ∃ t, t.scene = (s.zoned z new).scene ∧
      t.localAt m = s.localAt m ∧ (setZone z new s).localAt m = (updateMark m t).localAt m := by
  obtain ⟨-, t, scene, before, after⟩ := forEach_meets (followZone_beside z) m (s.zoned z new)
  have model : t.model m = s.model m := congrArg Local.model before
  refine ⟨t, scene, before, ?_⟩
  rw [setZone_eq, if_neg changed, after, followZone, model, if_pos covered]

theorem setZone_apart (apart : (s.model m).config.zoneMask.getLsbD z.val = false ∨
    new.state.isOccupied = s.zoneOccupied z) : (setZone z new s).localAt m = s.localAt m := by
  by_cases same : new.state.isOccupied = s.zoneOccupied z
  · rw [setZone_eq, if_pos same]; rfl
  · obtain ⟨-, t, -, before, after⟩ := forEach_meets (followZone_beside z) m (s.zoned z new)
    have model : t.model m = s.model m := congrArg Local.model before
    have uncovered := apart.resolve_right same
    rw [setZone_eq, if_neg same, after, followZone, model, if_neg (Bool.eq_false_iff.mp uncovered)]
    exact before

theorem maskOccupied_zoned (mask : BitVec 8) (apart : mask.getLsbD z.val = false ∨
    new.state.isOccupied = s.zoneOccupied z) : (s.zoned z new).maskOccupied mask = s.maskOccupied mask :=
  maskOccupied_congr fun y covered => by
    rw [State.zoned, zoneOccupied_put]
    split
    · next own => subst own; exact apart.resolve_left (by simp [covered])
    · rfl

theorem maskOccupied_of_zone {mask : BitVec 8} (covered : mask.getLsbD z.val = true)
    (occupied : s.zoneOccupied z = true) : s.maskOccupied mask = true :=
  List.any_eq_true.mpr ⟨z, mem_allZones z, by simp [covered, occupied]⟩

theorem maskOccupied_eq_false {mask : BitVec 8} : s.maskOccupied mask = false ↔
    ∀ y : ZoneId, mask.getLsbD y.val = true → s.zoneOccupied y = false := by
  simp [State.maskOccupied, mem_allZones]
end

/-! ### The review of the zones, seen from one model (R91, R92) -/

/-- R92, R94: a model with a clear mask, in a later state of the part: as it was while its mask stays clear, and held
once it is occupied. -/
structure State.Masked (m : ModelId) (s t : State) : Prop where
  model : t.model m = if t.maskOccupied (s.model m).config.zoneMask then (s.model m).zoneHold else s.model m
  watch : t.watch m = if t.maskOccupied (s.model m).config.zoneMask then { s.watch m with
      maskOccupied := true
      holdTimer := (s.model m).holdTimerAfter (s.model m).zoneHold (s.watch m).holdTimer } else s.watch m

section
variable {m : ModelId} {s t : State}

@[simp] theorem zoneHold_config (x : Model) : x.zoneHold.config = x.config := by
  cases state : x.state <;> simp [Model.zoneHold, state]

theorem State.Masked.config (h : s.Masked m t) : (t.model m).config = (s.model m).config := by
  rw [h.model]
  split <;> simp

theorem State.Masked.of_same {u : State} (h : s.Masked m t) (same : u.localAt m = t.localAt m)
    (mask : u.maskOccupied (s.model m).config.zoneMask = t.maskOccupied (s.model m).config.zoneMask) :
    s.Masked m u where
  model := by rw [mask, ← h.model]; exact congrArg Local.model same
  watch := by rw [mask, ← h.watch]; exact congrArg Local.watch same

/-- R92: one zone of the mask becomes occupied. -/
theorem State.Masked.occupied {z : ZoneId} {new : Zone} (h : s.Masked m t) (service : (s.model m).state ≠ .disabled)
    (mark : (s.watch m).maskOccupied = false) (covered : (s.model m).config.zoneMask.getLsbD z.val = true)
    (was : t.zoneOccupied z = false) (occupied : new.state.isOccupied = true) : s.Masked m (setZone z new t) := by
  obtain ⟨u, scene, before, after⟩ := setZone_meets (s := t) (m := m) (z := z) (new := new) (h.config.symm ▸ covered)
    (by rw [occupied, was]; decide)
  have full : (t.zoned z new).maskOccupied (s.model m).config.zoneMask = true :=
    maskOccupied_of_zone covered (by rw [State.zoned, zoneOccupied_put, if_pos rfl, occupied])
  have model : u.model m = t.model m := congrArg Local.model before
  have watch : u.watch m = t.watch m := congrArg Local.watch before
  have uFull : u.maskOccupied (u.model m).config.zoneMask = true := by
    rw [model, h.config, State.maskOccupied_of_scene scene, full]
  have finalFull : (setZone z new t).maskOccupied (s.model m).config.zoneMask = true := by
    rw [State.maskOccupied_of_scene (setZone_scene z new t), full]
  have finalModel : (setZone z new t).model m = (updateMark m u).model m := congrArg Local.model after
  have finalWatch : (setZone z new t).watch m = (updateMark m u).watch m := congrArg Local.watch after
  obtain ⟨hModel, hWatch⟩ := h
  cases mask : t.maskOccupied (s.model m).config.zoneMask
  · rw [mask, if_neg (by decide)] at hModel hWatch
    rw [updateMark_of_occupied (by rw [model, hModel]; exact service) (by rw [watch, hWatch, mark]) uFull]
      at finalModel finalWatch
    obtain ⟨held, kept⟩ := holdModel_marked (m := m) (s := u)
    rw [model, hModel] at held
    rw [model, watch, hModel, hWatch] at kept
    exact ⟨by rw [finalFull, finalModel, held, if_pos rfl], by rw [finalFull, finalWatch, kept, if_pos rfl]⟩
  · rw [mask, if_pos rfl] at hModel hWatch
    rw [updateMark_of_same (by rw [uFull, watch, hWatch])] at finalModel finalWatch
    exact ⟨by rw [finalFull, finalModel, model, hModel, if_pos rfl],
      by rw [finalFull, finalWatch, watch, hWatch, if_pos rfl]⟩

theorem State.Masked.review {z : ZoneId} (h : s.Masked m t) (service : (s.model m).state ≠ .disabled)
    (mark : (s.watch m).maskOccupied = false)
    (was : (s.model m).config.zoneMask.getLsbD z.val = true → t.zoneOccupied z = false) :
    s.Masked m (reviewZone z t) := by
  obtain ⟨same, -⟩ | set := reviewZone_eq z t
  · rw [same]; exact h
  · rw [set]
    by_cases apart : (s.model m).config.zoneMask.getLsbD z.val = false ∨
        (t.reviewed z).state.isOccupied = t.zoneOccupied z
    · refine h.of_same (setZone_apart (by rw [h.config]; exact apart)) ?_
      rw [State.maskOccupied_of_scene (setZone_scene z _ t), maskOccupied_zoned _ apart]
    · obtain ⟨covered, changed⟩ := not_or.mp apart
      have covered := Bool.eq_true_of_not_eq_false covered
      have clear := was covered
      exact h.occupied service mark covered clear (by simpa [clear] using changed)

theorem State.Masked.reviews (zs : List ZoneId) (apart : zs.Nodup) (h : s.Masked m t)
    (service : (s.model m).state ≠ .disabled) (mark : (s.watch m).maskOccupied = false)
    (was : ∀ z ∈ zs, (s.model m).config.zoneMask.getLsbD z.val = true → t.zoneOccupied z = false) :
    s.Masked m (forEach zs reviewZone t) := by
  induction zs generalizing t with
  | nil => exact h
  | cons z rest ih =>
    obtain ⟨first, apart⟩ := List.nodup_cons.mp apart
    rw [forEach_cons]
    refine ih apart (h.review service mark (was z (by simp))) fun y later covered => ?_
    have other : y ≠ z := fun same => first (same ▸ later)
    rw [← was y (by simp [later]) covered, State.zoneOccupied, reviewZone_zones, tget_tput_ne other]
    rfl
end

section
variable (x : Model) (t : Timer)

theorem holdTimerAfter_zoneHold (starts : x.state = .running ∨ x.state = .returning ∨
    (x.state = .holding ∧ x.holdZone = false)) :
    x.holdTimerAfter x.zoneHold t = some (x.config.holdLimit * 1000) := by
  obtain state | state | ⟨state, free⟩ := starts <;>
    simp [Model.holdTimerAfter, Model.zoneHold, Model.zoneHeld, *]

end

/-- R90, R91: a zone that its sensor reports is occupied after the review. -/
theorem reviewZones_presented {n : NodeId} {occupied : BitVec 8} {z : ZoneId} {s : State}
    (sensor : (s.node n).role = .sensor) (owns : (s.node n).zones.getLsbD z.val = true)
    (reports : occupied.getLsbD z.val = true) : (reviewZones (s.presented n occupied)).zoneOccupied z = true := by
  have own : (s.presented n occupied).zoneOwned z = true := (zoneOwned_iff _ z).mpr ⟨n, sensor, owns⟩
  have held : (s.presented n occupied).zoneHeld z = true :=
    (zoneHeld_iff _ z).mpr ⟨n, ⟨sensor, owns⟩, .inl (by simp [State.presented, reports, owns])⟩
  rw [State.zoneOccupied, reviewZones_zone, State.reviewed, own, held, if_neg (by decide), if_pos rfl]
  split
  · next now => rw [now]; rfl
  · rfl

/-- R5: the gallery modes that allow an owner to run. -/
theorem modeAllows_iff (g : GalleryMode) (o : Owner) :
    modeAllows g o = true ↔ g = .opened ∨ (g = .service ∧ o = .control) := by
  cases g <;> cases o <;> simp [modeAllows]

/-- Settles O22: the review of the zones, and the settle of the last one, seen from the model. -/
theorem occupiedZonesHoldTheirModels : Obligations.OccupiedZonesHoldTheirModels := by
  refine ⟨fun n occupied z m s running sensor owns reports covered mark clear => ?_,
    fun z m s running settling runs covered others mark holding => ?_⟩
  · refine ⟨_, (exec_presence n occupied s).trans (act_of_running running), ?_⟩
    rw [takePresence_of_sensor sensor, settle_model, settle_watch]
    have full : (reviewZones (s.presented n occupied)).maskOccupied (s.model m).config.zoneMask = true :=
      maskOccupied_of_zone covered (reviewZones_presented sensor owns reports)
    by_cases service : (s.model m).state = .disabled
    · simp [service]
    · have start : s.Masked m (s.presented n occupied) := by
        have mask : (s.presented n occupied).maskOccupied (s.model m).config.zoneMask = false := clear
        constructor <;> rw [mask] <;> rfl
      obtain ⟨model, watch⟩ := start.reviews allZones allZones_nodup service mark fun y _ covers =>
        maskOccupied_eq_false.mp clear y covers
      rw [← reviewZones, full, if_pos rfl] at model watch
      rw [model, watch]
      refine ⟨fun state => ?_, fun state => ?_, fun state => ?_, fun starts => holdTimerAfter_zoneHold _ _ starts,
        fun _ => rfl⟩ <;> simp only [Model.zoneHold, state]
  · refine ⟨_, (exec_zoneSettleExpiry z s).trans (act_of_running running), ?_⟩
    rw [settleEnds_of_running settling runs, settle_model, settle_watch]
    have was : s.zoneOccupied z = true := by rw [State.zoneOccupied, settling]; rfl
    obtain ⟨t, scene, before, after⟩ := setZone_meets (new := ⟨.clear, none⟩) covered (by rw [was]; decide)
    have model : t.model m = s.model m := congrArg Local.model before
    have watch : t.watch m = s.watch m := congrArg Local.watch before
    have gallery : t.gallery = s.gallery := (State.gallery_of_scene scene).trans rfl
    have clear : t.maskOccupied (t.model m).config.zoneMask = false := by
      rw [State.maskOccupied_of_scene scene, model]
      refine maskOccupied_eq_false.mpr fun y covers => ?_
      rw [State.zoned, zoneOccupied_put]
      split
      · rfl
      · next other => rw [State.zoneOccupied, others y other covers]; rfl
    rw [updateMark_of_clear (by rw [model, holding]; decide) (by rw [watch, mark]) clear] at after
    obtain ⟨released, kept⟩ := releaseModel_marked (s := t) (m := m) (by rw [model, holding])
    rw [model, gallery] at released
    rw [model, watch, gallery] at kept
    have finalModel : (setZone z ⟨.clear, none⟩ s).model m = _ := (congrArg Local.model after).trans released
    have finalWatch : (setZone z ⟨.clear, none⟩ s).watch m = _ := (congrArg Local.watch after).trans kept
    rw [finalModel, finalWatch]
    refine ⟨zoneRelease_paused _ holding, fun free home => zoneRelease_home _ holding free (by simp [home]),
      fun o free cue owner => ?_, rfl, fun zone => holdTimerAfter_zoneRelease _ holding zone _⟩
    have allows : (s.model m).owner.any (modeAllows s.gallery) = modeAllows s.gallery o := by rw [owner]; rfl
    rw [← modeAllows_iff]
    exact ⟨fun allowed => zoneRelease_on _ holding free cue (allows.trans allowed),
      fun refused => zoneRelease_cut _ holding free cue (allows.trans (Bool.eq_false_iff.mpr refused))⟩

end Sys2Proof.Machine

/-! ## The check of an axis entry (O20) -/

namespace Sys2Proof.Machine

/-! ### A report and a latch, by what they make of their entry (R112, R114) -/

theorem FaultTable.modify_congr {t : FaultTable} {id : FaultId} {f g : Marks → Marks}
    (same : f (t.get id) = g (t.get id)) : t.modify id f = t.modify id g := by
  have place {α : Type} {n : Nat} (v : Vector α n) (i : Fin n) (f g : α → α) (h : f (tget v i) = g (tget v i)) :
      tmod v i f = tmod v i g := by rw [tmod, tmod, h]
  cases id <;> simp only [FaultTable.modify, FaultTable.get] at same ⊢ <;> congr 1
  case model => exact place _ _ _ _ (place _ _ _ _ same)
  case nodeSilent => exact place _ _ _ _ same
  case buttonStuck => exact place _ _ _ _ (place _ _ _ _ same)
  case bay => exact place _ _ _ _ same

theorem State.modMarks_congr {s : State} {id : FaultId} {f g : Marks → Marks}
    (same : f (s.marks id) = g (s.marks id)) : s.modMarks id f = s.modMarks id g := by
  simp only [State.modMarks, State.onSup, FaultTable.modify_congr (t := s.sup.faults) same]

/-- R112: an entry of the fault table follows what its source says; its latch is as it was. -/
def State.sensed (s : State) (id : FaultId) (v : Bool) : State :=
  s.modMarks id fun k => ⟨v, v && s.detects id, k.latched⟩

/-- R114: an entry of the fault table is latched. -/
def State.latchedAt (s : State) (id : FaultId) : State := s.modMarks id fun k => { k with latched := true }

/-- R112, R114: a condition that is newly active is latched and raised, but for that of a drive report. -/
theorem report_eq (id : FaultId) (v : Bool) (s : State) : report id v s =
    if v && s.detects id && !(s.marks id).active && !id.byReport then latchAndRaise id (s.sensed id v)
    else s.sensed id v := by
  have detects (f : Marks → Marks) : (s.modMarks id f).detects id = s.detects id := rfl
  have sensed : s.sensed id v = s.modMarks id fun k => ⟨v, v && s.detects id, k.latched⟩ := rfl
  unfold report activate
  simp only [detects, sensed, State.modMarks_modMarks]
  cases on : v && s.detects id
  · rfl
  · cases active : (s.marks id).active
    · cases id.byReport <;> rfl
    · exact State.modMarks_congr (by rw [active])

/-- R114: a latch trips its model where it is new. -/
theorem latchModel_eq (kind : ModelKind) (m : ModelId) (s : State) : latchAndRaise (.model kind m) s =
    raise (.fault (.model kind m))
      (if kind.trips && !(s.marks (.model kind m)).latched then tripModel m (s.latchedAt (.model kind m))
       else s.latchedAt (.model kind m)) := by
  unfold latchAndRaise
  cases kind <;> cases (s.marks _).latched <;> rfl

/-- What the updates of the fault table, a change of a model and an alert keep, a report keeps. -/
theorem report_reads {β : Type} (read : State → β) (marks : ∀ id f t, read (State.modMarks t id f) = read t)
    (change : ∀ k f t, read (changeModel k f t) = read t) (raises : ∀ a t, read (raise a t) = read t) (id : FaultId)
    (v : Bool) (s : State) : read (report id v s) = read s := by
  have latch (t : State) : read (latchAndRaise id t) = read t := by
    unfold latchAndRaise
    dsimp only
    rw [raises]
    split
    · split
      · exact (change _ _ _).trans (marks _ _ _)
      · exact marks _ _ _
    · exact marks _ _ _
  rw [report_eq]
  split
  · exact (latch _).trans (marks _ _ _)
  · exact marks _ _ _

/-! ### What the checks keep of a model -/

/-- What no check of an axis entry and no start of a cue changes of a model. -/
def Model.dossier (x : Model) :
    ModelConfig × Int × List Int × Option ModelConfig × Option Int × List Nat × Bool :=
  (x.config, x.lastSetpoint, x.history, x.staged, x.fedBack, x.loads, x.flagSeen)

/-- A change of a model by a trip or a start. -/
structure Model.Judged (x y : Model) : Prop where
  dossier : y.dossier = x.dossier
  run : y.run = x.run
  service : x.state ≠ .disabled → y.state ≠ .disabled
  stays : x.state = .faulted → y.state = .faulted
  leaves : x.leaves y = true → y.state = .faulted

theorem Model.judged_trip (x : Model) : x.Judged x.trip := by
  cases state : x.state <;> constructor <;>
    simp [Model.trip, Model.dropCue, Model.dropHold, Model.dossier, Model.leaves, state]

theorem Model.judged_start {x y : Model} (idle : x.state = .idle) (dossier : y.dossier = x.dossier)
    (run : y.run = x.run) (starts : y.state = .running ∨ y.state = .holding) : x.Judged y := by
  refine ⟨dossier, run, fun _ => ?_, fun faulted => ?_, fun leaves => ?_⟩
  · obtain h | h := starts <;> simp [h]
  · simp [idle] at faulted
  · obtain h | h := starts <;> simp [Model.leaves, h, ModelState.outOfService] at leaves

/-- From one state of the part to a later one, by checks and starts: what stays of a model and of its entries in the
fault table, but for the underlying states of some kinds. A model is as checked for following error, or it has gone to
FAULTED. -/
structure State.Judged (m : ModelId) (sensed : List ModelKind) (s t : State) : Prop where
  dossier : (t.model m).dossier = (s.model m).dossier
  service : (s.model m).state ≠ .disabled → (t.model m).state ≠ .disabled
  stays : (s.model m).state = .faulted → (t.model m).state = .faulted
  latched : ∀ kind, (s.marks (.model kind m)).latched = true → (t.marks (.model kind m)).latched = true
  underlying : ∀ kind, kind ≠ .follow → kind ∉ sensed →
    (t.marks (.model kind m)).underlying = (s.marks (.model kind m)).underlying
  follow : ((t.model m).run = (s.model m).run ∧ t.marks (.model .follow m) = s.marks (.model .follow m)) ∨
    ((s.model m).state ≠ .faulted ∧ (t.model m).state = .faulted)

namespace State.Judged
variable {m : ModelId} {s t u : State}

theorem of_reads {l : List ModelKind} (model : t.model m = s.model m)
    (marks : ∀ kind, t.marks (.model kind m) = s.marks (.model kind m)) : Judged m l s t := by
  constructor <;> simp [model, marks]

theorem refl (m : ModelId) (s : State) : Judged m [] s s := of_reads rfl fun _ => rfl

theorem trans {l l' : List ModelKind} (h : Judged m l s t) (g : Judged m l' t u) : Judged m (l ++ l') s u where
  dossier := g.dossier.trans h.dossier
  service := g.service ∘ h.service
  stays := g.stays ∘ h.stays
  latched kind := g.latched kind ∘ h.latched kind
  underlying kind other spared := by
    obtain ⟨first, second⟩ := not_or.mp (mt List.mem_append.mpr spared)
    exact (g.underlying kind other second).trans (h.underlying kind other first)
  follow := by
    obtain ⟨run, marks⟩ | ⟨before, after⟩ := h.follow
    · obtain ⟨run', marks'⟩ | ⟨before', after'⟩ := g.follow
      · exact .inl ⟨run'.trans run, marks'.trans marks⟩
      · exact .inr ⟨mt h.stays before', after'⟩
    · exact .inr ⟨before, g.stays after⟩

end State.Judged

/-! ### Operations that keep what was checked -/

section
variable {m : ModelId} {s : State}

theorem changeModel_judged {k : ModelId} {f : Model → Model} (h : k = m → (s.model m).Judged (f (s.model m))) :
    State.Judged m [] s (changeModel k f s) := by
  by_cases own : k = m
  · subst own
    obtain ⟨dossier, run, service, stays, leaves⟩ := h rfl
    obtain ⟨r, settled⟩ := Model.settled_eq (s.model k) (f (s.model k))
    have model := changeModel_model_self k f s
    have state : ((changeModel k f s).model k).state = (f (s.model k)).state := by rw [model, settled]
    have marks (kind : ModelKind) := changeModel_marks k f s (.model kind k)
    refine ⟨?_, fun was => state ▸ service was, fun was => state ▸ stays was, fun kind was => ?_,
      fun kind other _ => ?_, ?_⟩
    · rw [model, settled]
      exact dossier
    · rw [marks]
      split <;> exact was
    · rw [marks, if_neg (by simp [other])]
    · by_cases left : (s.model k).leaves (f (s.model k)) = true
      · have faulted := leaves left
        have fresh : (s.model k).state ≠ .faulted := fun was => by simp [Model.leaves, faulted, was] at left
        exact .inr ⟨fresh, state ▸ faulted⟩
      · refine .inl ⟨?_, ?_⟩
        · rw [model, Model.settled, if_neg left, run]
        · rw [marks, if_neg fun h => left h.1]
  · refine .of_reads (changeModel_model_ne (Ne.symm own) f s) fun kind => ?_
    rw [changeModel_marks, if_neg (by simp [Ne.symm own])]

theorem tripModel_judged (k : ModelId) : State.Judged m [] s (tripModel k s) :=
  changeModel_judged fun _ => Model.judged_trip _

theorem raise_judged (a : About) : State.Judged m [] s (raise a s) :=
  .of_reads (by simp only [State.model, raise_motion]) fun _ => raise_marks a s _

/-- R112, R114: an update of an entry that keeps its latch, of another kind than FOLLOW. -/
theorem modMarks_judged {l : List ModelKind} {kind : ModelKind} {k : ModelId} {f : Marks → Marks}
    (other : kind ≠ .follow) (same : kind ∈ l ∨ ∀ x : Marks, (f x).underlying = x.underlying)
    (latch : ∀ x : Marks, x.latched = true → (f x).latched = true) :
    State.Judged m l s (s.modMarks (.model kind k) f) := by
  refine ⟨rfl, id, id, fun c was => ?_, fun c _ spared => ?_, .inl ⟨rfl, ?_⟩⟩ <;> rw [State.modMarks_marks]
  · split
    · next own => exact latch _ (own ▸ was)
    · exact was
  · split
    · next own =>
      obtain ⟨rfl, rfl⟩ := FaultId.model.inj own
      exact same.resolve_left spared _
    · rfl
  · rw [if_neg (by simp [Ne.symm other])]

theorem latchModel_judged (kind : ModelKind) (k : ModelId) :
    State.Judged m [] (s.latchedAt (.model kind k)) (latchAndRaise (.model kind k) s) := by
  rw [latchModel_eq]
  refine .trans (l := []) ?_ (raise_judged _)
  split
  · exact tripModel_judged k
  · exact .refl m _

theorem driveReport_judged (k : ModelId) : State.Judged m [] s (driveReport k s) :=
  (modMarks_judged (l := []) (kind := .driveReport) (f := fun x => { x with latched := true }) (by decide)
    (.inr fun _ => rfl) fun _ _ => rfl).trans (latchModel_judged .driveReport k)

/-- R112: the entry after a report has the reported state, and keeps its latch. -/
theorem reportModel_judged (kind : ModelKind) (v : Bool) : ∃ f : Marks → Marks, (∀ x, (f x).underlying = v) ∧
    (∀ x, x.latched = true → (f x).latched = true) ∧
    State.Judged m [] (s.modMarks (.model kind m) f) (report (.model kind m) v s) := by
  rw [report_eq]
  split
  · refine ⟨fun k => ⟨v, v && s.detects (.model kind m), true⟩, fun _ => rfl, fun _ _ => rfl, ?_⟩
    have latch := latchModel_judged (m := m) (s := s.sensed (.model kind m) v) kind m
    rwa [State.latchedAt, State.sensed, State.modMarks_modMarks] at latch
  · exact ⟨fun k => ⟨v, v && s.detects (.model kind m), k.latched⟩, fun _ => rfl, fun _ => id, .refl m _⟩

theorem report_judged {kind : ModelKind} (other : kind ≠ .follow) (v : Bool) :
    State.Judged m [kind] s (report (.model kind m) v s) ∧
      ((report (.model kind m) v s).marks (.model kind m)).underlying = v := by
  obtain ⟨f, sets, latch, judged⟩ := reportModel_judged (s := s) (m := m) kind v
  refine ⟨(modMarks_judged other (.inl (List.mem_singleton_self kind)) latch).trans judged, ?_⟩
  rw [judged.underlying kind other (by simp), State.modMarks_marks_self, sets]

/-- R114: a report to one kind leaves the other entries of its model, but for FOLLOW. -/
theorem reportModel_marks_other {kind : ModelKind} {id : FaultId} (own : id ≠ .model kind m)
    (follow : id ≠ .model .follow m) (v : Bool) : (report (.model kind m) v s).marks id = s.marks id := by
  have sensed : (s.sensed (.model kind m) v).marks id = s.marks id := by
    rw [State.sensed, State.modMarks_marks, if_neg own]
  have latched (t : State) : (t.latchedAt (.model kind m)).marks id = t.marks id := by
    rw [State.latchedAt, State.modMarks_marks, if_neg own]
  rw [report_eq]
  split
  · rw [latchModel_eq, raise_marks]
    split
    · rw [tripModel, changeModel_marks, if_neg fun h => follow h.2, latched, sensed]
    · rw [latched, sensed]
  · exact sensed

/-- R17, R114: the trip of a model in service with the latch that causes it. -/
theorem tripModel_latched {kind : ModelKind} (service : (s.model m).state ≠ .disabled) :
    ((raise (.fault (.model kind m)) (tripModel m (s.latchedAt (.model kind m)))).model m).state = .faulted ∧
      ((raise (.fault (.model kind m)) (tripModel m (s.latchedAt (.model kind m)))).marks (.model kind m)).latched =
        true := by
  have model : (s.latchedAt (.model kind m)).model m = s.model m := rfl
  have latched : ((s.latchedAt (.model kind m)).marks (.model kind m)).latched = true := by
    rw [State.latchedAt, State.modMarks_marks_self]
  constructor
  · rw [State.model, raise_motion]
    refine (congrArg Model.state (changeModel_model_self m Model.trip _)).trans ?_
    obtain ⟨r, settled⟩ := Model.settled_eq (s.model m) (s.model m).trip
    rw [model, settled]
    cases state : (s.model m).state <;> simp_all [Model.trip, Model.dropCue, Model.dropHold]
  · rw [raise_marks]
    exact (tripModel_judged m).latched kind latched

/-- R112, R114, R17: a condition of TRIP class that is newly active and newly latched takes its model to FAULTED. -/
theorem reportModel_trips {kind : ModelKind} (trips : kind.trips = true)
    (condition : (FaultId.model kind m).byReport = false) (detects : s.detects (.model kind m) = true) (inactive : (s.marks (.model kind m)).active = false)
    (unlatched : (s.marks (.model kind m)).latched = false) (service : (s.model m).state ≠ .disabled) :
    ((report (.model kind m) true s).model m).state = .faulted ∧
      ((report (.model kind m) true s).marks (.model kind m)).latched = true := by
  have detected : (true && s.detects (.model kind m) && !(s.marks (.model kind m)).active &&
      !(FaultId.model kind m).byReport) = true := by simp [detects, inactive, condition]
  have fresh : (kind.trips && !((s.sensed (.model kind m) true).marks (.model kind m)).latched) = true := by
    simp [State.sensed, trips, unlatched]
  rw [report_eq, if_pos detected, latchModel_eq, if_pos fresh]
  exact tripModel_latched service

/-- R100, R114: a drive report is latched, and where the latch is new its model is FAULTED. -/
theorem driveReport_latches (service : (s.model m).state ≠ .disabled) :
    ((driveReport m s).marks (.model .driveReport m)).latched = true ∧
      ((s.marks (.model .driveReport m)).latched = false → ((driveReport m s).model m).state = .faulted) := by
  rw [driveReport, latchModel_eq]
  cases was : (s.marks (.model .driveReport m)).latched
  · obtain ⟨faulted, latched⟩ := tripModel_latched (kind := .driveReport) service
    exact ⟨latched, fun _ => faulted⟩
  · refine ⟨?_, nofun⟩
    rw [if_neg (by simp), raise_marks, State.latchedAt, State.modMarks_marks_self]

/-! ### The end of a wake -/

theorem startRequest_judged (k : ModelId) (c : CueId) (o : Owner) (p : Bool) :
    State.Judged m [] s (startRequest k c o p s).1 := by
  rw [startRequest_eq]
  cases verdict : s.verdict k c o
  case ok =>
    obtain ⟨idle, -⟩ := verdict_ok verdict
    change State.Judged m [] s (startCue k c o p s)
    unfold startCue
    refine changeModel_judged fun own => ?_
    subst own
    cases p
    · exact Model.judged_start idle rfl rfl (.inl rfl)
    · exact Model.judged_start idle rfl rfl (.inr rfl)
  case faultLatched => exact driveReport_judged k
  all_goals exact .refl m s

theorem removeEntry_judged (k : ModelId) : State.Judged m [] s (removeEntry k s) :=
  .of_reads (removeEntry_model k m s) fun _ => removeEntry_marks k s _

theorem sendFreeNotice_judged (k : ModelId) : State.Judged m [] s (sendFreeNotice k s) := .of_reads rfl fun _ => rfl

theorem serveEntry_judged (k : ModelId) (c : CueId) : State.Judged m [] s (serveEntry k c s).1 := by
  have decided := startRequest_judged (m := m) (s := s) k c .control false
  unfold serveEntry
  split <;> rename_i answer <;> rw [answer] at decided
  · exact decided.trans (removeEntry_judged k)
  · exact decided.trans ((removeEntry_judged k).trans (raise_judged _))
  all_goals exact decided

theorem freeIfStartable_judged (k : ModelId) : State.Judged m [] s (freeIfStartable k s) := by
  unfold freeIfStartable becomeFree
  split
  · split
    · exact sendFreeNotice_judged k
    · rename_i e _
      have served := serveEntry_judged (m := m) (s := s) k e.cue
      split <;> rename_i answer <;> rw [answer] at served
      · exact served
      · exact served.trans (sendFreeNotice_judged k)
  · exact .refl m s

theorem freeAll_judged (ks : List ModelId) : State.Judged m [] s (forEach ks freeIfStartable s) := by
  induction ks generalizing s with
  | nil => exact .refl m s
  | cons k _ ih => exact (freeIfStartable_judged k).trans ih

theorem quietTest_judged (b : Bool) : State.Judged m [] s (quietTest b s) :=
  .of_reads (by rw [State.model, quietTest_motion]; rfl) fun _ => by rw [State.marks, quietTest_sup]; rfl

theorem endWakeTest_judged : State.Judged m [] s (endWakeTest s) := by
  unfold endWakeTest
  split
  · have opens : State.Judged m [] s (stopWakeTimer (setMode .opened s)) := .of_reads rfl fun _ => rfl
    refine opens.trans (l' := []) ((freeAll_judged allModels).trans (quietTest_judged false))
  · exact .refl m s

theorem endWakeTest_buttons (s : State) : (endWakeTest s).press.buttons = s.press.buttons := by
  unfold endWakeTest
  split
  · rw [enterOpen, quietTest_press, freeAll, forEach_keeps (fun t => t.press.buttons) _ fun k t =>
      congrArg Scene.buttons (freeIfStartable_beside k t).scene]
    rfl
  · rfl

end

end Sys2Proof.Machine

/-! ## FEEDBACK (O20) -/

namespace Sys2Proof.Machine

/-! ### The reports of an axis entry (R96 to R100) -/

/-- What an axis entry says of its model: whether it is checked for following error and what that gives, the load
conditions, the drive flag, and whether a drive report is due. -/
structure Findings where
  checked : Bool
  exceeded : Bool
  alarm : Bool
  trip : Bool
  flagged : Bool
  reports : Bool

section
variable (m : ModelId) (q : Findings) (s : State)

/-- R96, R97: after the following-error check. -/
def State.followChecked : State := if q.checked then report (.model .follow m) q.exceeded s else s

/-- R98: after the load alarm. -/
def State.loadChecked : State := report (.model .loadAlarm m) q.alarm (s.followChecked m q)

/-- R99: after the load trip. -/
def State.tripChecked : State := report (.model .loadTrip m) q.trip (s.loadChecked m q)

/-- R100: after the drive flag. -/
def State.flagChecked : State := report (.model .driveReport m) q.flagged (s.tripChecked m q)

/-- R100: after the drive report. -/
def State.entryChecked : State := if q.reports then driveReport m (s.flagChecked m q) else s.flagChecked m q

end

section
variable {m : ModelId} {q : Findings} {s t : State}

/-! #### What each check keeps -/

theorem loadChecked_judged : State.Judged m [.loadAlarm] (s.followChecked m q) (s.loadChecked m q) :=
  (report_judged (by decide) q.alarm).1

theorem tripChecked_judged : State.Judged m [.loadTrip] (s.loadChecked m q) (s.tripChecked m q) :=
  (report_judged (by decide) q.trip).1

theorem flagChecked_judged : State.Judged m [.driveReport] (s.tripChecked m q) (s.flagChecked m q) :=
  (report_judged (by decide) q.flagged).1

theorem entryChecked_judged : State.Judged m [] (s.flagChecked m q) (s.entryChecked m q) := by
  unfold State.entryChecked
  split
  · exact driveReport_judged m
  · exact .refl m _

/-- R96, R97: the following-error check, in two steps: the FOLLOW entry follows its source, and what comes of that. -/
theorem followChecked_cases : ∃ f : Marks → Marks, (∀ x, (f x).underlying = q.exceeded) ∧
    (∀ x, x.latched = true → (f x).latched = true) ∧
    State.Judged m [] (if q.checked then s.modMarks (.model .follow m) f else s) (s.followChecked m q) := by
  obtain ⟨f, sets, latch, judged⟩ := reportModel_judged (s := s) (m := m) .follow q.exceeded
  refine ⟨f, sets, latch, ?_⟩
  unfold State.followChecked
  split
  · exact judged
  · exact .refl m s

theorem followChecked_service (service : (s.model m).state ≠ .disabled) :
    ((s.followChecked m q).model m).state ≠ .disabled := by
  obtain ⟨f, -, -, judged⟩ := followChecked_cases (m := m) (q := q) (s := s)
  refine judged.service ?_
  split <;> exact service

theorem followChecked_marks {id : FaultId} (other : id ≠ .model .follow m) :
    (s.followChecked m q).marks id = s.marks id := by
  unfold State.followChecked
  split
  · exact reportModel_marks_other other other q.exceeded
  · rfl

theorem loadChecked_marks {id : FaultId} (follow : id ≠ .model .follow m) (alarm : id ≠ .model .loadAlarm m) :
    (s.loadChecked m q).marks id = s.marks id :=
  (reportModel_marks_other alarm follow q.alarm).trans (followChecked_marks follow)

theorem loadChecked_route (c : Fin 15) : (s.loadChecked m q).route c = s.route c := by
  have report_route (id : FaultId) (v : Bool) (t : State) : (report id v t).route c = t.route c :=
    report_reads (fun u => u.route c) (fun _ _ _ => rfl)
      (fun k f u => congrArg (fun a : AlertUnit => tget a.routes c) (changeModel_alert k f u))
      (fun a u => raise_route a u c) id v t
  rw [State.loadChecked, report_route, State.followChecked]
  split
  · exact report_route _ _ _
  · rfl

/-! #### What a later state shows of them -/

variable (later : State.Judged m [] (s.entryChecked m q) t)
include later

theorem later_of_flagChecked : State.Judged m [] (s.flagChecked m q) t := entryChecked_judged.trans later

theorem later_of_tripChecked : State.Judged m [.driveReport] (s.tripChecked m q) t :=
  flagChecked_judged.trans (later_of_flagChecked later)

theorem later_of_loadChecked : State.Judged m [.loadTrip, .driveReport] (s.loadChecked m q) t :=
  tripChecked_judged.trans (later_of_tripChecked later)

theorem later_of_followChecked : State.Judged m [.loadAlarm, .loadTrip, .driveReport] (s.followChecked m q) t :=
  loadChecked_judged.trans (later_of_loadChecked later)

theorem later_dossier : (t.model m).dossier = (s.model m).dossier := by
  obtain ⟨f, -, -, judged⟩ := followChecked_cases (m := m) (q := q) (s := s)
  rw [(later_of_followChecked later).dossier, judged.dossier]
  split <;> rfl

/-- R98: the load alarm follows the average. -/
theorem later_loadAlarm : (t.marks (.model .loadAlarm m)).underlying = q.alarm :=
  ((later_of_loadChecked later).underlying .loadAlarm (by decide) (by decide)).trans
    (report_judged (by decide) q.alarm).2

/-- R99: the load trip follows the average. -/
theorem later_loadTrip : (t.marks (.model .loadTrip m)).underlying = q.trip :=
  ((later_of_tripChecked later).underlying .loadTrip (by decide) (by decide)).trans
    (report_judged (by decide) q.trip).2

/-- R100: the DRIVE_REPORT condition follows the drive flags. -/
theorem later_driveReport : (t.marks (.model .driveReport m)).underlying = q.flagged :=
  ((later_of_flagChecked later).underlying .driveReport (by decide) (by decide)).trans
    (report_judged (by decide) q.flagged).2

/-- R96, R97: a model that is checked for following error, and not FAULTED, shows its run and its FOLLOW condition. -/
theorem later_follow_of_checked (checked : q.checked = true) (up : (t.model m).state ≠ .faulted) :
    (t.model m).run = (s.model m).run ∧ (t.marks (.model .follow m)).underlying = q.exceeded := by
  obtain ⟨f, sets, -, judged⟩ := followChecked_cases (m := m) (q := q) (s := s)
  rw [if_pos checked] at judged
  obtain ⟨run, marks⟩ | ⟨-, faulted⟩ := (judged.trans (later_of_followChecked later)).follow
  · exact ⟨run, by rw [marks, State.modMarks_marks_self, sets]⟩
  · exact absurd faulted up

theorem later_follow_of_unchecked (unchecked : q.checked = false) (same : (t.model m).state = (s.model m).state) :
    (t.model m).run = (s.model m).run ∧ t.marks (.model .follow m) = s.marks (.model .follow m) := by
  obtain ⟨f, -, -, judged⟩ := followChecked_cases (m := m) (q := q) (s := s)
  rw [if_neg (by simp [unchecked])] at judged
  obtain kept | ⟨up, faulted⟩ := (judged.trans (later_of_followChecked later)).follow
  · exact kept
  · exact absurd (same.symm.trans faulted) up

variable (service : (s.model m).state ≠ .disabled)
include service

/-- R97, R114: a following error that is newly active and newly latched takes the model to FAULTED. -/
theorem later_follow_trips (checked : q.checked = true) (exceeded : q.exceeded = true)
    (detects : (s.route 0).detect = true) (inactive : (s.marks (.model .follow m)).active = false)
    (unlatched : (s.marks (.model .follow m)).latched = false) :
    (t.model m).state = .faulted ∧ (t.marks (.model .follow m)).latched = true := by
  have tripped := reportModel_trips (kind := .follow) rfl rfl detects inactive unlatched service
  have step : s.followChecked m q = report (.model .follow m) true s := by
    rw [State.followChecked, if_pos checked, exceeded]
  have onward := later_of_followChecked later
  rw [step] at onward
  exact ⟨onward.stays tripped.1, onward.latched .follow tripped.2⟩

/-- R99, R114: a load trip that is newly active and newly latched takes the model to FAULTED. -/
theorem later_loadTrip_trips (trip : q.trip = true) (detects : (s.route 2).detect = true)
    (inactive : (s.marks (.model .loadTrip m)).active = false)
    (unlatched : (s.marks (.model .loadTrip m)).latched = false) :
    (t.model m).state = .faulted ∧ (t.marks (.model .loadTrip m)).latched = true := by
  have marks : (s.loadChecked m q).marks (.model .loadTrip m) = s.marks (.model .loadTrip m) :=
    loadChecked_marks (by simp) (by simp)
  have detected : (s.loadChecked m q).detects (.model .loadTrip m) = true := by
    rw [← detects]
    exact congrArg Route.detect (loadChecked_route 2)
  have tripped := reportModel_trips (kind := .loadTrip) rfl rfl detected (by rw [marks, inactive])
    (by rw [marks, unlatched]) (loadChecked_judged.service (followChecked_service service))
  have step : s.tripChecked m q = report (.model .loadTrip m) true (s.loadChecked m q) := by
    rw [State.tripChecked, trip]
  have onward := later_of_tripChecked later
  rw [step] at onward
  exact ⟨onward.stays tripped.1, onward.latched .loadTrip tripped.2⟩

/-- R100, R114: a drive report is latched, and newly latched takes the model to FAULTED. -/
theorem later_driveReport_trips (reports : q.reports = true) :
    (t.marks (.model .driveReport m)).latched = true ∧
      ((s.marks (.model .driveReport m)).latched = false → (t.model m).state = .faulted) := by
  have step : s.entryChecked m q = driveReport m (s.flagChecked m q) := if_pos reports
  have was : ((s.flagChecked m q).marks (.model .driveReport m)).latched =
      (s.marks (.model .driveReport m)).latched := by
    rw [State.flagChecked, reportDrive_marks, if_pos rfl, State.tripChecked,
      reportModel_marks_other (by simp) (by simp), loadChecked_marks (by simp) (by simp)]
  have up : ((s.flagChecked m q).model m).state ≠ .disabled :=
    (loadChecked_judged.trans (tripChecked_judged.trans flagChecked_judged)).service (followChecked_service service)
  obtain ⟨latched, faulted⟩ := driveReport_latches up
  rw [step] at later
  exact ⟨later.latched .driveReport latched, fun fresh => later.stays (faulted (was.trans fresh))⟩

end

/-! ### FEEDBACK (R95) -/

section
variable (m : ModelId) (position : Int) (load : Nat) (flagged : Bool) (s : State)

/-- R95 to R100: what an axis entry says of its model. -/
def State.findings : Findings :=
  let x := s.model m
  let average := loadAverage x.config.loadDepth ((load :: x.loads).take 8)
  let moving := x.state == .running || x.state == .holding || x.state == .returning
  { checked := Machine.followChecked x.state s.gallery
    exceeded := x.config.followCount ≤ nextRun x position
    alarm := x.config.loadAlarm ≤ average
    trip := loadTripState x.config average (s.marks (.model .loadTrip m)).underlying
    flagged
    reports := moving && flagged }

/-- R95 to R98, R100: the model's record once an axis entry is taken, before its checks are reported. -/
def State.weighed : State := s.modModel m fun y => { y with
  run := if Machine.followChecked (s.model m).state s.gallery then nextRun (s.model m) position else (s.model m).run
  loads := (load :: (s.model m).loads).take 8
  flagSeen := if !flagged then false else if y.state = .idle then true else y.flagSeen }

theorem checkEntry_eq : checkEntry m position load flagged s =
    (s.weighed m position load flagged).entryChecked m (s.findings m position load flagged) := by
  unfold checkEntry State.entryChecked State.flagChecked State.tripChecked State.loadChecked State.followChecked
  cases checked : Machine.followChecked (s.model m).state s.gallery <;>
    simp only [State.findings, State.weighed, checked] <;> rfl

/-- What a check of an axis entry keeps. -/
theorem checkEntry_reads {β : Type} (read : State → β) (marks : ∀ id f t, read (State.modMarks t id f) = read t)
    (change : ∀ k f t, read (changeModel k f t) = read t) (raises : ∀ a t, read (raise a t) = read t)
    (model : ∀ k f t, read (State.modModel t k f) = read t) :
    read (checkEntry m position load flagged s) = read s := by
  have reports := report_reads read marks change raises
  have drive (t : State) : read (driveReport m t) = read t := by
    rw [driveReport_eq, raises]
    split
    · exact marks _ _ _
    · exact (change _ _ _).trans (marks _ _ _)
  rw [checkEntry_eq]
  have found : read ((s.weighed m position load flagged).flagChecked m (s.findings m position load flagged)) =
      read s := by
    rw [State.flagChecked, reports, State.tripChecked, reports, State.loadChecked, reports, State.followChecked]
    split
    · exact (reports _ _ _).trans (model _ _ _)
    · exact model _ _ _
  unfold State.entryChecked
  split
  · exact (drive _).trans found
  · exact found

end

/-- R95: an axis without a model in service. -/
theorem boundModel_of_unbound {n : NodeId} {a : Axis} {s : State} (unbound : ∀ m, ¬ ((s.model m).state ≠ .disabled ∧
    (s.model m).config.driveNode = some n ∧ (s.model m).config.axis = a)) : s.boundModel n a = none := by
  refine List.find?_eq_none.mpr fun m _ bound => unbound m ?_
  simpa [State.boundTo, and_assoc] using bound

/-- R95: the energised record and the fed-back position of an axis entry. -/
def State.positioned (s : State) (m : ModelId) (e : AxisEntry) : State :=
  (s.modWatch m fun w => { w with energised := isEnergised e.flags }).modModel m fun x =>
    { x with fedBack := some e.position.toInt }

/-- The checks do not read the fed-back position that the entry records. -/
theorem positioned_findings (s : State) (m : ModelId) (e : AxisEntry) (p : Int) (load : Nat) (flagged : Bool) :
    (s.positioned m e).findings m p load flagged = s.findings m p load flagged := by
  have model : (s.positioned m e).model m = { s.model m with fedBack := some e.position.toInt } :=
    State.modModel_model_self _ m _
  simp only [State.findings, model]
  rfl

/-- R95: an axis entry of a model that is not ENABLING, checked. -/
def State.entered (s : State) (m : ModelId) (e : AxisEntry) : State :=
  checkEntry m e.position.toInt (min 1023 e.load.toNat) (hasDriveFlag e.flags) (s.positioned m e)

/-- R95 to R98, R100: the record of the model of an axis entry. -/
theorem weighed_model (s : State) (m : ModelId) (e : AxisEntry) :
    ((s.positioned m e).weighed m e.position.toInt (min 1023 e.load.toNat) (hasDriveFlag e.flags)).model m =
      { s.model m with
        fedBack := some e.position.toInt
        run := if Machine.followChecked (s.model m).state s.gallery then nextRun (s.model m) e.position.toInt
          else (s.model m).run
        loads := (min 1023 e.load.toNat :: (s.model m).loads).take 8
        flagSeen := if !hasDriveFlag e.flags then false else if (s.model m).state = .idle then true
          else (s.model m).flagSeen } := by
  have model : (s.positioned m e).model m = { s.model m with fedBack := some e.position.toInt } :=
    State.modModel_model_self _ m _
  refine (State.modModel_model_self _ m _).trans ?_
  simp only [model]
  rfl

/-- R95, R157: such an entry is checked; a change of the energised record is then tested for the end of a wake. -/
theorem takeFeedback_of_working {n : NodeId} {e : AxisEntry} {m : ModelId} {s : State}
    (drive : (s.node n).role = .drive) (only : s.bindsOnly m n e.axis) (working : (s.model m).state ≠ .enabling) :
    takeFeedback n [e] s = s.entered m e ∨ takeFeedback n [e] s = endWakeTest (s.entered m e) := by
  have entry : takeFeedback n [e] s = takeAxisEntry n e s := if_pos drive
  rw [entry, takeAxisEntry, boundModel_of_bindsOnly only]
  simp only [beq_eq_false_iff_ne.mpr working, Bool.false_eq_true, if_false]
  split
  · exact .inl rfl
  · exact .inr rfl

/-- R102: what no check of an entry and no opening of the bay touches. -/
theorem takeFeedback_surroundings {n : NodeId} {e : AxisEntry} {m : ModelId} {s : State}
    (drive : (s.node n).role = .drive) (only : s.bindsOnly m n e.axis) (working : (s.model m).state ≠ .enabling) :
    (takeFeedback n [e] s).relay = s.relay ∧ (takeFeedback n [e] s).backdrop = (s.positioned m e).backdrop ∧
      (takeFeedback n [e] s).press.buttons = s.press.buttons := by
  have outer : (s.entered m e).outer = s.outer := checkEntry_reads m _ _ _ _ State.outer (by simp)
    (fun k f t => changeModel_outer k f t) (fun a t => raise_outer a t) fun _ _ _ => rfl
  have backdrop : (s.entered m e).backdrop = (s.positioned m e).backdrop := checkEntry_reads m _ _ _ _ State.backdrop
    (fun _ _ _ => rfl) changeModel_backdrop raise_backdrop fun _ _ _ => rfl
  have buttons : (s.entered m e).press.buttons = s.press.buttons :=
    checkEntry_reads m _ _ _ _ (fun t => t.press.buttons) (fun _ _ _ => rfl) changeModel_buttons
      (fun a t => by rw [raise_press]) fun _ _ _ => rfl
  obtain same | opens := takeFeedback_of_working drive only working
  · rw [same]
    exact ⟨State.relay_of_outer outer, backdrop, buttons⟩
  · rw [opens, endWakeTest_backdrop, endWakeTest_buttons]
    exact ⟨State.relay_of_outer ((endWakeTest_outer _).trans outer), backdrop, buttons⟩

theorem takeFeedback_later {n : NodeId} {e : AxisEntry} {m : ModelId} {s : State}
    (drive : (s.node n).role = .drive) (only : s.bindsOnly m n e.axis) (working : (s.model m).state ≠ .enabling) :
    State.Judged m [] (s.entered m e) (takeFeedback n [e] s) := by
  obtain same | opens := takeFeedback_of_working drive only working
  · rw [same]; exact .refl m _
  · rw [opens]; exact endWakeTest_judged

/-- R96: when a model is checked for following error. -/
theorem followChecked_iff (state : ModelState) (g : GalleryMode) : Machine.followChecked state g = true ↔
    state = .running ∨ state = .holding ∨ state = .returning ∨ (state = .idle ∧ g ≠ .doze ∧ g ≠ .closed) := by
  cases state <;> cases g <;> simp [Machine.followChecked, idleCommand]

/-- Settles O20: the checks of an axis entry, one after the other, and what a later state shows of each. -/
theorem feedbackIsChecked : Obligations.FeedbackIsChecked := by
  refine fun n e s running => ⟨fun other es => ?_, fun unbound => ?_, fun m drive only working => ?_⟩
  · rw [exec_feedback, act_of_running running, takeFeedback, if_neg other]
  · have none : takeAxisEntry n e s = s := by rw [takeAxisEntry, boundModel_of_unbound unbound]
    have same : takeFeedback n [e] s = s := by
      unfold takeFeedback
      split
      · exact none
      · rfl
    rw [exec_feedback, act_of_running running, same]
  · intro x flagged loads average checked exceeds run
    refine ⟨_, (exec_feedback n [e] s).trans (act_of_running running), ?_⟩
    rw [settle_model, settle_watch, settle_buttons, settle_sup]
    simp only [settle_marks]
    have later := takeFeedback_later drive only working
    rw [State.entered, checkEntry_eq] at later
    obtain ⟨relay, backdrop, buttons⟩ := takeFeedback_surroundings drive only working
    have model := weighed_model s m e
    have service : (((s.positioned m e).weighed m e.position.toInt (min 1023 e.load.toNat)
        (hasDriveFlag e.flags)).model m).state ≠ .disabled := by
      rw [model]
      exact ((only m).mpr rfl).1
    rw [positioned_findings] at later
    have dossier := later_dossier later
    have energised := congrFun (congrArg Backdrop.energised backdrop) m
    have zones := congrArg Backdrop.zones backdrop
    have alarm := later_loadAlarm later
    have trip := later_loadTrip later
    have report := later_driveReport later
    have energises : ((s.positioned m e).watch m).energised = isEnergised e.flags :=
      congrArg Watch.energised (State.modWatch_watch_self s m _)
    have checks : checked ↔ Machine.followChecked x.state s.gallery = true := (followChecked_iff x.state s.gallery).symm
    have runs : nextRun x e.position.toInt = run := rfl
    simp only [model, Model.dossier, Prod.mk.injEq] at dossier
    obtain ⟨config, setpoint, history, staged, fedBack, record, flagSeen⟩ := dossier
    refine ⟨fedBack, record, flagSeen.trans ?_, energised.trans energises, alarm, trip, report, fun check up => ?_,
      fun uncheck same => ?_, fun check count detects inactive unlatched => ?_,
      fun _ heavy detects inactive unlatched => ?_, fun moves flag => ?_, config, setpoint, history, staged,
      settle_steady_relay relay, zones, buttons⟩
    · have flags : hasDriveFlag e.flags = flagged := rfl
      rw [flags]
      cases flagged <;> rfl
    · have check := checks.mp check
      obtain ⟨counted, condition⟩ := later_follow_of_checked later check up
      rw [model, if_pos check] at counted
      exact ⟨counted, condition⟩
    · have uncheck := Bool.eq_false_iff.mpr (mt checks.mpr uncheck)
      obtain ⟨counted, kept⟩ := later_follow_of_unchecked later uncheck (by rw [model]; exact same)
      rw [model, uncheck] at counted
      exact ⟨counted, kept⟩
    · exact later_follow_trips later service (checks.mp check) (decide_eq_true count) detects inactive unlatched
    · exact later_loadTrip_trips later service (if_pos heavy) detects inactive unlatched
    · have moving : (x.state == .running || x.state == .holding || x.state == .returning) = true := by
        simpa [or_assoc] using moves
      have latches := later_driveReport_trips later service (Bool.and_eq_true_iff.mpr ⟨moving, flag⟩)
      exact latches

end Sys2Proof.Machine

/-! ## What the fault table has to be true to (O58)

`FaultsAgree` reads little of the state: the marks and the detect enables, the STOP key, the keys and SUSPECT marks of
the button map, the miss run, and of each model whether it is DISABLED or FAULTED and whether its drive is watched. That
is its docket. What it says of a docket falls apart into claims, so that an operation in the midst of its work may owe
some of them and pay them one by one. -/

namespace Sys2Proof.Machine

/-! ### The docket and the claims -/

/-- What a model's state has to do with the fault table. -/
inductive Duty where
  | disabled | faulted | serving
  deriving DecidableEq

def ModelState.duty : ModelState → Duty
  | .disabled => .disabled
  | .faulted => .faulted
  | .enabling | .idle | .running | .holding | .returning | .stopped => .serving

theorem ModelState.duty_eq_disabled {x : ModelState} : x.duty = .disabled ↔ x = .disabled := by cases x <;> decide

theorem ModelState.duty_eq_faulted {x : ModelState} : x.duty = .faulted ↔ x = .faulted := by cases x <;> decide

/-- What of a state the fault table has to be true to. -/
structure Docket where
  marks : FaultId → Marks
  detect : Fin 15 → Bool
  stop : Bool
  buttons : EntryIx → Option (Key × Bool)
  missRun : Nat
  duty : ModelId → Duty
  unwatched : ModelId → Bool

def State.docket (s : State) : Docket where
  marks := s.marks
  detect code := (s.route code).detect
  stop := s.sup.stopAsserted
  buttons i := (s.entry i).map fun b => (b.key, b.suspect)
  missRun := s.relay.missRun
  duty m := (s.model m).state.duty
  unwatched m := (s.watch m).driveSilence.isNone

/-- The parts of `FaultsAgree` and `KeysApart`, one by one: R62; R176; R112 of one entry; what the source of one entry
says; R103 of one DISABLED model; R115 of one model with a trip-class latch; R18 of one FAULTED model. -/
inductive Claim where
  | apart
  | watched
  | follows (id : FaultId)
  | source (id : FaultId)
  | unwatched (m : ModelId)
  | tripped (m : ModelId)
  | cause (m : ModelId)

namespace Docket

/-- R106, R71, R119, R105: what the source of an entry says of its underlying state. -/
def Says (d : Docket) : FaultId → Bool → Prop
  | .bay .stopKey, v => v = d.stop
  | .bay .ringOpen, v => v = decide (d.missRun = 3)
  | .buttonStuck k, v => v = true ↔ ∃ i, d.buttons i = some (k, true)
  | .model _ m, v => v = true → d.duty m ≠ .disabled
  | .nodeSilent _, _ | .bay .spineSilent, _ | .bay .bayCheck, _ => True

/-- R115: a trip-class latch of the model. -/
def TripLatched (d : Docket) (m : ModelId) : Prop :=
  ∃ k : ModelKind, k.trips = true ∧ (d.marks (.model k m)).latched = true

def Holds (d : Docket) : Claim → Prop
  | .apart => ∀ i j k a b, d.buttons i = some (k, a) → d.buttons j = some (k, b) → i = j
  | .watched => d.detect 4 = true ∧ d.detect 7 = true
  | .follows id => (d.marks id).active = ((d.marks id).underlying && d.detect id.kindCode)
  | .source id => d.Says id (d.marks id).underlying
  | .unwatched m => d.duty m = .disabled → d.unwatched m = true
  | .tripped m => d.TripLatched m → d.duty m ≠ .serving
  | .cause m => d.duty m = .faulted → d.TripLatched m

/-- Every claim holds but for those owed. -/
def TrueBut (d : Docket) (owed : Set Claim) : Prop := ∀ c, c ∉ owed → d.Holds c

theorem TrueBut.mono {d : Docket} {owed more : Set Claim} (h : d.TrueBut owed) (sub : owed ⊆ more) : d.TrueBut more :=
  fun c spared => h c fun owes => spared (sub owes)

/-- A claim that turns out to hold is not owed. -/
theorem TrueBut.paid {d : Docket} {owed less : Set Claim} (h : d.TrueBut owed)
    (pays : ∀ c ∈ owed, c ∉ less → d.Holds c) : d.TrueBut less := fun c spared => by
  by_cases owes : c ∈ owed
  · exact pays c owes spared
  · exact h c owes

end Docket

/-- The docket of the state is true. -/
def State.Sound (s : State) : Prop := s.docket.TrueBut ∅

theorem State.tripLatched_iff {s : State} {m : ModelId} :
    s.docket.TripLatched m ↔ ∃ k, k ≠ .loadAlarm ∧ (s.marks (.model k m)).latched = true := by
  simp only [Docket.TripLatched, ModelKind.trips_iff, State.docket]

theorem State.docket_suspect {s : State} {k : Key} :
    (∃ i, s.docket.buttons i = some (k, true)) ↔ ∃ i b, s.entry i = some b ∧ b.key = k ∧ b.suspect = true := by
  simp only [State.docket, Option.map_eq_some_iff, Prod.mk.injEq]

theorem State.docket_apart {s : State} : s.docket.Holds .apart ↔ s.KeysApart := by
  simp only [Docket.Holds, State.docket, Option.map_eq_some_iff, Prod.mk.injEq]
  constructor
  · intro h i j b c hi hj key
    exact h i j b.key b.suspect c.suspect ⟨b, hi, rfl, rfl⟩ ⟨c, hj, key.symm, rfl⟩
  · rintro h i j k a b ⟨x, hx, rfl, rfl⟩ ⟨y, hy, key, rfl⟩
    exact h i j x y hx hy key.symm

theorem Duty.ne_serving {d : Duty} : d ≠ .serving ↔ d = .faulted ∨ d = .disabled := by cases d <;> decide

/-- A state's docket is true just where its keys are apart and `FaultsAgree` holds of it. -/
theorem State.sound_iff {s : State} : s.Sound ↔ s.KeysApart ∧ s.FaultsAgree := by
  constructor
  · intro h
    have claim (c : Claim) : s.docket.Holds c := h c (Set.notMem_empty c)
    refine ⟨State.docket_apart.mp (claim .apart), fun id => claim (.follows id), claim .watched,
      claim (.source (.bay .stopKey)),
      fun k => (claim (.source (.buttonStuck k))).trans State.docket_suspect, claim (.source (.bay .ringOpen)),
      fun m out => ⟨?_, fun k => ?_⟩, fun m k trips latched => ?_, fun m faulted => ?_⟩
    · have duty : s.docket.duty m = .disabled := ModelState.duty_eq_disabled.mpr out
      exact Option.isNone_iff_eq_none.mp (claim (.unwatched m) duty)
    · have duty : s.docket.duty m = .disabled := ModelState.duty_eq_disabled.mpr out
      exact Bool.eq_false_iff.mpr fun on => claim (.source (.model k m)) on duty
    · have duty := claim (.tripped m) (State.tripLatched_iff.mpr ⟨k, trips, latched⟩)
      exact (Duty.ne_serving.mp duty).imp ModelState.duty_eq_faulted.mp ModelState.duty_eq_disabled.mp
    · exact State.tripLatched_iff.mp (claim (.cause m) (ModelState.duty_eq_faulted.mpr faulted))
  · rintro ⟨apart, h⟩ c -
    match c with
    | .apart => exact State.docket_apart.mpr apart
    | .watched => exact h.watched
    | .follows id => exact h.follows id
    | .source (.bay .stopKey) => exact h.stopKey
    | .source (.bay .ringOpen) => exact h.ring
    | .source (.buttonStuck k) => exact (h.stuck k).trans State.docket_suspect.symm
    | .source (.model k m) =>
      intro on out
      have off := (h.disabled m (ModelState.duty_eq_disabled.mp out)).2 k
      exact absurd (off.symm.trans on) (by decide)
    | .source (.nodeSilent _) | .source (.bay .spineSilent) | .source (.bay .bayCheck) => trivial
    | .unwatched m =>
      exact fun out => Option.isNone_iff_eq_none.mpr (h.disabled m (ModelState.duty_eq_disabled.mp out)).1
    | .tripped m =>
      intro latched
      obtain ⟨k, trips, latched⟩ := State.tripLatched_iff.mp latched
      exact Duty.ne_serving.mpr ((h.tripped m k trips latched).imp ModelState.duty_eq_faulted.mpr
        ModelState.duty_eq_disabled.mpr)
    | .cause m => exact fun faulted => State.tripLatched_iff.mpr (h.cause m (ModelState.duty_eq_faulted.mp faulted))

/-! ### One entry's marks -/

namespace Docket
variable {d : Docket} {owed : Set Claim} {id : FaultId} {m : ModelId}

/-- The docket with other marks of one entry. -/
def mark (d : Docket) (id : FaultId) (k : Marks) : Docket := { d with marks := Function.update d.marks id k }

@[simp] theorem mark_marks_self (d : Docket) (id : FaultId) (k : Marks) : (d.mark id k).marks id = k :=
  Function.update_self ..

theorem mark_marks_of_ne {i : FaultId} (other : i ≠ id) (d : Docket) (k : Marks) : (d.mark id k).marks i = d.marks i :=
  Function.update_of_ne other ..

theorem says_mark (d : Docket) (id i : FaultId) (k : Marks) (v : Bool) : (d.mark id k).Says i v ↔ d.Says i v := by
  cases i with
  | bay b => cases b <;> rfl
  | _ => rfl

/-- Marks that keep the latch keep the trip-class latches. -/
theorem tripLatched_mark {k : Marks} (latch : k.latched = (d.marks id).latched) :
    (d.mark id k).TripLatched m ↔ d.TripLatched m := by
  have same (i : FaultId) : ((d.mark id k).marks i).latched = (d.marks i).latched := by
    by_cases own : i = id
    · rw [own, mark_marks_self, latch]
    · rw [mark_marks_of_ne own]
  simp only [TripLatched, same]

/-- What an entry's own marks are claimed to be. -/
def ofEntry (id : FaultId) : Set Claim := {.follows id, .source id}

/-- An entry that keeps its latch, follows its underlying state and has that from its source owes nothing. -/
theorem TrueBut.mark {k : Marks} (h : d.TrueBut owed) (latch : k.latched = (d.marks id).latched)
    (follows : k.active = (k.underlying && d.detect id.kindCode)) (told : d.Says id k.underlying) :
    (d.mark id k).TrueBut (owed \ ofEntry id) := by
  have before {c : Claim} (spared : c ∉ owed \ ofEntry id) (other : c ∉ ofEntry id) : d.Holds c :=
    h c fun owes => spared ⟨owes, other⟩
  intro c spared
  match c with
  | .apart => exact before spared (by simp [ofEntry])
  | .watched => exact before spared (by simp [ofEntry])
  | .follows i =>
    by_cases own : i = id
    · subst own; simpa [Holds, Docket.mark] using follows
    · have kept := before spared (by simp [ofEntry, own])
      simpa [Holds, Docket.mark, Function.update_of_ne own] using kept
  | .source i =>
    refine (says_mark ..).mpr ?_
    by_cases own : i = id
    · subst own; simpa using told
    · have kept := before spared (by simp [ofEntry, own])
      simpa only [Holds, mark_marks_of_ne own] using kept
  | .tripped m =>
    have kept := before spared (by simp [ofEntry])
    exact fun trip => kept ((tripLatched_mark latch).mp trip)
  | .unwatched m => exact before spared (by simp [ofEntry])
  | .cause m =>
    have kept := before spared (by simp [ofEntry])
    exact fun faulted => (tripLatched_mark latch).mpr (kept faulted)

/-- R97, R105: the condition of an entry of a model ends. -/
def quench (d : Docket) (id : FaultId) : Docket := d.mark id ⟨false, false, (d.marks id).latched⟩

theorem TrueBut.quench (h : d.TrueBut owed) (told : d.Says id false) : (d.quench id).TrueBut (owed \ ofEntry id) :=
  h.mark rfl rfl told

theorem TrueBut.quenchModel {kind : ModelKind} (h : d.TrueBut owed) : (d.quench (.model kind m)).TrueBut owed :=
  (TrueBut.quench h (id := .model kind m) nofun).mono Set.sdiff_subset

/-- R114: an entry is latched. -/
def latch (d : Docket) (id : FaultId) : Docket := d.mark id { d.marks id with latched := true }

/-- A latch of a model that is not out of service yet owes its trip. -/
theorem TrueBut.latch (h : d.TrueBut owed) (id : FaultId) :
    (d.latch id).TrueBut (owed ∪ {c | ∃ m, id.tripModel = some m ∧ c = .tripped m}) := by
  have same (i : FaultId) : ((d.latch id).marks i).active = (d.marks i).active ∧
      ((d.latch id).marks i).underlying = (d.marks i).underlying ∧
      (((d.latch id).marks i).latched = true ↔ i = id ∨ (d.marks i).latched = true) := by
    by_cases own : i = id
    · subst own; simp [Docket.latch]
    · simp [Docket.latch, mark_marks_of_ne own, own]
  intro c spared
  have before : d.Holds c := h c fun owes => spared (.inl owes)
  match c with
  | .apart => exact before
  | .watched => exact before
  | .follows i => exact (same i).1.trans ((before : _ = _).trans (by rw [(same i).2.1]; rfl))
  | .source i => rw [Holds, (same i).2.1]; exact (says_mark ..).mpr before
  | .tripped m =>
    rintro ⟨k, trips, latched⟩
    refine before ?_
    obtain rfl | was := ((same _).2.2).mp latched
    · exact absurd (.inr ⟨m, by simp [FaultId.tripModel, trips], rfl⟩) spared
    · exact ⟨k, trips, was⟩
  | .unwatched m => exact before
  | .cause m =>
    intro faulted
    obtain ⟨k, trips, latched⟩ := before faulted
    exact ⟨k, trips, ((same _).2.2).mpr (.inr latched)⟩

/-- R122: a latch is cleared; a FAULTED model that it tripped may owe its cause. -/
theorem TrueBut.unlatch (h : d.TrueBut owed) (id : FaultId) : (d.mark id { d.marks id with latched := false }).TrueBut
    (owed ∪ {c | ∃ m, id.tripModel = some m ∧ c = .cause m}) := by
  have same (i : FaultId) : ((d.mark id { d.marks id with latched := false }).marks i).active = (d.marks i).active ∧
      ((d.mark id { d.marks id with latched := false }).marks i).underlying = (d.marks i).underlying ∧
      (((d.mark id { d.marks id with latched := false }).marks i).latched = true ↔
        i ≠ id ∧ (d.marks i).latched = true) := by
    by_cases own : i = id
    · subst own; simp
    · simp [mark_marks_of_ne own, own]
  intro c spared
  have before : d.Holds c := h c fun owes => spared (.inl owes)
  match c with
  | .apart => exact before
  | .watched => exact before
  | .unwatched m => exact before
  | .follows i => exact (same i).1.trans ((before : _ = _).trans (by rw [(same i).2.1]; rfl))
  | .source i => rw [Holds, (same i).2.1]; exact (says_mark ..).mpr before
  | .tripped m => exact fun ⟨k, trips, latched⟩ => before ⟨k, trips, (((same _).2.2).mp latched).2⟩
  | .cause m =>
    intro faulted
    obtain ⟨k, trips, latched⟩ := before faulted
    refine ⟨k, trips, ((same _).2.2).mpr ⟨fun own => spared (.inr ⟨m, ?_, rfl⟩), latched⟩⟩
    simp [← own, FaultId.tripModel, trips]

/-! ### One model's duty -/

/-- The docket with another duty of one model. -/
def place (d : Docket) (m : ModelId) (duty : Duty) (unwatched : Bool) : Docket :=
  { d with duty := Function.update d.duty m duty, unwatched := Function.update d.unwatched m unwatched }

/-- What a DISABLED model owes: a stopped drive silence timer, and no condition. -/
def ofDisabled (m : ModelId) : Set Claim := {c | c = .unwatched m ∨ ∃ kind, c = .source (.model kind m)}

theorem place_duty_of_ne {k : ModelId} (other : k ≠ m) (duty : Duty) (u : Bool) :
    (d.place m duty u).duty k = d.duty k :=
  Function.update_of_ne other ..

@[simp] theorem place_duty_self (duty : Duty) (u : Bool) : (d.place m duty u).duty m = duty := Function.update_self ..

/-- R17 to R19, R115: a model is out of service for a trip-class latch and is FAULTED for nothing else. -/
theorem TrueBut.place {duty : Duty} {u : Bool} (h : d.TrueBut owed) (trip : d.TripLatched m → duty ≠ .serving)
    (cause : duty = .faulted → d.TripLatched m) :
    (d.place m duty u).TrueBut (owed \ {.tripped m, .cause m} ∪ {c | duty = .disabled ∧ c ∈ ofDisabled m}) := by
  intro c spared
  have before (other : c ∉ ({.tripped m, .cause m} : Set Claim)) : d.Holds c :=
    h c fun owes => spared (.inl ⟨owes, other⟩)
  have service (own : c ∈ ofDisabled m) : duty ≠ .disabled := fun out => spared (.inr ⟨out, own⟩)
  match c with
  | .apart => exact before (by simp)
  | .watched => exact before (by simp)
  | .follows i => exact before (by simp)
  | .source i =>
    have kept : d.Says i (d.marks i).underlying := before (by simp)
    show (d.place m duty u).Says i (d.marks i).underlying
    match i with
    | .model kind k =>
      intro on
      by_cases own : k = m
      · subst own
        rw [place_duty_self]
        exact service (.inr ⟨kind, rfl⟩)
      · rw [place_duty_of_ne own]; exact kept on
    | .bay .stopKey | .bay .ringOpen | .buttonStuck _ => exact kept
    | .nodeSilent _ | .bay .spineSilent | .bay .bayCheck => trivial
  | .unwatched k =>
    by_cases own : k = m
    · subst own
      rw [Holds, place_duty_self]
      exact (absurd · (service (.inl rfl)))
    · have kept := before (by simp)
      simpa [Holds, Docket.place, Function.update_of_ne own] using kept
  | .tripped k =>
    by_cases own : k = m
    · subst own
      rw [Holds, place_duty_self]
      exact trip
    · have kept := before (by simp [own])
      simpa [Holds, Docket.place, Function.update_of_ne own, TripLatched] using kept
  | .cause k =>
    by_cases own : k = m
    · subst own
      rw [Holds, place_duty_self]
      exact cause
    · have kept := before (by simp [own])
      simpa [Holds, Docket.place, Function.update_of_ne own, TripLatched] using kept

end Docket

end Sys2Proof.Machine

/-! ## What keeps the docket (O58) -/

namespace Sys2Proof.Machine

/-! ### Blocks and entries -/

section
variable (s : State)

@[simp] theorem onRelay_docket {f : LineRelay → LineRelay} (same : (f s.relay).missRun = s.relay.missRun) :
    (s.onRelay f).docket = s.docket := by simp only [State.docket, State.onRelay, same]; rfl

@[simp] theorem onPress_docket {f : PressArbiter → PressArbiter} (same : (f s.press).buttons = s.press.buttons) :
    (s.onPress f).docket = s.docket := by simp only [State.docket, State.entry, State.onPress, same]; rfl

@[simp] theorem onMotion_docket {f : MotionSequencer → MotionSequencer} (same : (f s.motion).models = s.motion.models) :
    (s.onMotion f).docket = s.docket := by simp only [State.docket, State.model, State.onMotion, same]; rfl

@[simp] theorem onAlert_docket {f : AlertUnit → AlertUnit} (same : (f s.alert).routes = s.alert.routes) :
    (s.onAlert f).docket = s.docket := by simp only [State.docket, State.route, State.onAlert, same]; rfl

@[simp] theorem onSup_docket {f : Supervisor → Supervisor} (watch : (f s.sup).watch = s.sup.watch)
    (stop : (f s.sup).stopAsserted = s.sup.stopAsserted) (faults : (f s.sup).faults = s.sup.faults) :
    (s.onSup f).docket = s.docket := by
  unfold State.docket State.marks State.watch State.onSup
  simp only [watch, stop, faults]
  rfl

@[simp] theorem onMode_docket (f : ModeControl → ModeControl) : (s.onMode f).docket = s.docket := rfl

@[simp] theorem onPins_docket (f : Pins → Pins) : (s.onPins f).docket = s.docket := rfl

@[simp] theorem onTallies_docket (f : Tallies → Tallies) : (s.onTallies f).docket = s.docket := rfl

@[simp] theorem setWaits_docket (m : ModelId) (l : List Request) : (s.setWaits m l).docket = s.docket := rfl

@[simp] theorem withPending_docket (q : List Instr) : (s.withPending q).docket = s.docket := rfl

@[simp] theorem modNode_docket (n : NodeId) (f : NodeEntry → NodeEntry) : (s.modNode n f).docket = s.docket := rfl

@[simp] theorem onBayCounters_docket (f : BayCounters → BayCounters) : (s.onBayCounters f).docket = s.docket := rfl

@[simp] theorem onSpineCounters_docket (f : SpineCounters → SpineCounters) :
    (s.onSpineCounters f).docket = s.docket := rfl

theorem modMarks_docket (id : FaultId) (f : Marks → Marks) :
    (s.modMarks id f).docket = s.docket.mark id (f (s.marks id)) := by
  have marks : (s.modMarks id f).marks = Function.update s.marks id (f (s.marks id)) := by
    funext i
    rw [State.modMarks_marks, Function.update_apply]
  simp only [State.docket, Docket.mark, marks]
  rfl

theorem quench_docket (id : FaultId) : (quench id s).docket = s.docket.quench id := modMarks_docket s id _

theorem modModel_docket {m : ModelId} {f : Model → Model} (same : (f (s.model m)).state.duty = (s.model m).state.duty) :
    (s.modModel m f).docket = s.docket := by
  have duty (k : ModelId) : ((s.modModel m f).model k).state.duty = (s.model k).state.duty := by
    rw [State.modModel_model]
    split
    · rename_i own; rw [own, same]
    · rfl
  simp only [State.docket, duty]
  rfl

theorem modWatch_docket {m : ModelId} {f : Watch → Watch}
    (same : (f (s.watch m)).driveSilence = (s.watch m).driveSilence) : (s.modWatch m f).docket = s.docket := by
  have silence (k : ModelId) : ((s.modWatch m f).watch k).driveSilence = (s.watch k).driveSilence := by
    rw [State.modWatch_watch]
    split
    · rename_i own; rw [own, same]
    · rfl
  simp only [State.docket, silence]
  rfl

theorem modEntry_docket {i : EntryIx} {f : Button → Button} (key : ∀ b, (f b).key = b.key)
    (suspect : ∀ b, (f b).suspect = b.suspect) : (s.modEntry i f).docket = s.docket := by
  have button (j : EntryIx) : ((s.modEntry i f).entry j).map (fun b => (b.key, b.suspect)) =
      (s.entry j).map fun b => (b.key, b.suspect) := by
    rw [State.modEntry_entry]
    split
    · rename_i own; rw [own, Option.map_map]; simp only [Function.comp_def, key, suspect]
    · rfl
  simp only [State.docket, button]
  rfl

theorem docket_of_steady {s t : State} (h : t.steady = s.steady) : t.docket = s.docket :=
  (congrArg State.docket h :)

/-! ### The Alert Unit and Mode Control -/

@[simp] theorem raise_docket (a : About) : (raise a s).docket = s.docket := by
  rw [raise_eq]
  exact onAlert_docket s (f := fun _ => (raise a s).alert) (raise_routes a s)

@[simp] theorem deriveShowing_docket : (deriveShowing s).docket = s.docket := onAlert_docket s (deriveShowing_routes s)

@[simp] theorem quietTest_docket (b : Bool) : (quietTest b s).docket = s.docket := by
  simp [quietTest, apply_ite State.docket]

@[simp] theorem setMode_docket (g : GalleryMode) : (setMode g s).docket = s.docket := rfl

@[simp] theorem stopWakeTimer_docket : (stopWakeTimer s).docket = s.docket := rfl

@[simp] theorem sendWake_docket : (sendWake s).docket = s.docket := by
  simp [sendWake, beginWake, apply_ite State.docket]

@[simp] theorem clearNotice_docket (id : FaultId) : (clearNotice id s).docket = s.docket := by simp [clearNotice]

@[simp] theorem escalate_docket (n : Nat) : (escalate n s).docket = s.docket := by simp [escalate]

@[simp] theorem alertLeft_docket : (alertLeft s).docket = s.docket := by simp [alertLeft]

@[simp] theorem ackFromFloor_docket : (ackFromFloor s).docket = s.docket := by simp [ackFromFloor]

theorem ackArgs_docket (payload : List Byte) : (ackArgs payload s).1.docket = s.docket := by
  unfold ackArgs ackNumber ackOverflow
  (repeat' split) <;> simp

theorem phaseEnd_routes (a : AlertUnit) : (phaseEnd a).routes = a.routes := by
  unfold phaseEnd startPhase
  (repeat' split) <;> rfl

/-! ### Lists, notices and presses -/

@[simp] theorem flushList_docket (m : ModelId) : (flushList m s).docket = s.docket := by simp [flushList]

@[simp] theorem flushAll_docket : (flushAll s).docket = s.docket :=
  forEach_keeps State.docket _ (fun m t => flushList_docket t m) _ s

@[simp] theorem trimList_docket (m : ModelId) (depth : Nat) : (trimList m depth s).docket = s.docket := by
  simp [trimList]

@[simp] theorem flushKey_docket (k : Key) (m : ModelId) : (flushKey k m s).docket = s.docket := by
  simp [flushKey, apply_ite State.docket]

@[simp] theorem requestExpires_docket (m : ModelId) (k : Key) : (requestExpires m k s).docket = s.docket := by
  simp [requestExpires, apply_ite State.docket]

@[simp] theorem joinList_docket (b : Button) : (joinList b s).docket = s.docket := by
  simp [joinList, apply_ite State.docket]

@[simp] theorem removeEntry_docket (m : ModelId) : (removeEntry m s).docket = s.docket := by simp [removeEntry]

@[simp] theorem sendFreeNotice_docket (m : ModelId) : (sendFreeNotice m s).docket = s.docket := rfl

@[simp] theorem beginLockout_docket (i : EntryIx) : (beginLockout i s).docket = s.docket :=
  modEntry_docket s (fun _ => rfl) fun _ => rfl

@[simp] theorem beginLockoutOf_docket (k : Key) : (beginLockoutOf k s).docket = s.docket := by
  unfold beginLockoutOf; split <;> simp

@[simp] theorem lockoutEnds_docket (k : Key) : (lockoutEnds k s).docket = s.docket := by
  unfold lockoutEnds
  split
  · exact modEntry_docket s (fun _ => rfl) fun _ => rfl
  · rfl

@[simp] theorem stuckBookkeeping_docket (i : EntryIx) (e : Edge) : (stuckBookkeeping i e s).docket = s.docket := by
  cases e <;> exact modEntry_docket s (fun _ => rfl) fun _ => rfl

@[simp] theorem recordButton_docket (k : Key) (down : Bool) : (recordButton k down s).docket = s.docket := rfl

@[simp] theorem markDirty_docket (n : NodeId) : (markDirty n s).docket = s.docket := by
  simp [markDirty, apply_ite State.docket]

@[simp] theorem setLamp_docket (k : Key) (l : Lamp) : (setLamp k l s).docket = s.docket :=
  docket_of_steady (steady_of_unlit (setLamp_unlit k l s))

@[simp] theorem deriveLamps_docket : (deriveLamps s).docket = s.docket := docket_of_steady (deriveLamps_steady s)

@[simp] theorem takeUp_docket : (takeUp s).docket = s.docket := docket_of_steady (takeUp_steady s)

@[simp] theorem settle_docket : (settle s).docket = s.docket := docket_of_steady (settle_steady s)

@[simp] theorem refreshEnds_docket (n : NodeId) : (refreshEnds n s).docket = s.docket := by
  simp [refreshEnds, apply_ite State.docket]

/-! ### Frames and replies -/

@[simp] theorem forwardDown_docket (f : Frame) : (forwardDown f s).docket = s.docket := by
  simp [forwardDown, apply_ite State.docket]

@[simp] theorem forwardUp_docket (f : Frame) : (forwardUp f s).docket = s.docket := by
  simp [forwardUp, apply_ite State.docket]

@[simp] theorem overrun_docket : (overrun s).docket = s.docket := rfl

@[simp] theorem pushReply_docket (c : Sender) (a : Answer) (r : Bool) : (pushReply c a r s).docket = s.docket := rfl

@[simp] theorem placeStartUp_docket (origin : Byte) : (placeStartUp origin s).docket = s.docket := rfl

@[simp] theorem misroutedBay_docket : (misroutedBay s).docket = s.docket := rfl

@[simp] theorem misroutedSpine_docket : (misroutedSpine s).docket = s.docket := rfl

@[simp] theorem setReceiver_docket (p : Port) (r : Receiver) : (setReceiver p r s).docket = s.docket := by
  cases p <;> rfl

@[simp] theorem countGood_docket (p : Port) : (countGood p s).docket = s.docket := by cases p <;> rfl

@[simp] theorem lineIdle_docket (p : Port) : (lineIdle p s).docket = s.docket := by unfold lineIdle; split <;> simp

theorem mirrorUp_markHello_docket (n : NodeId) (f : Frame) (b : Byte) :
    (mirrorUp n f (markHello n b s)).docket = s.docket := by
  unfold mirrorUp markHello; (repeat' split) <;> simp

theorem bayLeft_docket : (bayLeft s).docket = s.docket := by
  unfold bayLeft; dsimp only; (repeat' split) <;> rfl

@[simp] theorem fillSlot_docket (outs : List AxisOut) (n : NodeId) : (fillSlot outs n s).docket = s.docket := by
  simp [fillSlot, apply_ite State.docket]

@[simp] theorem clearCounts_docket : (clearCounts s).docket = s.docket := by simp [clearCounts]

@[simp] theorem repeatSetpoint_docket (m : ModelId) : (repeatSetpoint m s).docket = s.docket := modModel_docket s rfl

/-! ### Time -/

theorem tick_docket : (tick s).docket = s.docket := by
  have duty (m : ModelId) : ((tick s).model m).state.duty = (s.model m).state.duty := by rw [tick_model]
  have button (i : EntryIx) : ((tick s).entry i).map (fun b => (b.key, b.suspect)) =
      (s.entry i).map fun b => (b.key, b.suspect) := by rw [tick_entry, Option.map_map]; rfl
  have silence (m : ModelId) : ((tick s).watch m).driveSilence.isNone = (s.watch m).driveSilence.isNone := by
    have later : ((tick s).watch m).driveSilence = countDown (s.watch m).driveSilence :=
      congrArg Watch.driveSilence (tget_map _ _ m)
    rw [later, countDown, Option.isNone_map]
  simp only [State.docket, duty, button, silence]
  rfl

end

end Sys2Proof.Machine

/-! ## Reports, trips and changes of a model (O58) -/

namespace Sys2Proof.Machine

/-! ### Changes of a model -/

section
variable {s : State} {m : ModelId} {f : Model → Model} {owed : Set Claim}

/-- R3, R97, R103: a change of a model, as its docket shows it. -/
theorem changeModel_docket (m : ModelId) (f : Model → Model) (s : State) : (changeModel m f s).docket =
    (if (s.model m).leaves (f (s.model m)) then s.docket.quench (.model .follow m) else s.docket).place m
      (f (s.model m)).state.duty ((changeModel m f s).watch m).driveSilence.isNone := by
  have marks : (changeModel m f s).marks = if (s.model m).leaves (f (s.model m)) then
      Function.update s.marks (.model .follow m) ⟨false, false, (s.marks (.model .follow m)).latched⟩ else s.marks := by
    funext id
    rw [changeModel_marks]
    by_cases leaves : (s.model m).leaves (f (s.model m)) = true
    · by_cases own : id = .model .follow m
      · subst own; simp [leaves]
      · simp [leaves, own]
    · simp [leaves]
  have duty : (fun k => ((changeModel m f s).model k).state.duty) =
      Function.update (fun k => (s.model k).state.duty) m (f (s.model m)).state.duty := by
    funext k
    rw [changeModel_model, Function.update_apply]
    split
    · rw [Model.settled_state]
    · rfl
  have watch : (fun k => ((changeModel m f s).watch k).driveSilence.isNone) =
      Function.update (fun k => (s.watch k).driveSilence.isNone) m
        ((changeModel m f s).watch m).driveSilence.isNone := by
    funext k
    by_cases own : k = m
    · rw [own, Function.update_self]
    · rw [changeModel_watch_ne own, Function.update_of_ne own]
  have kept : (changeModel m f s).docket = { s.docket with
      marks := (changeModel m f s).marks
      duty := fun k => ((changeModel m f s).model k).state.duty
      unwatched := fun k => ((changeModel m f s).watch k).driveSilence.isNone } := by
    have route : (changeModel m f s).route = s.route := by funext c; rw [State.route, changeModel_alert]; rfl
    have stop : (changeModel m f s).sup.stopAsserted = s.sup.stopAsserted := by rw [changeModel_sup]
    have entry : (changeModel m f s).entry = s.entry := by funext i; rw [State.entry, changeModel_buttons]; rfl
    have relay : (changeModel m f s).relay = s.relay := State.relay_of_outer (changeModel_outer m f s)
    simp only [State.docket, route, stop, entry, relay]
  rw [kept, marks, duty, watch]
  split <;> rfl

/-- Quenching FOLLOW as a change of its model does. -/
theorem followEnded_trueBut (h : s.docket.TrueBut owed) (leaves : Bool) :
    (if leaves then s.docket.quench (.model .follow m) else s.docket).TrueBut owed := by
  split
  · exact h.quenchModel
  · exact h

theorem followEnded_tripLatched (leaves : Bool) (d : Docket) :
    (if leaves then d.quench (.model .follow m) else d).TripLatched m ↔ d.TripLatched m := by
  split
  · exact Docket.tripLatched_mark rfl
  · rfl

/-- R17 to R21, R115: a change of a model, whose trip-class latches say whether it is tripped. -/
theorem changeModel_trueBut (h : s.docket.TrueBut owed)
    (trip : s.docket.TripLatched m → (f (s.model m)).state.duty ≠ .serving)
    (cause : (f (s.model m)).state.duty = .faulted → s.docket.TripLatched m) : (changeModel m f s).docket.TrueBut
      (owed \ {.tripped m, .cause m} ∪ {c | (f (s.model m)).state.duty = .disabled ∧ c ∈ Docket.ofDisabled m}) := by
  rw [changeModel_docket]
  exact (followEnded_trueBut h _).place (fun latched => trip ((followEnded_tripLatched _ _).mp latched))
    fun faulted => (followEnded_tripLatched _ _).mpr (cause faulted)

/-- A change that does not end in DISABLED. -/
theorem changeModel_in_service (h : s.docket.TrueBut owed) (service : (f (s.model m)).state.duty ≠ .disabled)
    (trip : s.docket.TripLatched m → (f (s.model m)).state.duty ≠ .serving)
    (cause : (f (s.model m)).state.duty = .faulted → s.docket.TripLatched m) :
    (changeModel m f s).docket.TrueBut (owed \ {.tripped m, .cause m}) :=
  (changeModel_trueBut h trip cause).mono (by simp [service])

/-- R14, R18 to R20: a model without a trip-class latch comes into service, and owes nothing. -/
theorem changeModel_serves (h : s.docket.TrueBut owed) (service : (f (s.model m)).state.duty = .serving)
    (free : ¬ s.docket.TripLatched m) : (changeModel m f s).docket.TrueBut (owed \ {.cause m}) := by
  refine (changeModel_in_service h ?_ (absurd · free) fun faulted => ?_).mono (Set.sdiff_subset_sdiff_right (by simp))
  · rw [service]; decide
  · rw [service] at faulted; cases faulted

/-- A change that leaves a model as DISABLED or FAULTED as it was. -/
theorem changeModel_sound (h : s.Sound) (same : (f (s.model m)).state.duty = (s.model m).state.duty) :
    (changeModel m f s).Sound := by
  have claim (c : Claim) : s.docket.Holds c := h c (Set.notMem_empty c)
  have duty : s.docket.duty m = (f (s.model m)).state.duty := same.symm
  have changed := changeModel_trueBut h (f := f) (m := m) (duty ▸ claim (.tripped m))
    fun faulted => claim (.cause m) (duty.trans faulted)
  refine changed.paid fun c owes _ => ?_
  obtain ⟨out, rfl | ⟨kind, rfl⟩⟩ := owes.resolve_left (by simp)
  · have unwatched : (s.watch m).driveSilence.isNone = true := claim (.unwatched m) (duty.trans out)
    have disabled := ModelState.duty_eq_disabled.mp out
    intro _
    show ((changeModel m f s).watch m).driveSilence.isNone = true
    rw [changeModel_watch_self]
    simpa [disabled] using unwatched
  · have quiet : (s.marks (.model kind m)).underlying = false :=
      Bool.eq_false_iff.mpr fun on => claim (.source (.model kind m)) on (duty.trans out)
    intro on
    have still : ((changeModel m f s).marks (.model kind m)).underlying = false := by
      rw [changeModel_marks]
      split
      · rfl
      · exact quiet
    exact absurd (still.symm.trans on) (by decide)

/-- R17: a trip of a model with a trip-class latch. -/
theorem tripModel_trueBut (h : s.docket.TrueBut owed) (latched : s.docket.TripLatched m) :
    (tripModel m s).docket.TrueBut (owed \ {.tripped m}) := by
  by_cases out : (s.model m).state = .disabled
  · have still : (s.model m).trip = s.model m := by simp [Model.trip, out]
    have same : (tripModel m s).docket = s.docket := by
      rw [tripModel, changeModel_docket, still, changeModel_watch_self]
      simp [still, Model.leaves, out, Docket.place, State.docket]
    rw [same]
    refine h.paid fun c owes spared => ?_
    obtain rfl : c = .tripped m := by_contra fun other => spared ⟨owes, other⟩
    intro _
    have duty : s.docket.duty m = .disabled := ModelState.duty_eq_disabled.mpr out
    rw [duty]
    decide
  · have trips : (s.model m).trip.state = .faulted := by
      cases state : (s.model m).state <;> simp_all [Model.trip, Model.dropHold, Model.dropCue]
    have duty : (s.model m).trip.state.duty = .faulted := ModelState.duty_eq_faulted.mpr trips
    refine (changeModel_in_service h (f := Model.trip) ?_ (fun _ => ?_) fun _ => latched).mono
      (Set.sdiff_subset_sdiff_right (by simp))
    all_goals rw [duty]; decide

end

/-! ### Reports -/

section
variable {s : State} {id : FaultId} {owed : Set Claim}

/-- R114: an entry that is latched trips its model where the latch is new, and owes nothing. -/
theorem latchAndRaise_trueBut (h : s.docket.TrueBut owed) : (latchAndRaise id s).docket.TrueBut owed := by
  have latched : (s.latchedAt id).docket.TrueBut (owed ∪ {c | ∃ m, id.tripModel = some m ∧ c = .tripped m}) := by
    rw [State.latchedAt, modMarks_docket]
    exact h.latch id
  have free (none : id.tripModel = none) : (s.latchedAt id).docket.TrueBut owed := latched.mono (by simp [none])
  cases id with
  | model k m =>
    rw [latchModel_eq, raise_docket]
    by_cases trips : k.trips = true
    · by_cases old : (s.marks (.model k m)).latched = true
      · have same : (s.latchedAt (.model k m)).docket = s.docket := by
          rw [State.latchedAt, modMarks_docket]
          have marks : { s.marks (.model k m) with latched := true } = s.marks (.model k m) := by rw [← old]
          simp [marks, Docket.mark, State.docket]
        simpa [old, same] using h
      · rw [if_pos (by simp [trips, old])]
        refine (tripModel_trueBut latched ⟨k, trips, ?_⟩).mono ?_
        · simp [State.docket, State.latchedAt]
        · simp [FaultId.tripModel, trips]
    · rw [if_neg (by simp [trips])]
      exact free (by simp [FaultId.tripModel, trips])
  | _ => simpa [latchAndRaise, FaultId.tripModel, State.latchedAt] using free rfl

/-- R112, R114: a report pays what its entry owes, where it is what the source says. -/
theorem report_trueBut {v : Bool} (h : s.docket.TrueBut owed) (told : s.docket.Says id v) :
    (report id v s).docket.TrueBut (owed \ Docket.ofEntry id) := by
  have sensed : (s.sensed id v).docket.TrueBut (owed \ Docket.ofEntry id) := by
    rw [State.sensed, modMarks_docket]
    exact h.mark rfl rfl told
  rw [report_eq]
  split
  · exact latchAndRaise_trueBut sensed
  · exact sensed

theorem report_sound {v : Bool} (h : s.Sound) (told : s.docket.Says id v) : (report id v s).Sound :=
  (report_trueBut h told).mono Set.sdiff_subset

/-- The source of a report has just changed: the entry owes what the report pays. -/
theorem report_sound_of_owed {v : Bool} (h : s.docket.TrueBut (Docket.ofEntry id)) (told : s.docket.Says id v) :
    (report id v s).Sound := (report_trueBut h told).mono (by simp)

theorem driveReport_sound {m : ModelId} (h : s.Sound) : (driveReport m s).Sound := latchAndRaise_trueBut h

theorem quench_sound {k : ModelKind} {m : ModelId} (h : s.Sound) : (quench (.model k m) s).Sound := by
  rw [State.Sound, quench_docket]
  exact h.quenchModel

end

theorem State.Sound.of_docket {s t : State} (h : s.Sound) (same : t.docket = s.docket) : t.Sound := by
  rw [State.Sound, same]; exact h

theorem sound_ite {c : Prop} [Decidable c] {s t : State} (hs : s.Sound) (ht : t.Sound) :
    (if c then s else t).Sound := by
  split
  · exact hs
  · exact ht

end Sys2Proof.Machine

/-! ## The fault table stays true: models, zones and modes (O58) -/

namespace Sys2Proof.Machine

/-! ### Changes that leave a model's duty -/

theorem Model.cut_duty (x : Model) : x.cut.state.duty = x.state.duty := by
  unfold Model.cut
  cases state : x.state
  case holding =>
    dsimp only
    split
    · exact congrArg ModelState.duty state
    · rfl
  all_goals simp [state, ModelState.duty]

theorem Model.pause_duty (x : Model) : x.pause.state.duty = x.state.duty := by
  unfold Model.pause
  cases state : x.state <;> dsimp only
  case running => rfl
  case holding =>
    split
    · rfl
    · rw [state]
  all_goals rw [state]

theorem Model.resumeEdge_duty (x : Model) : x.resumeEdge.state.duty = x.state.duty := by
  unfold Model.resumeEdge
  split
  · rename_i held
    dsimp only
    split
    · rfl
    · rw [held.1]; rfl
  · rfl

theorem Model.zoneHold_duty (x : Model) : x.zoneHold.state.duty = x.state.duty := by
  unfold Model.zoneHold
  cases state : x.state <;> simp [state, ModelState.duty]

theorem Model.zoneRelease_duty (g : GalleryMode) (x : Model) : (x.zoneRelease g).state.duty = x.state.duty := by
  unfold Model.zoneRelease
  split
  · rename_i held
    dsimp only
    split
    · rfl
    · split
      · split
        · rw [held]; rfl
        · exact Model.cut_duty _
      all_goals rw [held]; rfl
  · rfl

theorem Model.stop_duty (x : Model) : x.stop.state.duty = x.state.duty := by
  unfold Model.stop
  cases state : x.state <;> simp [state, ModelState.duty]

section
variable {s : State} {m : ModelId} (h : s.Sound)
include h

theorem cutModel_sound : (cutModel m s).Sound := changeModel_sound h (Model.cut_duty _)

theorem pauseModel_sound : (pauseModel m s).Sound := changeModel_sound h (Model.pause_duty _)

theorem resumeModel_sound : (resumeModel m s).Sound := changeModel_sound h (Model.resumeEdge_duty _)

theorem pauseWindowEnds_sound : (pauseWindowEnds m s).Sound := by
  refine sound_ite (changeModel_sound h ?_) h
  rw [Model.cut_duty]

theorem holdModel_sound : (holdModel m s).Sound := changeModel_sound h (Model.zoneHold_duty _)

theorem stopModel_sound : (stopModel m s).Sound := changeModel_sound h (Model.stop_duty _)

/-- A model in service has no trip-class latch. -/
theorem State.Sound.free_of_serving (serving : (s.model m).state.duty = .serving) : ¬ s.docket.TripLatched m :=
  fun latched => h (.tripped m) (Set.notMem_empty _) latched serving

/-- A change between two states in service. -/
theorem changeModel_sound_in_service {f : Model → Model} (before : (s.model m).state.duty = .serving)
    (after : (f (s.model m)).state.duty = .serving) : (changeModel m f s).Sound :=
  changeModel_sound h (after.trans before.symm)

/-! ### Reseats (R14, R16, R20) -/

end

theorem goHome_duty (x : Model) (occupied : Bool) : (x.goHome occupied).state.duty = .serving := by
  unfold Model.goHome; split <;> rfl

/-- R14: a reseat brings a model into service; it owes no cause then. -/
theorem reseat_trueBut {s : State} {m : ModelId} {owed : Set Claim} (h : s.docket.TrueBut owed)
    (free : ¬ s.docket.TripLatched m) : (reseat m s).docket.TrueBut (owed \ {.cause m}) := by
  unfold reseat
  split
  · exact changeModel_serves h rfl free
  · rw [quench_docket]
    exact (changeModel_serves h (goHome_duty _ _) free).quenchModel

theorem resumeAll_sound {s : State} (h : s.Sound) : (resumeAll s).Sound := by
  refine forEach_invariant (fun m t good => ?_) allModels h
  split
  · rename_i stopped
    exact (reseat_trueBut good (good.free_of_serving (by rw [stopped]; rfl))).mono Set.sdiff_subset
  · exact good

/-- R18: the trip release of a model without a trip-class latch pays what it owes. -/
theorem releaseTrip_trueBut {s : State} {m : ModelId} {owed : Set Claim} (h : s.docket.TrueBut owed)
    (free : ¬ s.docket.TripLatched m) : (releaseTrip m s).docket.TrueBut (owed \ {.cause m}) := by
  unfold releaseTrip
  split
  · split
    · exact changeModel_serves h rfl free
    · exact reseat_trueBut h free
  · rename_i released
    refine h.paid fun c owes spared => ?_
    obtain rfl : c = .cause m := by_contra fun other => spared ⟨owes, other⟩
    exact fun faulted => absurd (ModelState.duty_eq_faulted.mp faulted) released

theorem firstFeedback_sound {s : State} {m : ModelId} (p : Int) (h : s.Sound)
    (enabling : (s.model m).state = .enabling) : (firstFeedback m p s).Sound := by
  refine quench_sound (changeModel_sound_in_service h (by rw [enabling]; rfl) ?_)
  dsimp only
  split
  · rfl
  · exact goHome_duty _ _

/-! ### Starts (R6, R56) -/

section
variable {s : State} {m : ModelId} (h : s.Sound)
include h

theorem startRequest_sound (c : CueId) (o : Owner) (paused : Bool) : (startRequest m c o paused s).1.Sound := by
  rw [startRequest_eq]
  dsimp only
  cases verdict : s.verdict m c o
  case ok =>
    refine changeModel_sound_in_service h (by rw [(verdict_ok verdict).1]; rfl) ?_
    dsimp only
    split <;> rfl
  case faultLatched => exact driveReport_sound h
  all_goals exact h

theorem serveEntry_sound (c : CueId) : (serveEntry m c s).1.Sound := by
  have decided := startRequest_sound h (m := m) c .control false
  unfold serveEntry
  split <;> rename_i e <;> rw [e] at decided
  · exact decided.of_docket (removeEntry_docket _ m)
  · exact decided.of_docket ((raise_docket _ _).trans (removeEntry_docket _ m))
  all_goals exact decided

theorem becomeFree_sound : (becomeFree m s).Sound := by
  unfold becomeFree
  split
  · exact h.of_docket (sendFreeNotice_docket s m)
  · rename_i entry _
    have served := serveEntry_sound h (m := m) entry.cue
    split <;> rename_i e <;> rw [e] at served
    · exact served
    · exact served.of_docket (sendFreeNotice_docket _ m)

theorem freeIfStartable_sound : (freeIfStartable m s).Sound := sound_ite (becomeFree_sound h) h

theorem freeAll_sound : (freeAll s).Sound := forEach_invariant (fun _ _ good => freeIfStartable_sound good) allModels h

/-! ### Zones (R11, R12, R91, R92) -/

theorem releaseModel_sound : (releaseModel m s).Sound :=
  sound_ite (freeIfStartable_sound h) (changeModel_sound h (Model.zoneRelease_duty _ _))

theorem updateMark_sound : (updateMark m s).Sound := by
  unfold updateMark
  dsimp only
  refine sound_ite h (sound_ite h ?_)
  have marked : (s.modWatch m fun w => { w with maskOccupied := s.maskOccupied (s.model m).config.zoneMask }).Sound :=
    h.of_docket (modWatch_docket s rfl)
  exact sound_ite (holdModel_sound marked) (releaseModel_sound marked)

theorem setZone_sound (z : ZoneId) (new : Zone) : (setZone z new s).Sound := by
  have zoned : (s.onSup fun q => { q with zones := tput q.zones z new }).Sound := h.of_docket rfl
  exact sound_ite zoned
    (forEach_invariant (fun m t good => sound_ite (updateMark_sound good) good) allModels zoned)

theorem reviewZone_sound (z : ZoneId) : (reviewZone z s).Sound := by
  unfold reviewZone
  dsimp only
  refine sound_ite (sound_ite h (setZone_sound h _ _)) ?_
  split
  · exact setZone_sound h _ _
  · exact setZone_sound h _ _
  · exact sound_ite (setZone_sound h _ _) (setZone_sound h _ _)
  all_goals exact h

theorem reviewZones_sound : (reviewZones s).Sound :=
  forEach_invariant (Good := State.Sound) (fun z _ good => reviewZone_sound good z) allZones h

theorem settleEnds_sound (z : ZoneId) : (settleEnds z s).Sound := sound_ite (setZone_sound h _ _) h

/-! ### Commits, entry into IDLE and the sample -/

theorem applyFields_sound (c : ModelConfig) : (applyFields m c s).Sound := by
  have written : (s.modModel m fun x => { x with config := c, staged := none, run := 0 }).Sound :=
    h.of_docket (modModel_docket s rfl)
  exact (quench_sound written).of_docket (trimList_docket _ _ _)

theorem deferredCommit_sound : (deferredCommit m s).Sound := by
  unfold deferredCommit
  dsimp only
  refine sound_ite ?_ h
  have taken : (s.modModel m fun x => { x with commitPending := false }).Sound := h.of_docket (modModel_docket s rfl)
  split
  · exact taken
  · exact sound_ite ((applyFields_sound taken _).of_docket (modWatch_docket _ rfl)) (taken.of_docket (raise_docket _ _))

theorem enterIdle_sound (service : (s.model m).state.duty = .serving) : (enterIdle m s).Sound :=
  freeIfStartable_sound (deferredCommit_sound (changeModel_sound_in_service h service rfl))

theorem cueEnds_sound (c : CueId) (service : (s.model m).state.duty = .serving) : (cueEnds m c s).Sound := by
  unfold cueEnds
  split
  · exact enterIdle_sound h service
  all_goals exact changeModel_sound_in_service h service rfl

theorem sampleModel_sound : (sampleModel m s).1.Sound := by
  have repeated : (repeatSetpoint m s).Sound := h.of_docket (repeatSetpoint_docket s m)
  cases state : (s.model m).state
  case disabled => rw [sampleModel_of_out (.inl state)]; exact h
  case enabling => rw [sampleModel_of_out (.inr state)]; exact h
  case returning =>
    have recorded : (s.modModel m fun y => y.record (s.model m).returnSample).Sound :=
      h.of_docket (modModel_docket s rfl)
    rw [sampleModel_of_returning state]
    exact sound_ite (enterIdle_sound recorded (by simp [Model.record, state, ModelState.duty])) recorded
  case running =>
    cases place : (s.model m).position with
    | none => rw [sampleModel_of_lost state place]; exact repeated
    | some pos =>
      have recorded : (s.modModel m fun y => y.played (s.playSample (s.model m) pos)).Sound :=
        h.of_docket (modModel_docket s rfl)
      rw [sampleModel_of_running state place]
      exact sound_ite (cueEnds_sound recorded _ (by simp [Model.played, Model.record, state, ModelState.duty])) recorded
  all_goals
    rw [sampleModel_of_still (by simp [state])]
    exact repeated

theorem sampleExpiry_sound : (sampleExpiry s).Sound := by
  unfold sampleExpiry
  dsimp only
  refine State.Sound.of_docket ?_ (forEach_keeps State.docket _ (fun n t => fillSlot_docket t _ n) _ _)
  rw [sampleModels_state]
  exact forEach_invariant (fun m _ good => sampleModel_sound good) allModels (h.of_docket rfl)

/-! ### Gallery modes -/

theorem cutAllInPlay_sound : (cutAllInPlay s).Sound :=
  forEach_invariant (fun _ _ good => sound_ite (cutModel_sound good) good) allModels h

theorem cutVisitors_sound : (cutVisitors s).Sound := by
  refine forEach_invariant (fun m t good => ?_) allModels h
  split
  · exact cutModel_sound good
  all_goals exact good

theorem relaxFollowing_sound : (relaxFollowing s).Sound :=
  forEach_invariant (fun _ t good => sound_ite (quench_sound (good.of_docket (modModel_docket t rfl))) good) allModels h

theorem enterClosed_sound : (enterClosed s).Sound := by
  have cut : (cutAllInPlay (setMode .closed s)).Sound := cutAllInPlay_sound (h.of_docket rfl)
  exact (relaxFollowing_sound (cut.of_docket (flushAll_docket _))).of_docket (by simp [enterClosed])

theorem enterService_sound : (enterService s).Sound := by
  have cut : (cutVisitors (setMode .service s)).Sound := cutVisitors_sound (h.of_docket rfl)
  exact (freeAll_sound (cut.of_docket (flushAll_docket _))).of_docket (by simp [enterService])

theorem enterOpen_sound : (enterOpen s).Sound := by
  have opened : (stopWakeTimer (setMode .opened s)).Sound := h.of_docket rfl
  exact (freeAll_sound opened).of_docket (by simp [enterOpen])

theorem enterDoze_sound : (enterDoze s).Sound := by
  have cut : (cutAllInPlay (setMode .doze s)).Sound := cutAllInPlay_sound (h.of_docket rfl)
  exact (relaxFollowing_sound cut).of_docket (by simp [enterDoze])

theorem endWakeTest_sound : (endWakeTest s).Sound := sound_ite (enterOpen_sound h) h

omit h in
theorem withEntryTest_sound {taking : State → State} (taken : (taking s).Sound) : (withEntryTest taking s).Sound :=
  sound_ite (endWakeTest_sound taken) taken

theorem requestWake_sound : (requestWake s).Sound := withEntryTest_sound (h.of_docket (sendWake_docket s))

theorem dozeEnds_sound : (dozeEnds s).Sound := sound_ite (enterDoze_sound h) h

theorem wakeLimitEnds_sound : (wakeLimitEnds s).Sound := by
  have stopped : (stopWakeTimer s).Sound := h.of_docket rfl
  exact sound_ite (enterOpen_sound (forEach_invariant (fun _ _ good => driveReport_sound good) _ stopped)) h

theorem modeCommand_sound (g : GalleryMode) : (modeCommand g s).1.Sound := by
  cases g <;> dsimp only [modeCommand]
  case closed => exact enterClosed_sound h
  case service => exact enterService_sound h
  case doze =>
    split <;> dsimp only
    · exact enterDoze_sound h
    · exact h
  case opened =>
    split <;> dsimp only
    · exact (enterOpen_sound h).of_docket (quietTest_docket _ _)
    · exact enterOpen_sound h
    · exact enterOpen_sound h
    · exact requestWake_sound h
    · exact h
  case waking => exact h

theorem modeArgs_sound (args : List Byte) : (modeArgs args s).1.Sound := by
  unfold modeArgs
  split
  · split
    · exact modeCommand_sound h _
    · exact h
  · exact h

/-! ### The schedule list -/

omit h in
theorem lateExpires_docket (m : ModelId) (s : State) : (lateExpires m s).docket = s.docket := by
  unfold lateExpires; split <;> simp

theorem becomeDue_sound : (becomeDue m s).Sound := by
  unfold becomeDue
  split
  · exact h
  · rename_i e _
    have marked : (quietTest false (s.onMotion fun q => { q with schedule := markDue e q.schedule })).Sound :=
      h.of_docket (by simp)
    have missed {t : State} (good : t.Sound) : (missAtOnce e t).Sound :=
      sound_ite (good.of_docket (lateExpires_docket _ _)) good
    exact sound_ite (missed (serveEntry_sound marked e.cue))
      (withEntryTest_sound (missed (marked.of_docket (sendWake_docket _))))

theorem nextDue_sound : (nextDue s).Sound := by
  unfold nextDue
  split
  · exact becomeDue_sound h
  · exact h

theorem syncClock_sound (v : Clock) : (syncClock v s).Sound :=
  forEach_invariant (fun _ _ good => becomeDue_sound good) _ (h.of_docket rfl)

theorem scheduleStart_sound (c : CueId) (start : Clock) (late : Nat) : (scheduleStart m c start late s).1.Sound := by
  unfold scheduleStart
  split
  · exact h
  · dsimp only
    split
    · exact h
    · have cleared (p : Prop) [Decidable p] : (if p then removeEntry m s else s).Sound :=
        sound_ite (h.of_docket (removeEntry_docket s m)) h
      have listed (l : List ScheduleEntry → List ScheduleEntry) {t : State} (good : t.Sound) :
        (t.onMotion fun q => { q with schedule := l q.schedule }).Sound := good.of_docket rfl
      exact sound_ite (becomeDue_sound (listed _ (cleared _))) (listed _ (cleared _))

end

end Sys2Proof.Machine

/-! ## The fault table stays true: buttons, nodes and drives (O58) -/

namespace Sys2Proof.Machine

/-! ### SUSPECT marks (R63, R71) -/

/-- Other marks in the button map: they owe what is claimed of the keys whose marks are not as they were. -/
theorem State.Sound.of_buttons {s t : State} {owed : Set Claim} (h : s.Sound)
    (same : t.docket = { s.docket with buttons := t.docket.buttons }) (apart : t.KeysApart)
    (others : ∀ k, .source (.buttonStuck k) ∉ owed → ∀ i,
      (t.docket.buttons i = some (k, true) ↔ s.docket.buttons i = some (k, true))) : t.docket.TrueBut owed := by
  intro c spared
  have before : s.docket.Holds c := h c (Set.notMem_empty c)
  match c with
  | .apart => exact State.docket_apart.mpr apart
  | .source (.buttonStuck k) =>
    have marks : t.marks = s.marks := congrArg Docket.marks same
    have stuck : (s.marks (.buttonStuck k)).underlying = true ↔ ∃ i, s.docket.buttons i = some (k, true) := before
    show (t.marks (.buttonStuck k)).underlying = true ↔ ∃ i, t.docket.buttons i = some (k, true)
    simp only [others k spared, marks, stuck]
  | .source (.bay .stopKey) | .source (.bay .ringOpen) | .source (.model _ _) | .source (.nodeSilent _)
  | .source (.bay .spineSilent) | .source (.bay .bayCheck) | .watched | .follows _ | .unwatched _ | .tripped _
  | .cause _ => rw [same]; exact before

section
variable {s : State} {i : EntryIx} {b : Button}

/-- An entry keeps its key and takes another SUSPECT mark. -/
theorem modEntry_owes (h : s.Sound) (entry : s.entry i = some b) {f : Button → Button} (key : ∀ b, (f b).key = b.key) :
    (s.modEntry i f).docket.TrueBut (Docket.ofEntry (.buttonStuck b.key)) := by
  have apart : s.KeysApart := (State.sound_iff.mp h).1
  refine h.of_buttons rfl (keysApart_of_board (State.modEntry_board s i key) apart) fun k spared j => ?_
  have other : b.key ≠ k := fun own => spared (by simp [Docket.ofEntry, own])
  simp only [State.docket, State.modEntry_entry]
  split
  · rename_i own
    simp [own, entry, key, other]
  · rfl

/-- R62, R71: the SUSPECT mark of an entry is that of its key. -/
theorem suspect_modEntry_iff (apart : s.KeysApart) (entry : s.entry i = some b) {f : Button → Button}
    (key : ∀ b, (f b).key = b.key) :
    (∃ j, (s.modEntry i f).docket.buttons j = some (b.key, true)) ↔ (f b).suspect = true := by
  simp only [State.docket, State.modEntry_entry]
  constructor
  · rintro ⟨j, stuck⟩
    split at stuck
    · simpa [entry, key] using stuck
    · rename_i other
      obtain ⟨c, stored, pair⟩ := Option.map_eq_some_iff.mp stuck
      exact absurd (apart j i c b stored entry (congrArg Prod.fst pair)) other
  · intro suspect
    exact ⟨i, by simp [entry, key, suspect]⟩

/-- R71: the BUTTON_STUCK condition is reported as the SUSPECT mark now is. -/
theorem reportStuck_sound (h : s.Sound) (entry : s.entry i = some b) {f : Button → Button}
    (key : ∀ b, (f b).key = b.key) {v : Bool} (suspect : (f b).suspect = v) :
    (report (.buttonStuck b.key) v (s.modEntry i f)).Sound := by
  refine report_sound_of_owed (modEntry_owes h entry key) ?_
  have marked := suspect_modEntry_iff (State.sound_iff.mp h).1 entry key
  show v = true ↔ _
  rw [marked, suspect]

theorem clearSuspect_sound (h : s.Sound) (entry : s.entry i = some b) : (clearSuspect i b.key s).Sound :=
  reportStuck_sound h entry (f := fun b => { b with suspect := false }) (fun _ => rfl) rfl

end

theorem stuckExpires_sound {s : State} (k : Key) (h : s.Sound) : (stuckExpires k s).Sound := by
  unfold stuckExpires
  split
  · exact h
  · rename_i i mapped
    split
    · exact h
    · rename_i b entry
      refine sound_ite ?_ h
      have stuck := reportStuck_sound h entry (f := fun b => { b with stuckTimer := none, suspect := true })
        (fun _ => rfl) rfl
      rw [key_of_entryOf mapped entry] at stuck
      exact stuck.of_docket (flushKey_docket _ _ _)

/-! ### Presses and PANEL frames -/

section
variable {s : State} (h : s.Sound)
include h

theorem serveList_sound (m : ModelId) (fuel : Nat) : (serveList m fuel s).Sound := by
  induction fuel generalizing s with
  | zero => exact h
  | succ fuel ih =>
    unfold serveList
    split
    · exact h
    · rename_i r rest _
      have decided := startRequest_sound h (m := m) r.cue (.button r.key) (s.startsPaused r.key)
      split <;> rename_i e <;> rw [e] at decided
      · exact decided.of_docket (by simp)
      · exact ih (decided.of_docket (by simp))
      all_goals exact decided

theorem takeFreeNotice_sound (m : ModelId) : (takeFreeNotice m s).Sound := by
  have taken : (s.onMotion fun q => { q with freeNotices := q.freeNotices.erase m }).Sound := h.of_docket rfl
  exact sound_ite (serveList_sound taken m _) h

theorem pressStart_sound (i : EntryIx) (b : Button) : (pressStart i b s).Sound := by
  have decided := startRequest_sound h (m := b.modelId) b.cueId (.button b.key) false
  unfold pressStart
  split <;> rename_i e <;> rw [e] at decided <;> exact decided.of_docket (by simp)

theorem press_sound (i : EntryIx) (b : Button) : (press i b s).Sound := by
  unfold press
  dsimp only
  refine sound_ite h ?_
  have plays : (if s.ownsCue b.key b.modelId && b.mode == .toggle then beginLockout i (cutModel b.modelId s)
      else if s.ownsCue b.key b.modelId && b.mode == .hold then
        (if (s.model b.modelId).holdPause then resumeModel b.modelId s else s)
      else if s.isWaiting b.key b.modelId then s else pressStart i b s).Sound :=
    sound_ite ((cutModel_sound h).of_docket (beginLockout_docket _ _))
      (sound_ite (sound_ite (resumeModel_sound h) h) (sound_ite h (pressStart_sound h i b)))
  split
  case h_4 => exact plays
  case h_5 => exact plays
  all_goals exact h

omit h in
theorem callEdge_docket (i : EntryIx) (b : Button) (s : State) : (callEdge i b s).docket = s.docket := by
  unfold callEdge callPress
  (repeat' split) <;> simp

theorem edgeCases_sound (i : EntryIx) (b : Button) (e : Edge) : (edgeCases i b e s).Sound := by
  unfold edgeCases
  split
  · exact sound_ite (pauseModel_sound h) h
  · exact press_sound h i b
  · exact sound_ite (h.of_docket (callEdge_docket i b s)) h
  all_goals exact sound_ite (press_sound h i b) h

theorem takeEdge_sound (i : EntryIx) (e : Edge) : (takeEdge i e s).Sound := by
  have kept : (stuckBookkeeping i e s).Sound := h.of_docket (stuckBookkeeping_docket s i e)
  unfold takeEdge
  dsimp only
  split
  · exact kept
  · rename_i b entry
    split
    · split
      · exact clearSuspect_sound kept entry
      · exact kept
    · split
      · exact edgeCases_sound (kept.of_docket (sendWake_docket _)) i b _
      · exact edgeCases_sound kept i b _

theorem panelButton_sound (n : NodeId) (d : BitVec 16) (b : ButtonIx) : (panelButton n d b s).Sound := by
  unfold panelButton
  refine sound_ite h ?_
  have recorded : (recordButton ⟨n, b⟩ (d.getLsbD b.val) s).Sound := h.of_docket rfl
  dsimp only
  split
  · exact (takeEdge_sound recorded _ _).of_docket (deriveLamps_docket _)
  · exact recorded

theorem takePanel_sound (n : NodeId) (d : BitVec 16) (hello : Bool) : (takePanel n d hello s).Sound := by
  have taken : (withEntryTest (forEach allButtons (panelButton n d)) s).Sound := withEntryTest_sound
    (forEach_invariant (Good := State.Sound) (fun b _ good => panelButton_sound good n d b) allButtons h)
  exact sound_ite (sound_ite (taken.of_docket (markDirty_docket _ n)) taken) h

/-- R61: a button that is let go without an edge. -/
theorem dropButton_sound (k : Key) : (dropButton k s).Sound := by
  unfold dropButton
  split
  · exact h
  · rename_i i mapped
    have letGo : (s.modEntry i fun b => { b with stuckTimer := none, downSince := none }).Sound :=
      h.of_docket (modEntry_docket s (fun _ => rfl) fun _ => rfl)
    dsimp only
    split
    · exact letGo
    · rename_i b entry
      have key : b.key = k := by
        refine key_of_entryOf ?_ entry
        rw [entryOf_of_board (State.modEntry_board s i)]
        exact mapped
      have cleared := sound_ite (c := b.suspect = true) (key ▸ clearSuspect_sound letGo entry) letGo
      exact sound_ite (pauseModel_sound cleared) cleared

theorem emptyRecorded_sound (n : NodeId) : (emptyRecorded n s).Sound := by
  have emptied : (s.onPress fun q => { q with recorded := tput q.recorded n 0 }).Sound := h.of_docket rfl
  exact forEach_invariant (Good := State.Sound) (fun _ _ good => dropButton_sound good _) _ emptied

/-! ### Map entries (R62, R63) -/

theorem storeButton_sound {i : EntryIx} {new : Option Button} (free : s.KeyFree i new) :
    (storeButton i new s).Sound := by
  have apart := replaced_keysApart (State.sound_iff.mp h).1 free
  have fresh (k : Key) : (new.map (freshButton · s)).map (fun b => (b.key, b.suspect)) ≠ some (k, true) := by
    cases new with
    | none => simp
    | some b =>
      have calm : (freshButton b s).suspect = false := by unfold freshButton; split <;> rfl
      simp [calm]
  have marks (k : Key) (other : ∀ e, s.entry i = some e → e.key ≠ k) (j : EntryIx) :
      (s.replaced i new).docket.buttons j = some (k, true) ↔ s.docket.buttons j = some (k, true) := by
    simp only [State.docket, replaced_entry]
    split
    · rename_i own
      refine iff_of_false (fresh k) fun stuck => ?_
      obtain ⟨e, entry, pair⟩ := Option.map_eq_some_iff.mp stuck
      exact other e (own ▸ entry) (congrArg Prod.fst pair)
    · rfl
  cases entry : s.entry i with
  | none =>
    rw [storeButton_of_empty entry]
    exact h.of_buttons rfl apart fun k _ => marks k fun e found => by rw [entry] at found; cases found
  | some e =>
    have owes : (s.replaced i new).docket.TrueBut (Docket.ofEntry (.buttonStuck e.key)) :=
      h.of_buttons rfl apart fun k spared => marks k fun x found own => spared (by
        obtain rfl : e = x := Option.some.inj (entry.symm.trans found)
        simp [Docket.ofEntry, own])
    have told : (s.replaced i new).docket.Says (.buttonStuck e.key) false := by
      refine iff_of_false (by decide) fun ⟨j, stuck⟩ => ?_
      simp only [State.docket, replaced_entry] at stuck
      split at stuck
      · exact fresh _ stuck
      · rename_i other
        obtain ⟨c, stored, pair⟩ := Option.map_eq_some_iff.mp stuck
        exact other ((State.sound_iff.mp h).1 j i c e stored entry (congrArg Prod.fst pair))
    have quenched : (quench (.buttonStuck e.key) (s.replaced i new)).Sound := by
      rw [State.Sound, quench_docket]
      exact (owes.quench told).mono (by simp)
    rw [storeButton_of_entry entry]
    exact sound_ite (quenched.of_docket (setLamp_docket _ _ _)) quenched

theorem writeButton_sound (i : EntryIx) (r : List Byte) : (writeButton i r s).1.Sound := by
  unfold writeButton
  split
  · exact h
  · split
    · exact h
    · rename_i unique
      split
      · exact h
      · exact storeButton_sound h (keyFree_of_no_duplicate unique)

/-! ### Silence and hearing -/

omit h in
/-- R103: the drive silence timer of a model is set; that of a DISABLED one is stopped. -/
theorem modSilence_trueBut {m : ModelId} {f : Watch → Watch} {owed : Set Claim} (h : s.docket.TrueBut owed)
    (safe : (s.model m).state = .disabled → (f (s.watch m)).driveSilence = none) :
    (s.modWatch m f).docket.TrueBut (owed \ {.unwatched m}) := by
  have unwatched : (s.modWatch m f).docket =
      { s.docket with unwatched := Function.update s.docket.unwatched m (f (s.watch m)).driveSilence.isNone } := by
    have timers : (fun k => ((s.modWatch m f).watch k).driveSilence.isNone) =
        Function.update s.docket.unwatched m (f (s.watch m)).driveSilence.isNone := by
      funext k
      rw [State.modWatch_watch, Function.update_apply]
      split <;> rfl
    rw [← timers]
    rfl
  rw [unwatched]
  intro c spared
  have before (other : c ≠ .unwatched m) : s.docket.Holds c := h c fun owes => spared ⟨owes, other⟩
  match c with
  | .unwatched k =>
    intro out
    by_cases own : k = m
    · subst own
      simp [safe (ModelState.duty_eq_disabled.mp out)]
    · simpa [own] using before (by simp [own]) out
  | .source (.buttonStuck _) | .source (.bay .stopKey) | .source (.bay .ringOpen) | .source (.model _ _)
  | .source (.nodeSilent _) | .source (.bay .spineSilent) | .source (.bay .bayCheck) | .apart | .watched | .follows _
  | .tripped _ | .cause _ => exact before (by simp)

theorem modSilence_sound {m : ModelId} (t : Timer) (safe : (s.model m).state = .disabled → t = none) :
    (s.modWatch m fun w => { w with driveSilence := t }).Sound := (modSilence_trueBut h safe).mono Set.sdiff_subset

/-- A report to a kind of a model in service, or of a condition that has ended. -/
theorem reportModel_sound {k : ModelKind} {m : ModelId} {v : Bool}
    (service : v = true → (s.model m).state ≠ .disabled) : (report (.model k m) v s).Sound :=
  report_sound h fun on out => service on (ModelState.duty_eq_disabled.mp out)

theorem reportNode_sound (n : NodeId) (v : Bool) : (report (.nodeSilent n) v s).Sound := report_sound h trivial

end

/-- A report keeps a model in service. -/
theorem report_service {s : State} {k : ModelKind} {m : ModelId} {v : Bool} (service : (s.model m).state ≠ .disabled) :
    ((report (.model k m) v s).model m).state ≠ .disabled := by
  obtain ⟨_, -, -, judged⟩ := reportModel_judged (m := m) (s := s) k v
  exact judged.service service

/-- R103: the drive silence timers of models in service restart, and their conditions end. -/
theorem drivesHeard_sound (t : Timer) (ms : List ModelId) {s : State} (h : s.Sound)
    (service : ∀ m ∈ ms, (s.model m).state ≠ .disabled) : (forEach ms (fun m u =>
      report (.model .driveSilent m) false (u.modWatch m fun w => { w with driveSilence := t })) s).Sound := by
  induction ms generalizing s with
  | nil => exact h
  | cons m rest ih =>
    obtain ⟨first, others⟩ := List.forall_mem_cons.mp service
    rw [forEach_cons]
    refine ih (reportModel_sound (modSilence_sound h t (absurd · first)) nofun) fun k listed => ?_
    rw [report_false]
    exact others k listed

theorem driveHeard_sound {s : State} (n : NodeId) (h : s.Sound) : (driveHeard n s).Sound := by
  refine drivesHeard_sound _ _ h fun m bound => ?_
  have boundTo : s.boundTo n m = true := (List.mem_filter.mp bound).2
  exact bne_iff_ne.mp (Bool.and_eq_true_iff.mp boundTo).1

theorem nodeHeard_sound {s : State} (n : NodeId) (h : s.Sound) : (nodeHeard n s).Sound := by
  have heard : (report (.nodeSilent n) false (s.modNode n fun e =>
      { e with lastHeard := some s.clock, silence := e.silenceStart })).Sound :=
    reportNode_sound (h.of_docket (modNode_docket s n _)) n _
  have reviewed (c : Prop) [Decidable c] := sound_ite (c := c) (reviewZones_sound heard) heard
  exact sound_ite (driveHeard_sound n (reviewed _)) (reviewed _)

theorem nodeSilenceEnds_sound {s : State} (n : NodeId) (h : s.Sound) : (nodeSilenceEnds n s).Sound := by
  have silent : (report (.nodeSilent n) true (s.modNode n fun e => { e with silence := none })).Sound :=
    reportNode_sound (h.of_docket (modNode_docket s n _)) n _
  have emptied (c : Prop) [Decidable c] := sound_ite (c := c) (emptyRecorded_sound silent n) silent
  refine sound_ite (sound_ite (reviewZones_sound (sound_ite ?_ (emptied _))) (emptied _)) h
  exact (emptied _).of_docket rfl

theorem driveSilenceEnds_sound {s : State} (m : ModelId) (h : s.Sound) : (driveSilenceEnds m s).Sound := by
  unfold driveSilenceEnds
  split
  · rename_i runs
    refine reportModel_sound (modSilence_sound h none fun _ => rfl) fun _ out => ?_
    have unwatched : (s.watch m).driveSilence.isNone = true :=
      h (.unwatched m) (Set.notMem_empty _) (ModelState.duty_eq_disabled.mpr out)
    rw [← Option.not_isSome, runs] at unwatched
    cases unwatched
  · exact h

theorem reportRing_sound {s : State} {v : Bool} (h : s.docket.TrueBut (Docket.ofEntry (.bay .ringOpen)))
    (run : v = decide (s.relay.missRun = 3)) : (reportRing v s).Sound := by
  have reported : (report (.bay .ringOpen) v s).Sound := report_sound_of_owed h run
  exact sound_ite reported (reviewZones_sound reported)

/-- R119: with another miss run, the RING_OPEN entry owes its report. -/
theorem missRun_owes {s t : State} (h : s.Sound) (same : t.docket = { s.docket with missRun := t.relay.missRun }) :
    t.docket.TrueBut (Docket.ofEntry (.bay .ringOpen)) := by
  intro c spared
  have before : s.docket.Holds c := h c (Set.notMem_empty c)
  rw [same]
  match c with
  | .source (.bay .ringOpen) => exact absurd (by simp [Docket.ofEntry]) spared
  | .source (.buttonStuck _) | .source (.bay .stopKey) | .source (.model _ _) | .source (.nodeSilent _)
  | .source (.bay .spineSilent) | .source (.bay .bayCheck) | .apart | .watched | .follows _ | .unwatched _
  | .tripped _ | .cause _ => exact before

theorem ringReturn_sound {s : State} (h : s.Sound) : (ringReturn s).Sound := reportRing_sound (missRun_owes h rfl) rfl

theorem ringMiss_sound {s : State} (h : s.Sound) : (ringMiss s).Sound := by
  unfold ringMiss
  refine sound_ite ?_ h
  dsimp only
  split
  · rename_i open'
    exact reportRing_sound (missRun_owes h rfl) (decide_eq_true open').symm
  · rename_i short
    refine Docket.TrueBut.paid (missRun_owes h (by rfl)) fun c owes _ => ?_
    have before : s.docket.Holds c := h c (Set.notMem_empty c)
    have fresh : bump Config.missRunMax s.relay.missRun ≠ 3 := short
    have early : s.relay.missRun ≠ 3 := fun run => fresh (by rw [run]; rfl)
    obtain rfl | rfl := owes
    · exact before
    · exact (before : _ = decide _).trans ((decide_eq_false early).trans (decide_eq_false fresh).symm)

theorem takePresence_sound {s : State} (n : NodeId) (occupied : BitVec 8) (h : s.Sound) :
    (takePresence n occupied s).Sound := sound_ite (reviewZones_sound (h.of_docket rfl)) h

end Sys2Proof.Machine

/-! ## The fault table stays true: feedback, keys, tables, commands (O58) -/

namespace Sys2Proof.Machine

/-! ### Feedback (R95 to R102) -/

section
variable {s : State} {m : ModelId}

theorem driveReportIf_sound {c : Prop} [Decidable c] (h : s.Sound) : (if c then driveReport m s else s).Sound :=
  sound_ite (driveReport_sound h) h

/-- R95, R114: the checks of a model in service, each of which leaves it in service. -/
theorem checkEntry_sound (position : Int) (load : Nat) (flagged : Bool) (h : s.Sound)
    (service : (s.model m).state ≠ .disabled) : (checkEntry m position load flagged s).Sound := by
  have told {k : ModelKind} {v : Bool} {t : State} (good : t.Sound ∧ (t.model m).state ≠ .disabled) :
      (report (.model k m) v t).Sound ∧ ((report (.model k m) v t).model m).state ≠ .disabled :=
    ⟨reportModel_sound good.1 fun _ => good.2, report_service good.2⟩
  have toldIf (c : Prop) [Decidable c] {k : ModelKind} {v : Bool} {t : State}
      (good : t.Sound ∧ (t.model m).state ≠ .disabled) :
      (if c then report (.model k m) v t else t).Sound ∧
        ((if c then report (.model k m) v t else t).model m).state ≠ .disabled := by
    split
    · exact told good
    · exact good
  have counted (f : Model → Model) (state : ∀ x, (f x).state = x.state) :
      (s.modModel m f).Sound ∧ ((s.modModel m f).model m).state ≠ .disabled :=
    ⟨h.of_docket (modModel_docket s (by rw [state])), by rw [State.modModel_model_self, state]; exact service⟩
  unfold checkEntry
  dsimp only
  exact driveReportIf_sound (told (told (told (toldIf _ (counted _ (by exact fun _ => rfl)))))).1

theorem firstFeedback_service (p : Int) : ((firstFeedback m p s).model m).state.duty = .serving := by
  have model : (firstFeedback m p s).model m = (changeModel m _ s).model m := rfl
  rw [model, changeModel_model_self, Model.settled_state]
  dsimp only
  split
  · rfl
  · exact goHome_duty _ _

theorem takeAxisEntry_sound (n : NodeId) (e : AxisEntry) (h : s.Sound) : (takeAxisEntry n e s).Sound := by
  unfold takeAxisEntry
  split
  · exact h
  · rename_i m found
    have bound := List.find?_some (p := fun m => s.boundTo n m && (s.model m).config.axis == e.axis) found
    have service : (s.model m).state ≠ .disabled :=
      bne_iff_ne.mp (Bool.and_eq_true_iff.mp (Bool.and_eq_true_iff.mp bound).1).1
    have woken (c : Prop) [Decidable c] {t : State} (good : t.Sound) : (if c then t else endWakeTest t).Sound :=
      sound_ite good (endWakeTest_sound good)
    have fed : ((s.modWatch m fun w => { w with energised := isEnergised e.flags }).modModel m fun x =>
        { x with fedBack := some e.position.toInt }).Sound :=
      (h.of_docket (modWatch_docket s rfl)).of_docket (modModel_docket _ rfl)
    refine woken _ ?_
    split
    · rename_i enabling
      have state : (s.model m).state = .enabling := beq_iff_eq.mp enabling
      refine reportModel_sound (firstFeedback_sound _ (fed.of_docket (modModel_docket _ rfl)) ?_) fun _ out => ?_
      · rw [State.modModel_model_self, State.modModel_model_self]
        exact state
      · exact absurd ((congrArg ModelState.duty out).symm.trans (firstFeedback_service _)) (by decide)
    · refine checkEntry_sound _ _ _ fed ?_
      rw [State.modModel_model_self]
      exact service

theorem takeFeedback_sound (n : NodeId) (entries : List AxisEntry) (h : s.Sound) : (takeFeedback n entries s).Sound :=
  sound_ite (forEach_invariant (Good := State.Sound) (fun e _ good => takeAxisEntry_sound n e good) entries h) h

/-! ### Keys -/

/-- R106: with another state of the STOP key, its entry owes its report. -/
theorem stopKey_owes {t : State} (h : s.Sound) (same : t.docket = { s.docket with stop := t.sup.stopAsserted }) :
    t.docket.TrueBut (Docket.ofEntry (.bay .stopKey)) := by
  intro c spared
  have before : s.docket.Holds c := h c (Set.notMem_empty c)
  rw [same]
  match c with
  | .source (.bay .stopKey) => exact absurd (by simp [Docket.ofEntry]) spared
  | .source (.buttonStuck _) | .source (.bay .ringOpen) | .source (.model _ _) | .source (.nodeSilent _)
  | .source (.bay .spineSilent) | .source (.bay .bayCheck) | .apart | .watched | .follows _ | .unwatched _
  | .tripped _ | .cause _ => exact before

/-- R106, R107: the key's entry follows the key. -/
theorem keyed_sound (down : Bool) {t : State} (h : s.Sound)
    (same : t.docket = { s.docket with stop := t.sup.stopAsserted }) (key : t.sup.stopAsserted = down) :
    (report (.bay .stopKey) down t).Sound := report_sound_of_owed (stopKey_owes h same) key.symm

theorem stopAsserts_sound (h : s.Sound) : (stopAsserts s).Sound := by
  have opened : (s.onPins fun p => { p with stopOpen := true }).Sound := h.of_docket rfl
  refine sound_ite opened (forEach_invariant (Good := State.Sound) (fun _ _ good => stopModel_sound good) _ ?_)
  exact keyed_sound true opened rfl rfl

theorem stopReleases_sound (h : s.Sound) : (stopReleases s).Sound := by
  have closed : (s.onPins fun p => { p with stopOpen := false }).Sound := h.of_docket rfl
  exact sound_ite (freeAll_sound (keyed_sound false closed rfl rfl)) closed

theorem ackPressed_docket (s : State) : (ackPressed s).docket = s.docket := by
  unfold ackPressed; dsimp only; split <;> rfl

theorem ackLetGo_docket (s : State) : (ackLetGo s).docket = s.docket := by
  unfold ackLetGo
  dsimp only
  split
  · exact ackFromFloor_docket _
  all_goals rfl

theorem ackHeld_sound (h : s.Sound) : (ackHeld s).Sound := by
  have pressed : (s.onSup fun q => { q with ack := .long, ackTimer := none }).Sound := h.of_docket rfl
  exact sound_ite (sound_ite pressed (resumeAll_sound pressed)) h

theorem holdLimitEnds_sound (h : s.Sound) : (holdLimitEnds m s).Sound := by
  have stopped : (s.modWatch m fun w => { w with holdTimer := none }).Sound := h.of_docket (modWatch_docket s rfl)
  exact sound_ite (cutModel_sound (stopped.of_docket (raise_docket _ _))) h

/-! ### The spine, the bay-check window and the receivers -/

theorem spineHeard_sound (h : s.Sound) : (spineHeard s).Sound := by
  have restarted : (s.onRelay fun q => { q with spineSilence := spineStart s.settings.spineSilence }).Sound :=
    h.of_docket rfl
  exact report_sound restarted trivial

theorem spineSilenceEnds_sound (h : s.Sound) : (spineSilenceEnds s).Sound := by
  have stopped : (s.onRelay fun q => { q with spineSilence := none }).Sound := h.of_docket rfl
  exact sound_ite (report_sound stopped trivial) h

theorem bayError_sound (h : s.Sound) : (bayError s).Sound := by
  have counted : (s.onRelay fun q => { q with windowCount := bump 255 q.windowCount }).Sound := h.of_docket rfl
  exact sound_ite (report_sound counted trivial) counted

theorem windowEnds_sound (h : s.Sound) : (windowEnds s).Sound := by
  have begun : (s.onRelay fun q => { q with windowCount := 0, windowTimer := Config.bayWindowMs }).Sound :=
    h.of_docket rfl
  exact sound_ite (report_sound begun trivial) begun

theorem countFraming_sound (p : Port) (h : s.Sound) : (countFraming p s).Sound := by
  cases p
  · exact bayError_sound (h.of_docket (onBayCounters_docket s _))
  · exact h.of_docket (onSpineCounters_docket s _)

theorem countCheckError_sound (p : Port) (h : s.Sound) : (countCheckError p s).Sound := by
  cases p
  · exact bayError_sound (h.of_docket (onBayCounters_docket s _))
  · exact h.of_docket (onSpineCounters_docket s _)

theorem abandon_sound (p : Port) (next : Receiver) (h : s.Sound) : (abandon p next s).Sound :=
  sound_ite h (countFraming_sound p (h.of_docket (setReceiver_docket s p next)))

/-! ### Routes (R112, R113, R127) -/

theorem mem_allFaults (id : FaultId) : id ∈ allFaults := by
  unfold allFaults
  cases id with
  | model k m => simp [mem_modelKinds, mem_allModels]
  | nodeSilent n => simp [allNodes]
  | buttonStuck k => simp [allNodes, allButtons, List.mem_finRange]
  | bay k => cases k <;> simp

/-- R113: entries that follow their detect enables again, each by a report of what its source last said. -/
theorem redetect_pays (ids : List FaultId) {s : State} (h : s.docket.TrueBut {c | ∃ id ∈ ids, c = .follows id}) :
    (forEach ids (fun id t => report id (t.marks id).underlying t) s).Sound := by
  induction ids generalizing s with
  | nil => exact h.mono (by simp)
  | cons id rest ih =>
    have told : s.docket.Says id (s.marks id).underlying := h (.source id) (by simp)
    rw [forEach_cons]
    refine ih ((report_trueBut h told).mono fun c ⟨⟨i, listed, own⟩, spared⟩ => ?_)
    subst own
    refine ⟨i, (List.mem_cons.mp listed).resolve_left fun own => spared ?_, rfl⟩
    simp [Docket.ofEntry, own]

theorem fillSilent_docket (s : State) : (fillSilent s).docket = s.docket :=
  forEach_keeps State.docket _ (fun _ t => by dsimp only; split <;> rfl) _ s

/-- The docket with another detect enable of one kind. -/
def Docket.reroute (d : Docket) (code : Fin 15) (detect : Bool) : Docket :=
  { d with detect := Function.update d.detect code detect }

/-- R113: under another detect enable, the entries of its kind owe that they follow it. -/
theorem Docket.TrueBut.reroute {d : Docket} {code : Fin 15} {detect : Bool} (h : d.TrueBut ∅)
    (always : alwaysDetected code = true → detect = true) :
    (d.reroute code detect).TrueBut {c | ∃ id, id.kindCode = code ∧ c = .follows id} := by
  intro c spared
  have before : d.Holds c := h c (Set.notMem_empty c)
  have watched (kind : Fin 15) (on : alwaysDetected kind = true) (was : d.detect kind = true) :
      (d.reroute code detect).detect kind = true := by
    by_cases own : kind = code
    · subst own; simp [Docket.reroute, always on]
    · simp [Docket.reroute, own, was]
  match c with
  | .watched => exact ⟨watched 4 rfl before.1, watched 7 rfl before.2⟩
  | .follows id =>
    have other : id.kindCode ≠ code := fun own => spared ⟨id, own, rfl⟩
    simpa [Docket.Holds, Docket.reroute, other] using before
  | .source (.buttonStuck _) | .source (.bay .stopKey) | .source (.bay .ringOpen) | .source (.model _ _)
  | .source (.nodeSilent _) | .source (.bay .spineSilent) | .source (.bay .bayCheck) | .apart | .unwatched _
  | .tripped _ | .cause _ => exact before

theorem setRoute_docket (code : Fin 15) (r : Route) (s : State) :
    (s.onAlert fun u => { u with routes := tput u.routes code r }).docket = s.docket.reroute code r.detect := by
  have detect : (fun c => ((s.onAlert fun u => { u with routes := tput u.routes code r }).route c).detect) =
      Function.update s.docket.detect code r.detect := by
    funext c
    rw [Function.update_apply, State.route, State.onAlert, tget_tput]
    split <;> rfl
  rw [Docket.reroute, ← detect]
  rfl

theorem storeRoute_sound {code : Fin 15} {r : Route} (always : alwaysDetected code = true → r.detect = true)
    (h : s.Sound) : (storeRoute code r s).Sound := by
  have stored := setRoute_docket code r s
  have owes : (s.onAlert fun u => { u with routes := tput u.routes code r }).docket.TrueBut
      {c | ∃ id ∈ allFaults.filter fun id => id.kindCode == code, c = .follows id} := by
    rw [stored]
    exact (h.reroute always).mono fun c ⟨id, own, e⟩ => ⟨id, by simp [mem_allFaults, own], e⟩
  have redetected := redetect_pays _ owes
  unfold storeRoute
  dsimp only
  split
  · rename_i kept
    refine h.of_docket (stored.trans ?_)
    rw [Docket.reroute, kept]
    exact congrArg (fun f => { s.docket with detect := f }) (Function.update_eq_self code s.docket.detect)
  · have filled (c : Prop) [Decidable c] := sound_ite (c := c) (redetected.of_docket (fillSilent_docket _)) redetected
    exact sound_ite (reviewZones_sound (filled _)) (sound_ite (reviewZones_sound redetected) redetected)

theorem writeRoute_sound (code : Fin 15) (record : List Byte) (h : s.Sound) : (writeRoute code record s).1.Sound := by
  unfold writeRoute
  split
  · exact h
  · rename_i r clamped read
    unfold readRoute at read
    obtain ⟨-, -, rfl, -⟩ := stages_ok_iff.mp read
    exact storeRoute_sound (fun always => by simp [always]) h

/-! ### The other tables -/

theorem storeNode_sound (n : NodeId) (f : NodeFields) (h : s.Sound) : (storeNode n f s).Sound := by
  unfold storeNode
  dsimp only
  have told (g : NodeEntry → NodeEntry) : (report (.nodeSilent n) false (s.modNode n g)).Sound :=
    reportNode_sound (h.of_docket (modNode_docket s n g)) n _
  have undone {t : State} (good : t.Sound) : (emptyRecorded n (t.onPress fun q => { q with
      dirty := tput q.dirty n false, refresh := tput q.refresh n none })).Sound :=
    emptyRecorded_sound (good.of_docket (onPress_docket t rfl)) n
  have marked {t : State} (good : t.Sound) : (markDirty n t).Sound := good.of_docket (markDirty_docket t n)
  have filled (z : BitVec 8) {t : State} (good : t.Sound) :
      (t.onSup fun q => { q with reported := tput q.reported n z }).Sound := good.of_docket rfl
  exact reviewZones_sound (filled _ (sound_ite (sound_ite (told _) (marked (told _))) (undone (told _))))

theorem writeNode_sound (n : NodeId) (record : List Byte) (h : s.Sound) : (writeNode n record s).1.Sound := by
  unfold writeNode
  split
  · exact h
  · split
    · exact h
    · dsimp only
      exact storeNode_sound n _ h

theorem writeModel_sound (m : ModelId) (record : List Byte) (h : s.Sound) : (writeModel m record s).1.Sound := by
  unfold writeModel
  split
  · exact h
  · split
    · dsimp only
      exact h.of_docket (modModel_docket s (by rfl))
    · split
      · exact h
      · dsimp only
        exact h.of_docket (modModel_docket s (by rfl))

theorem storeSettings_sound (v : Settings) (h : s.Sound) : (storeSettings v s).Sound := by
  unfold storeSettings
  dsimp only
  have timed (c : Prop) [Decidable c] : (if c then { s with settings := v } else
      ({ s with settings := v } : State).onMotion fun q => { q with sampleTimer := v.samplePeriod }).Sound :=
    sound_ite (h.of_docket rfl) (h.of_docket rfl)
  have watched {t : State} (good : t.Sound) :
      (t.onRelay fun q => { q with spineSilence := spineStart v.spineSilence }).Sound := good.of_docket rfl
  have told {t : State} (good : t.Sound) : (report (.bay .spineSilent) false t).Sound := report_sound good trivial
  exact (sound_ite (told (watched (timed _))) (watched (timed _))).of_docket (quietTest_docket _ _)

theorem writeSettings_sound (record : List Byte) (h : s.Sound) : (writeSettings record s).1.Sound := by
  unfold writeSettings
  split
  · exact h
  · split
    · exact h
    · dsimp only
      exact storeSettings_sound _ h

/-! ### Commands -/

theorem enableModel_sound (m : ModelId) (h : s.Sound) : (enableModel m s).1.Sound := by
  unfold enableModel
  split
  · exact h
  · split
    · exact h
    · split
      · exact h
      · split
        · exact h
        · rename_i latched
          have free : ¬ s.docket.TripLatched m :=
            State.tripLatched_iff.not.mpr ((noTripLatch_iff s m).mp (by simpa using latched))
          have entered : (changeModel m Model.enable s).Sound := (changeModel_serves h rfl free).mono Set.sdiff_subset
          exact endWakeTest_sound (quench_sound (entered.of_docket (modWatch_docket _ rfl)))

/-- R105: on entry into DISABLED the conditions of a model end. -/
theorem quenchModel_trueBut {owed : Set Claim} (h : s.docket.TrueBut owed) :
    (quenchModel m s).docket.TrueBut (owed \ {c | ∃ kind, c = .source (.model kind m)}) := by
  have pays (kinds : List ModelKind) : ∀ {t : State} {owed : Set Claim}, t.docket.TrueBut owed →
      (forEach kinds (fun k t => quench (.model k m) t) t).docket.TrueBut
        (owed \ {c | ∃ kind ∈ kinds, c = .source (.model kind m)}) := by
    induction kinds with
    | nil => exact fun good => good.mono (by simp)
    | cons kind rest ih =>
      intro t owed good
      have quenched : (quench (.model kind m) t).docket.TrueBut (owed \ Docket.ofEntry (.model kind m)) := by
        rw [quench_docket]
        exact good.quench nofun
      refine (ih quenched).mono ?_
      rintro c ⟨⟨owes, other⟩, spared⟩
      refine ⟨owes, ?_⟩
      rintro ⟨k, listed, rfl⟩
      obtain rfl | listed := List.mem_cons.mp listed
      · exact other (by simp [Docket.ofEntry])
      · exact spared ⟨k, listed, rfl⟩
  exact (pays modelKinds h).mono (Set.sdiff_subset_sdiff_right fun c ⟨kind, own⟩ => ⟨kind, mem_modelKinds kind, own⟩)

/-- R21, R103, R105: a model that is taken out of service has no condition and no drive silence timer. -/
theorem disableModel_sound (m : ModelId) (h : s.Sound) : (disableModel m s).1.Sound := by
  unfold disableModel
  split
  · exact h
  · have out := changeModel_trueBut (m := m) (f := Model.disable) h
      (fun _ => (by decide : Duty.disabled ≠ .serving)) nofun
    have quiet := modSilence_trueBut (m := m) (f := fun w => { w with maskOccupied := false, driveSilence := none })
      (quenchModel_trueBut (m := m) out) fun _ => rfl
    have sound : ((quenchModel m (changeModel m Model.disable s)).modWatch m fun w =>
        { w with maskOccupied := false, driveSilence := none }).Sound := by
      refine quiet.mono ?_
      rintro c ⟨⟨owes, source⟩, unwatched⟩
      obtain ⟨none, -⟩ | ⟨-, rfl | kind⟩ := owes
      · exact none
      · exact unwatched rfl
      · exact source kind
    exact endWakeTest_sound (sound.of_docket (removeEntry_docket _ _))

theorem commitModel_sound (m : ModelId) (h : s.Sound) : (commitModel m s).1.Sound := by
  unfold commitModel
  split
  · exact h
  · split
    · exact h
    · split
      · exact updateMark_sound (applyFields_sound h _)
      · exact h
    all_goals exact h.of_docket (modModel_docket s rfl)

theorem startNow_sound (args : List Byte) (h : s.Sound) : (startNow args s).1.Sound := by
  unfold startNow
  split
  · exact h
  · split
    · exact h
    · exact startRequest_sound h _ _ _

theorem startLater_sound (args : List Byte) (h : s.Sound) : (startLater args s).1.Sound := by
  unfold startLater
  split
  · exact h
  · split
    · exact h
    · exact scheduleStart_sound h _ _ _

theorem stopCue_sound (m : ModelId) (h : s.Sound) : (stopCue m s).1.Sound := by
  unfold stopCue
  split
  · exact cutModel_sound h
  · exact h

theorem syncArgs_sound (args : List Byte) (h : s.Sound) : (syncArgs args s).1.Sound := by
  unfold syncArgs
  split
  · exact syncClock_sound h _
  · exact h

/-- R122: the models whose trip-class latches are cleared owe their causes. -/
theorem unlatch_owes (ids : List FaultId) {s : State} {owed : Set Claim} (h : s.docket.TrueBut owed) :
    (forEach ids (fun id t => t.modMarks id fun k => { k with latched := false }) s).docket.TrueBut
      (owed ∪ {c | ∃ id ∈ ids, ∃ m, id.tripModel = some m ∧ c = .cause m}) := by
  induction ids generalizing s owed with
  | nil => exact h.mono (by simp)
  | cons id rest ih =>
    rw [forEach_cons]
    have cleared : (s.modMarks id fun k => { k with latched := false }).docket.TrueBut
        (owed ∪ {c | ∃ m, id.tripModel = some m ∧ c = .cause m}) := by
      rw [modMarks_docket]
      exact h.unlatch id
    refine (ih cleared).mono ?_
    rintro c ((owes | ⟨m, trips, rfl⟩) | ⟨i, listed, rest⟩)
    · exact .inl owes
    · exact .inr ⟨id, List.mem_cons_self, m, trips, rfl⟩
    · exact .inr ⟨i, List.mem_cons_of_mem _ listed, rest⟩

/-- R18, R122: the trip releases pay the causes that their models owe. -/
theorem releaseTrips_sound (ms : List ModelId) {s : State} (h : s.docket.TrueBut {c | ∃ m ∈ ms, c = .cause m}) :
    (forEach ms (fun m t => if t.noTripLatch m then releaseTrip m t else t) s).Sound := by
  induction ms generalizing s with
  | nil => exact h.mono (by simp)
  | cons m rest ih =>
    rw [forEach_cons]
    refine ih ?_
    have paid {t : State} (good : t.docket.TrueBut ({c | ∃ k ∈ m :: rest, c = .cause k} \ {.cause m})) :
        t.docket.TrueBut {c | ∃ k ∈ rest, c = .cause k} := good.mono (by
      rintro c ⟨⟨k, listed, rfl⟩, spared⟩
      exact ⟨k, (List.mem_cons.mp listed).resolve_left fun own => spared (by simp [own]), rfl⟩)
    split
    · rename_i free
      exact paid (releaseTrip_trueBut h (State.tripLatched_iff.not.mpr ((noTripLatch_iff s m).mp free)))
    · rename_i latched
      refine paid (h.paid fun c owes spared => ?_)
      obtain rfl : c = .cause m := by_contra fun other => spared ⟨owes, other⟩
      exact fun _ => State.tripLatched_iff.mpr (not_not.mp (mt (noTripLatch_iff s m).mpr latched))

theorem clearLatches_sound (ids : List FaultId) (h : s.Sound) : (clearLatches ids s).Sound := by
  have noticed (t : State) : (forEach ids clearNotice t).docket = t.docket :=
    forEach_keeps State.docket _ (fun id t => clearNotice_docket t id) ids t
  refine State.Sound.of_docket (releaseTrips_sound _ ((unlatch_owes ids h).mono ?_)) (noticed _)
  rintro c (none | ⟨id, listed, m, trips, rfl⟩)
  · cases none
  · refine ⟨m, List.mem_filter.mpr ⟨mem_allModels m, ?_⟩, rfl⟩
    exact List.any_eq_true.mpr ⟨id, listed, by simp [trips]⟩

theorem clearArgs_sound (args : List Byte) (h : s.Sound) : (clearArgs args s).1.Sound := by
  unfold clearArgs
  split
  · exact h
  · split
    · exact h
    · dsimp only [clearNamed]
      exact clearLatches_sound _ h

theorem resumeArgs_sound (args : List Byte) (h : s.Sound) : (resumeArgs args s).1.Sound := by
  unfold resumeArgs
  split
  · exact h
  · split
    · exact h
    · dsimp only
      exact resumeAll_sound h

end

end Sys2Proof.Machine

/-! ## The fault table stays true: every step (O58) -/

namespace Sys2Proof.Machine

/-! ### Commands and their answers -/

theorem answered_sound {c : Sender} {body : State → State × Answer} {s : State} (done : (body s).1.Sound)
    (h : s.Sound) : (answered c body s).Sound :=
  sound_ite done (sound_ite (h.of_docket (overrun_docket s)) (done.of_docket (pushReply_docket _ _ _ _)))

theorem control_sound {code : Byte} {c : Sender} {body : State → State × Verdict16} {s : State}
    (done : (body s).1.Sound) (h : s.Sound) : (control code c body s).Sound := answered_sound done h

theorem modelCommand_sound {code : Byte} {c : Sender} {args : List Byte} {body : ModelId → State → State × Verdict16}
    {s : State} (done : ∀ m, (body m s).1.Sound) (h : s.Sound) : (modelCommand code c args body s).Sound := by
  refine control_sound ?_ h
  split
  · split
    · exact done _
    · exact h
  · exact h

theorem tableWrite_sound {id : Byte} {c : Sender} {index : Byte} {record : List Byte}
    {body : State → State × Verdict16} {s : State} (done : (body s).1.Sound) (h : s.Sound) :
    (tableWrite id c index record body s).Sound := by
  refine answered_sound ?_ h
  split
  · exact h
  · exact done

section
variable (c : Sender) (i : Byte) (r : List Byte) {s : State} (h : s.Sound)
include h

theorem nodeWrite_sound : (nodeWrite c i r s).Sound := tableWrite_sound (by split; exacts [writeNode_sound _ r h, h]) h

theorem buttonWrite_sound : (buttonWrite c i r s).Sound :=
  tableWrite_sound (by split; exacts [writeButton_sound h _ r, h]) h

theorem cueWrite_sound : (cueWrite c i r s).Sound := by
  have written (k : CueId) : (writeCue k r s).1.docket = s.docket := by unfold writeCue; (repeat' split) <;> rfl
  exact tableWrite_sound (by split; exacts [h.of_docket (written _), h]) h

theorem profileWrite_sound : (profileWrite c i r s).Sound := by
  have written (p : ProfileId) : (writeProfile p r s).1.docket = s.docket := by
    unfold writeProfile; (repeat' split) <;> rfl
  exact tableWrite_sound (by split; exacts [h.of_docket (written _), h]) h

theorem modelWrite_sound : (modelWrite c i r s).Sound :=
  tableWrite_sound (by split; exacts [writeModel_sound _ r h, h]) h

theorem routeWrite_sound : (routeWrite c i r s).Sound :=
  tableWrite_sound (by split; exacts [writeRoute_sound _ r h, h]) h

theorem patternWrite_sound : (patternWrite c i r s).Sound := by
  have written (k : Fin 3) : (writePattern k r s).1.docket = s.docket := by
    unfold writePattern; split <;> rfl
  exact tableWrite_sound (by split; exacts [h.of_docket (written _), h]) h

theorem settingsWrite_sound : (settingsWrite c i r s).Sound := tableWrite_sound (writeSettings_sound r h) h

theorem badTable_sound : (badTable c r s).Sound := by
  unfold badTable
  split
  · exact answered_sound h h
  · exact h

theorem tableRead_sound : (tableRead c r s).Sound := answered_sound h h

theorem enable_sound : (enable c r s).Sound := modelCommand_sound (enableModel_sound · h) h

theorem disable_sound : (disable c r s).Sound := modelCommand_sound (disableModel_sound · h) h

theorem commit_sound : (commit c r s).Sound := modelCommand_sound (commitModel_sound · h) h

theorem cueStart_sound : (cueStart c r s).Sound := control_sound (startNow_sound r h) h

theorem cueStartScheduled_sound : (cueStartScheduled c r s).Sound := control_sound (startLater_sound r h) h

theorem cueStop_sound : (cueStop c r s).Sound := modelCommand_sound (stopCue_sound · h) h

theorem modeChange_sound : (modeChange c r s).Sound := control_sound (modeArgs_sound h r) h

theorem showSync_sound : (showSync c r s).Sound := control_sound (syncArgs_sound r h) h

theorem clearFault_sound : (clearFault c r s).Sound := control_sound (clearArgs_sound r h) h

theorem resume_sound : (resume c r s).Sound := control_sound (resumeArgs_sound r h) h

theorem statusQuery_sound : (statusQuery c r s).Sound := answered_sound h h

theorem statusQueryClear_sound : (statusQueryClear c r s).Sound := by
  have cleared : (if r.length = 1 then clearCounts s else s).Sound := sound_ite (h.of_docket (clearCounts_docket s)) h
  exact answered_sound cleared h

theorem alertAck_sound : (alertAck c r s).Sound := answered_sound (h.of_docket (ackArgs_docket s r)) h

theorem badCommand_sound : (badCommand c r s).Sound := sound_ite h (control_sound h h)

end

/-! ### Resets -/

theorem sound_of_reset {s : State} (same : s.docket = State.reset.docket) : s.Sound :=
  (State.sound_iff.mpr ⟨State.reset_keysApart, State.reset_faultsAgree⟩).of_docket same

/-- R106: the key is sampled at the end of a reset, which leaves it released. -/
theorem sampleKeys_sound {s : State} (same : s.docket = State.reset.docket) : (sampleKeys s).Sound := by
  have h := sound_of_reset same
  unfold sampleKeys
  dsimp only
  split
  · rename_i stop
    exact keyed_sound true h rfl stop
  · rename_i released
    refine h.of_docket ?_
    have stop : s.docket.stop = s.pins.stopOpen := by
      rw [same, Bool.eq_false_of_not_eq_true released]
      rfl
    exact congrArg (fun b => { s.docket with stop := b }) stop.symm

theorem hardResetEnds_sound (s : State) : (hardResetEnds s).Sound :=
  State.Sound.of_docket (sampleKeys_sound (by rfl)) (placeStartUp_docket _ _)

theorem hardResetHolds_sound (s : State) : (hardResetHolds s).Sound := sound_of_reset rfl

theorem softReset_sound (s : State) : (softReset s).Sound :=
  State.Sound.of_docket (sampleKeys_sound (by rfl)) (placeStartUp_docket _ _)

theorem restart_sound (c : Sender) (a : List Byte) {s : State} (h : s.Sound) : (restart c a s).Sound := by
  have all : (restartAll s).Sound := sound_ite (h.of_docket (onRelay_docket s rfl)) (softReset_sound s)
  have pending : (s.onRelay fun q => { q with softPending := true }).Sound := h.of_docket rfl
  have own : (restartOwn c a s).Sound := sound_ite (h.of_docket (overrun_docket s))
    (sound_ite (h.of_docket (pushReply_docket _ _ _ _)) (pending.of_docket (pushReply_docket _ _ _ _)))
  exact sound_ite (sound_ite all h) own

theorem spineLeft_sound {s : State} (h : s.Sound) : (spineLeft s).Sound := by
  unfold spineLeft
  split
  · exact h
  · have left : (s.onRelay fun q => { q with spineOut := none }).Sound := h.of_docket rfl
    refine sound_ite (softReset_sound _) ?_
    split
    · exact left.of_docket (alertLeft_docket _)
    · exact sound_ite (softReset_sound _) left
    · exact left

/-! ### Frames -/

theorem receive_sound {p : Port} {classify : Frame → State → State}
    (keeps : ∀ f t, t.Sound → (classify f t).Sound) (f : Frame) {s : State} (h : s.Sound) :
    (receive p classify f s).Sound := by
  have waiting : (setReceiver p .waiting s).Sound := h.of_docket (setReceiver_docket _ _ _)
  exact sound_ite h (sound_ite (abandon_sound _ _ h)
    (sound_ite (keeps f _ (waiting.of_docket (countGood_docket _ _))) (countCheckError_sound _ waiting)))

theorem handOn_sound (n : NodeId) (f : Frame) {s : State} (h : s.Sound) : (handOn n f s).Sound := by
  have taken (b : Byte) : (mirrorUp n f (markHello n b s)).Sound := h.of_docket (mirrorUp_markHello_docket s n f b)
  have misrouted : (misroutedBay s).Sound := h.of_docket (misroutedBay_docket s)
  unfold handOn
  cases (s.node n).role <;> dsimp only
  case panel => exact sound_ite (takePanel_sound (taken _) _ _ _) misrouted
  case drive =>
    refine sound_ite ?_ misrouted
    split
    · exact takeFeedback_sound _ _ (taken _)
    · exact misrouted
  case sensor => exact sound_ite (takePresence_sound _ _ (taken _)) misrouted
  all_goals exact misrouted

theorem routeBay_sound {controller : State → State} (f : Frame) {s : State} (done : (controller s).Sound)
    (h : s.Sound) : (routeBay controller f s).Sound := by
  have misrouted : (misroutedBay s).Sound := h.of_docket (misroutedBay_docket s)
  exact sound_ite misrouted (sound_ite done (sound_ite (h.of_docket (forwardDown_docket _ _))
    (sound_ite (h.of_docket (forwardUp_docket _ _)) misrouted)))

theorem classifyBay_sound (f : Frame) {s : State} (h : s.Sound) : (classifyBay f s).Sound := by
  have counted (g : BayCounters → BayCounters) : (s.onBayCounters g).Sound := h.of_docket (onBayCounters_docket s g)
  unfold classifyBay
  refine sound_ite (sound_ite (ringReturn_sound h) (counted _)) (sound_ite (counted _) ?_)
  split
  · rename_i n _
    have heard : (nodeHeard n s).Sound := nodeHeard_sound n h
    exact sound_ite (counted _) (sound_ite (heard.of_docket (forwardUp_docket _ _))
      (routeBay_sound f (handOn_sound n f heard) heard))
  · exact routeBay_sound f (h.of_docket (misroutedBay_docket s)) h

theorem dispatchWrite_sound (c : Sender) (p : List Byte) {s : State} (h : s.Sound) : (dispatchWrite c p s).Sound := by
  unfold dispatchWrite
  split
  · split
    · exact nodeWrite_sound c _ _ h
    · exact buttonWrite_sound c _ _ h
    · exact cueWrite_sound c _ _ h
    · exact profileWrite_sound c _ _ h
    · exact modelWrite_sound c _ _ h
    · exact routeWrite_sound c _ _ h
    · exact patternWrite_sound c _ _ h
    · exact settingsWrite_sound c _ _ h
  · exact badTable_sound c _ h

theorem dispatchControl_sound (c : Sender) (p : List Byte) {s : State} (h : s.Sound) :
    (dispatchControl c p s).Sound := by
  unfold dispatchControl
  split
  · exact badCommand_sound c _ h
  · split
    · exact enable_sound c _ h
    · exact disable_sound c _ h
    · exact commit_sound c _ h
    · exact sound_ite (cueStartScheduled_sound c _ h) (cueStart_sound c _ h)
    · exact cueStop_sound c _ h
    · exact modeChange_sound c _ h
    · exact showSync_sound c _ h
    · exact clearFault_sound c _ h
    · exact resume_sound c _ h
    · exact sound_ite (statusQueryClear_sound c _ h) (statusQuery_sound c _ h)
    · exact restart_sound c _ h
    · exact badCommand_sound c _ h

theorem classifySpine_sound (f : Frame) {s : State} (h : s.Sound) : (classifySpine f s).Sound := by
  have heard : (spineHeard s).Sound := spineHeard_sound h
  have misrouted : (misroutedSpine (spineHeard s)).Sound := heard.of_docket (misroutedSpine_docket _)
  have commands : (dispatchCommand f (spineHeard s)).Sound :=
    sound_ite (dispatchWrite_sound _ _ heard) (sound_ite (tableRead_sound _ _ heard)
      (sound_ite (dispatchControl_sound _ _ heard) (sound_ite (alertAck_sound _ _ heard) misrouted)))
  exact sound_ite misrouted (sound_ite (sound_ite commands
    (sound_ite (heard.of_docket (forwardDown_docket _ _)) misrouted)) misrouted)

/-! ### Steps -/

theorem idle_sound {s : State} (h : s.Sound) : (idle s).Sound :=
  sound_ite (h.of_docket ((takeUp_docket _).trans (tick_docket s))) h

/-- An outcome whose next state, if there is one, has a true fault table. -/
def OutcomeSound (o : Outcome) : Prop := ∀ t, o = .next t → t.Sound

theorem next_sound {t : State} (h : t.Sound) : OutcomeSound (.next t) := fun _ e => Host.Outcome.next.inj e ▸ h

theorem act_sound {op : State → State} {s : State} (done : (op s).Sound) (h : s.Sound) : OutcomeSound (act op s) :=
  next_sound (sound_ite (done.of_docket (settle_docket (op s))) h)

theorem actOutOfReset_sound {op : State → State} {s : State} (done : (op s).Sound) (h : s.Sound) :
    OutcomeSound (actOutOfReset op s) := next_sound (sound_ite (done.of_docket (settle_docket (op s))) h)

theorem actAlways_sound {op : State → State} {s : State} (done : (op s).Sound) : OutcomeSound (actAlways op s) :=
  next_sound (done.of_docket (settle_docket (op s)))

/-- A command that leaves the docket. -/
theorem act_sound_of_docket {op : State → State} {s : State} (kept : (op s).docket = s.docket) (h : s.Sound) :
    OutcomeSound (act op s) := act_sound (h.of_docket kept) h

theorem exec_sound (i : Instr) {s : State} (h : s.Sound) : OutcomeSound (exec i s) := by
  cases i with
  | hardReset b r stop ack => exact actAlways_sound (sound_ite (hardResetEnds_sound _) (hardResetHolds_sound _))
  | softReset stop ack =>
    rw [exec_softReset]
    exact act_sound (softReset_sound _) h
  | stopKeyAsserted => exact actOutOfReset_sound (stopAsserts_sound h) h
  | stopKeyReleased => exact act_sound (stopReleases_sound h) h
  | ackKeyPressed => exact act_sound_of_docket (ackPressed_docket s) h
  | ackKeyLetGo => exact act_sound_of_docket (ackLetGo_docket s) h
  | ackPressTimerExpiry => exact act_sound (ackHeld_sound h) h
  | receiverGapTimeout p => exact act_sound (abandon_sound p _ h) h
  | framingError p => exact act_sound (abandon_sound p _ h) h
  | receiverIdleTimeout p => exact act_sound_of_docket (lineIdle_docket s p) h
  | bayFrameReceived f => exact act_sound (receive_sound (fun f _ => classifyBay_sound f) f h) h
  | panel n d hello => exact act_sound (takePanel_sound h n d hello) h
  | feedback n entries => exact act_sound (takeFeedback_sound n entries h) h
  | presence n occupied => exact act_sound (takePresence_sound n occupied h) h
  | ringCheckReturn => exact act_sound (ringReturn_sound h) h
  | spineFrameReceived f => exact act_sound (receive_sound (fun f _ => classifySpine_sound f) f h) h
  | nodeWrite c i r => exact act_sound (nodeWrite_sound c i r h) h
  | buttonWrite c i r => exact act_sound (buttonWrite_sound c i r h) h
  | cueWrite c i r => exact act_sound (cueWrite_sound c i r h) h
  | profileWrite c i r => exact act_sound (profileWrite_sound c i r h) h
  | modelWrite c i r => exact act_sound (modelWrite_sound c i r h) h
  | routeWrite c i r => exact act_sound (routeWrite_sound c i r h) h
  | patternWrite c i r => exact act_sound (patternWrite_sound c i r h) h
  | settingsWrite c i r => exact act_sound (settingsWrite_sound c i r h) h
  | badTable c p => exact act_sound (badTable_sound c p h) h
  | tableRead c p => exact act_sound (tableRead_sound c p h) h
  | enable c a => exact act_sound (enable_sound c a h) h
  | disable c a => exact act_sound (disable_sound c a h) h
  | commit c a => exact act_sound (commit_sound c a h) h
  | cueStart c a => exact act_sound (cueStart_sound c a h) h
  | cueStartScheduled c a => exact act_sound (cueStartScheduled_sound c a h) h
  | cueStop c a => exact act_sound (cueStop_sound c a h) h
  | mode c a => exact act_sound (modeChange_sound c a h) h
  | showSync c a => exact act_sound (showSync_sound c a h) h
  | clearFault c a => exact act_sound (clearFault_sound c a h) h
  | resume c a => exact act_sound (resume_sound c a h) h
  | statusQuery c a => exact act_sound (statusQuery_sound c a h) h
  | statusQueryClear c a => exact act_sound (statusQueryClear_sound c a h) h
  | restart c a => exact act_sound (restart_sound c a h) h
  | alertAck c p => exact act_sound (alertAck_sound c p h) h
  | bayOutFrameSent => exact act_sound_of_docket (bayLeft_docket s) h
  | spineOutFrameSent => exact act_sound (spineLeft_sound h) h
  | sampleTimerExpiry => exact act_sound (sampleExpiry_sound h) h
  | modelFreeNotice m => exact actOutOfReset_sound (takeFreeNotice_sound h m) h
  | scheduleEntryDue => exact act_sound (nextDue_sound h) h
  | lateCountdownExpiry m => exact act_sound_of_docket (lateExpires_docket m s) h
  | pauseWindowExpiry m => exact act_sound (pauseWindowEnds_sound h) h
  | holdLimitExpiry m => exact act_sound (holdLimitEnds_sound h) h
  | stuckTimerExpiry k => exact act_sound (stuckExpires_sound k h) h
  | lockoutEnd k => exact act_sound_of_docket (lockoutEnds_docket s k) h
  | requestExpiry m k => exact act_sound_of_docket (requestExpires_docket s m k) h
  | refreshTimerExpiry n => exact act_sound_of_docket (refreshEnds_docket s n) h
  | nodeSilenceExpiry n => exact act_sound (nodeSilenceEnds_sound n h) h
  | driveSilenceExpiry m => exact act_sound (driveSilenceEnds_sound m h) h
  | zoneSettleExpiry z => exact act_sound (settleEnds_sound h z) h
  | spineSilenceExpiry => exact act_sound (spineSilenceEnds_sound h) h
  | ringCheckTimerExpiry => exact act_sound_of_docket (onRelay_docket s rfl) h
  | ringCheckMiss => exact act_sound (ringMiss_sound h) h
  | bayCheckWindowEnd => exact act_sound (windowEnds_sound h) h
  | escalationDeadlineExpiry n => exact act_sound_of_docket (escalate_docket s n.toNat) h
  | beaconPhaseEnd =>
    rw [exec_beaconPhaseEnd]
    exact act_sound_of_docket (onAlert_docket s (phaseEnd_routes s.alert)) h
  | dozeTimerExpiry => exact act_sound (dozeEnds_sound h) h
  | wakeLimitExpiry => exact act_sound (wakeLimitEnds_sound h) h
  | resetNLow =>
    rw [exec_resetNLow]
    exact actAlways_sound (hardResetHolds_sound _)
  | clkStop =>
    rw [exec_clkStop]
    exact actAlways_sound (h.of_docket (onPins_docket s _))
  | clkResume =>
    rw [exec_clkResume]
    exact actAlways_sound (sound_ite (hardResetEnds_sound _) (h.of_docket (onPins_docket s _)))
  | badCommand c p => exact act_sound (badCommand_sound c p h) h

/-- Settles O58: `FaultsAgree` as claims of a docket; each operation pays the claims that it owes in its midst, so that
every command leaves none owed. -/
theorem stepKeepsTheFaultTableTrue : Obligations.StepKeepsTheFaultTableTrue := by
  intro s t apart agree run
  have h : s.Sound := State.sound_iff.mpr ⟨apart, agree⟩
  refine (State.sound_iff.mp ?_).2
  unfold step at run
  split at run
  · exact exec_sound _ (h.of_docket (withPending_docket s _)) t run
  · cases run
    exact idle_sound h

end Sys2Proof.Machine

/-! ## CLEAR_FAULT (O42) -/

namespace Sys2Proof.Machine

/-! ### The entries that a kind and a subject name (R121) -/

theorem nodeOfAddress_addressOf (n : NodeId) : nodeOfAddress (addressOf n).toNat = some n :=
  (nodeOfAddress_eq_some_iff _ _).mpr rfl

theorem nodeOfAddress_eq_none {a : Nat} (out : ¬ (1 ≤ a ∧ a ≤ 62)) : nodeOfAddress a = none := dif_neg out

theorem indexBelow_eq_none {n a : Nat} (out : n ≤ a) : indexBelow n a = none := dif_neg (by omega)

theorem button_toNat (k : ButtonIx) : (byteOf k.val).toNat = k.val := byteOf_toNat (by omega)

theorem buttonOf_byte (k : ButtonIx) : indexBelow 16 (byteOf k.val).toNat = some k := by
  rw [button_toNat, indexBelow_of_fin]

theorem ofModel_iff {m : ModelId} {id : FaultId} : id.ofModel m = true ↔ ∃ k, id = .model k m := by
  cases id <;> simp [FaultId.ofModel]

/-- What a kind's code and a subject name, as R121 says it of the predicate. -/
def Names (kind a b : Byte) (p : FaultId → Prop) : Prop := ∃ f, namedFaults kind a b = some f ∧ ∀ id, f id = true ↔ p id

section
variable {kind a b : Byte}

theorem namedFaults_all : namedFaults 0xFF a b = namedAll a b := if_pos rfl

theorem namedFaults_kind (single : kind ≠ 0xFF) : namedFaults kind a b = namedKind kind.toNat a b := if_neg single

theorem ne_all_of_le {n : Nat} (small : kind.toNat ≤ n) (below : n < 255) : kind ≠ 0xFF := by
  rintro rfl
  have top : (0xFF : Byte).toNat = 255 := rfl
  omega

/-- The second byte of a button subject is none of the bytes that R121 gives a meaning of their own. -/
theorem button_marks (small : b.toNat ≤ 15) : b ≠ 0xFF ∧ b ≠ 0xFE ∧ b ≠ 0xFD := by
  refine ⟨?_, ?_, ?_⟩ <;> rintro rfl <;> exact absurd small (by decide)

/-- Kind ALL and a subject of two bytes that are not marks: a button. -/
theorem namedAll_of_button (any : ¬ (a = 0xFF ∧ b = 0xFF)) (model : b ≠ 0xFE) (node : b ≠ 0xFD) : namedAll a b =
    (nodeOfAddress a.toNat).bind fun n => (indexBelow 16 b.toNat).map fun k id => id == .buttonStuck ⟨n, k⟩ := by
  rw [namedAll, if_neg any, if_neg model, if_neg node]

theorem namedAll_of_model : namedAll a 0xFE = (indexBelow 12 a.toNat).map FaultId.ofModel := by
  rw [namedAll, if_neg (by simp), if_pos rfl]

theorem namedAll_of_node : namedAll a 0xFD = (nodeOfAddress a.toNat).map fun n id => id == .nodeSilent n := by
  rw [namedAll, if_neg (by simp), if_neg (by decide), if_pos rfl]

/-- R121: kind ALL. -/
theorem names_all :
    ((a = 0xFF ∧ b = 0xFF) → Names 0xFF a b fun _ => True) ∧
    (∀ m : ModelId, a = byteOf m.val → b = 0xFE → Names 0xFF a b fun id => ∃ k, id = .model k m) ∧
    (∀ n : NodeId, a = addressOf n → b = 0xFD → Names 0xFF a b fun id => id = .nodeSilent n) ∧
    (∀ (n : NodeId) (k : ButtonIx), a = addressOf n → b = byteOf k.val →
      Names 0xFF a b fun id => id = .buttonStuck ⟨n, k⟩) := by
  simp only [Names, namedFaults_all]
  refine ⟨fun any => ⟨fun _ => true, if_pos any, by simp⟩, ?_, ?_, ?_⟩
  · rintro m rfl rfl
    exact ⟨_, by rw [namedAll_of_model, modelOf_byte]; rfl, fun id => ofModel_iff⟩
  · rintro n rfl rfl
    exact ⟨_, by rw [namedAll_of_node, nodeOfAddress_addressOf]; rfl, fun id => beq_iff_eq⟩
  · rintro n k rfl rfl
    obtain ⟨top, model, node⟩ := button_marks (b := byteOf k.val) (by rw [button_toNat]; omega)
    refine ⟨_, ?_, fun id => beq_iff_eq⟩
    rw [namedAll_of_button (fun any => top any.2) model node, nodeOfAddress_addressOf, buttonOf_byte]
    rfl

/-- R121: kind ALL with a subject of no type. -/
theorem names_all_refused :
    (b = 0xFE → 11 < a.toNat → namedAll a b = none) ∧
    (b = 0xFD → ¬ (1 ≤ a.toNat ∧ a.toNat ≤ 62) → namedAll a b = none) ∧
    (b.toNat ≤ 15 → ¬ (1 ≤ a.toNat ∧ a.toNat ≤ 62) → namedAll a b = none) ∧
    (¬ (a = 0xFF ∧ b = 0xFF) → 15 < b.toNat → b ≠ 0xFE → b ≠ 0xFD → namedAll a b = none) := by
  refine ⟨?_, ?_, fun small out => ?_, fun any large model node => ?_⟩
  · rintro rfl out
    rw [namedAll_of_model, indexBelow_eq_none out, Option.map_none]
  · rintro rfl out
    rw [namedAll_of_node, nodeOfAddress_eq_none out, Option.map_none]
  · obtain ⟨top, model, node⟩ := button_marks small
    rw [namedAll_of_button (fun any => top any.2) model node, nodeOfAddress_eq_none out, Option.bind_none]
  · rw [namedAll_of_button any model node, indexBelow_eq_none large]
    cases nodeOfAddress a.toNat <;> rfl

variable {code : Nat}

/-- The entries of one kind. -/
def ofCode (code : Nat) (id : FaultId) : Bool := id.kindCode.val == code

theorem namedKind_of_any (single : code ≤ 10) (any : a = 0xFF ∧ b = 0xFF) :
    namedKind code a b = some (ofCode code) := by
  rw [namedKind, if_neg (by omega), if_pos any]
  exact ite_self _

theorem namedKind_of_bay (bay : 7 ≤ code) (single : code ≤ 10) : namedKind code a b = some (ofCode code) := by
  rw [namedKind, if_neg (by omega), if_pos bay]
  rfl

theorem namedKind_of_model (kinds : code ≤ 4) (any : ¬ (a = 0xFF ∧ b = 0xFF)) : namedKind code a b =
    if b = 0 then (indexBelow 12 a.toNat).map fun m id => ofCode code id && id.ofModel m else none := by
  rw [namedKind, if_neg (by omega), if_neg (by omega), if_neg any, if_pos kinds]
  rfl

theorem namedKind_of_node (any : ¬ (a = 0xFF ∧ b = 0xFF)) : namedKind 5 a b =
    if b = 0 then (nodeOfAddress a.toNat).map fun n id => id == .nodeSilent n else none := by
  rw [namedKind, if_neg (by omega), if_neg (by omega), if_neg any, if_neg (by omega), if_pos rfl]

theorem namedKind_of_button (any : ¬ (a = 0xFF ∧ b = 0xFF)) : namedKind 6 a b =
    (nodeOfAddress a.toNat).bind fun n => (indexBelow 16 b.toNat).map fun k id => id == .buttonStuck ⟨n, k⟩ := by
  rw [namedKind, if_neg (by omega), if_neg (by omega), if_neg any, if_neg (by omega), if_neg (by omega)]

theorem ofCode_iff {id : FaultId} : ofCode code id = true ↔ id.kindCode.val = code := beq_iff_eq

/-- R121: a single kind of models with a subject. -/
theorem names_model (kinds : kind.toNat ≤ 4) (any : ¬ (a = 0xFF ∧ b = 0xFF)) :
    (∀ m : ModelId, a = byteOf m.val → b = 0 →
      Names kind a b fun id => id.kindCode.val = kind.toNat ∧ ∃ k, id = .model k m) ∧
    (11 < a.toNat ∨ b ≠ 0 → namedFaults kind a b = none) := by
  have named := (namedFaults_kind (a := a) (b := b) (ne_all_of_le kinds (by decide))).trans
    (namedKind_of_model kinds any)
  refine ⟨?_, fun refused => ?_⟩
  · rintro m rfl rfl
    refine ⟨_, named.trans (by rw [if_pos rfl, modelOf_byte]; rfl), fun id => ?_⟩
    rw [Bool.and_eq_true, ofCode_iff, ofModel_iff]
  · rw [named]
    split
    · rename_i zero
      rw [indexBelow_eq_none (refused.resolve_right (not_not.mpr zero)), Option.map_none]
    · rfl

/-- R121: NODE_SILENT with a subject. -/
theorem names_node (any : ¬ (a = 0xFF ∧ b = 0xFF)) :
    (∀ n : NodeId, a = addressOf n → b = 0 → Names 5 a b fun id => id = .nodeSilent n) ∧
    (¬ (1 ≤ a.toNat ∧ a.toNat ≤ 62) ∨ b ≠ 0 → namedFaults 5 a b = none) := by
  have named := (namedFaults_kind (kind := 5) (a := a) (b := b) (by decide)).trans (namedKind_of_node any)
  refine ⟨?_, fun refused => ?_⟩
  · rintro n rfl rfl
    exact ⟨_, named.trans (by rw [if_pos rfl, nodeOfAddress_addressOf]; rfl), fun id => beq_iff_eq⟩
  · rw [named]
    split
    · rename_i zero
      rw [nodeOfAddress_eq_none (refused.resolve_right (not_not.mpr zero)), Option.map_none]
    · rfl

/-- R121: BUTTON_STUCK with a subject. -/
theorem names_button (any : ¬ (a = 0xFF ∧ b = 0xFF)) :
    (∀ (n : NodeId) (k : ButtonIx), a = addressOf n → b = byteOf k.val →
      Names 6 a b fun id => id = .buttonStuck ⟨n, k⟩) ∧
    (¬ (1 ≤ a.toNat ∧ a.toNat ≤ 62) ∨ 15 < b.toNat → namedFaults 6 a b = none) := by
  have named := (namedFaults_kind (kind := 6) (a := a) (b := b) (by decide)).trans (namedKind_of_button any)
  refine ⟨?_, fun refused => ?_⟩
  · rintro n k rfl rfl
    exact ⟨_, named.trans (by rw [nodeOfAddress_addressOf, buttonOf_byte]; rfl), fun id => beq_iff_eq⟩
  · rw [named]
    obtain out | large := refused
    · rw [nodeOfAddress_eq_none out, Option.bind_none]
    · rw [indexBelow_eq_none large]
      cases nodeOfAddress a.toNat <;> rfl

theorem names_code (single : kind.toNat ≤ 10) (named : namedKind kind.toNat a b = some (ofCode kind.toNat)) :
    Names kind a b fun id => id.kindCode.val = kind.toNat :=
  ⟨_, (namedFaults_kind (ne_all_of_le single (by decide))).trans named, fun _ => ofCode_iff⟩

end

/-! ### Latches that are cleared (R122) -/

section
variable {s : State} {ids : List FaultId}

/-- R122: the latches of the entries are cleared. -/
def unlatchAll (ids : List FaultId) (s : State) : State :=
  forEach ids (fun id t => t.modMarks id fun k => { k with latched := false }) s

/-- R122: the trip release of a model that has no trip-class latch left. -/
def releaseFreed (m : ModelId) (s : State) : State := if s.noTripLatch m then releaseTrip m s else s

/-- The models that a cleared entry had tripped. -/
def tripped (ids : List FaultId) : List ModelId := allModels.filter fun m => ids.any fun id => id.tripModel == some m

theorem clearLatches_eq (ids : List FaultId) (s : State) :
    clearLatches ids s = forEach ids clearNotice (forEach (tripped ids) releaseFreed (unlatchAll ids s)) := rfl

theorem unlatchAll_keeps {β : Type} (read : State → β) (marks : ∀ id f t, read (State.modMarks t id f) = read t) :
    read (unlatchAll ids s) = read s := forEach_keeps read _ (fun id t => marks id _ t) ids s

theorem unlatchAll_marks (ids : List FaultId) (s : State) (id : FaultId) : (unlatchAll ids s).marks id =
    if id ∈ ids then { s.marks id with latched := false } else s.marks id := by
  induction ids generalizing s with
  | nil => rfl
  | cons first rest ih =>
    rw [unlatchAll, forEach_cons, ← unlatchAll, ih, State.modMarks_marks]
    by_cases own : id = first
    · subst own; simp
    · simp [own]

/-- R18: what a trip release makes of its model. -/
def Model.asReleased (x : Model) (stop occupied : Bool) : Model :=
  if x.state = .faulted then (if stop then { x with state := .stopped, run := 0 } else x.asReseated occupied) else x

theorem releaseTrip_model (m : ModelId) (s : State) : (releaseTrip m s).model m =
    (s.model m).asReleased s.sup.stopAsserted (s.maskOccupied (s.model m).config.zoneMask) := by
  unfold releaseTrip Model.asReleased
  split
  · rename_i faulted
    split
    · rw [changeModel_model_self, Model.settled, if_pos (by simp [Model.leaves, faulted, ModelState.outOfService])]
    · exact reseat_model m s
  · rfl

theorem releaseTrip_alters (m : ModelId) (s : State) : State.Alters m s (releaseTrip m s) := by
  unfold releaseTrip
  split
  · split
    · exact changeModel_alters _ _ _
    · exact reseat_alters m s
  · exact .of_view rfl

theorem releaseFreed_alters (m : ModelId) (s : State) : State.Alters m s (releaseFreed m s) := by
  unfold releaseFreed
  split
  · exact releaseTrip_alters m s
  · exact .of_view rfl

/-- What a change of a model and the end of its following check keep, the trip releases keep. -/
theorem releaseFreed_reads {β : Type} (read : State → β) (ends : ∀ k t, read (quench (.model .follow k) t) = read t)
    (change : ∀ k f t, read (changeModel k f t) = read t) (m : ModelId) (s : State) :
    read (releaseFreed m s) = read s := by
  have reseated (t : State) : read (reseat m t) = read t := by
    unfold reseat
    split
    · exact change _ _ _
    · exact (ends _ _).trans (change _ _ _)
  unfold releaseFreed releaseTrip
  split
  · split
    · split
      · exact change _ _ _
      · exact reseated s
    · rfl
  · rfl

theorem releases_latched (ms : List ModelId) (s : State) (id : FaultId) :
    ((forEach ms releaseFreed s).marks id).latched = (s.marks id).latched := by
  refine forEach_keeps (fun t => (t.marks id).latched) _ (releaseFreed_reads (fun t => (t.marks id).latched)
    (fun k t => ?_) fun k f t => ?_) ms s
  · rw [quench, State.modMarks_marks]
    split
    · rename_i own; rw [own]
    · rfl
  · rw [changeModel_marks]
    split <;> rfl

theorem releases_active {id : FaultId} (other : ∀ m, id ≠ .model .follow m) (ms : List ModelId) (s : State) :
    ((forEach ms releaseFreed s).marks id).active = (s.marks id).active := by
  refine forEach_keeps (fun t => (t.marks id).active) _ (releaseFreed_reads (fun t => (t.marks id).active)
    (fun k t => ?_) fun k f t => ?_) ms s
  · rw [quench, State.modMarks_marks, if_neg (other k)]
  · rw [changeModel_marks, if_neg fun h => other k h.2]

theorem noTripLatch_congr {t : State} {m : ModelId}
    (same : ∀ k, (t.marks (.model k m)).latched = (s.marks (.model k m)).latched) :
    t.noTripLatch m = s.noTripLatch m := by simp only [State.noTripLatch, same]

/-- R18, R123: each model that has no trip-class latch left is released as it stood. -/
theorem releases_model (ms : List ModelId) (apart : ms.Nodup) (s : State) (m : ModelId) :
    (forEach ms releaseFreed s).model m = if m ∈ ms ∧ s.noTripLatch m = true then
      (s.model m).asReleased s.sup.stopAsserted (s.maskOccupied (s.model m).config.zoneMask) else s.model m := by
  induction ms generalizing s with
  | nil => simp [forEach]
  | cons k rest ih =>
    obtain ⟨first, apart⟩ := List.nodup_cons.mp apart
    have alters := releaseFreed_alters k s
    have latched : (releaseFreed k s).noTripLatch m = s.noTripLatch m :=
      noTripLatch_congr fun kind => releases_latched [k] s (.model kind m)
    rw [forEach_cons, ih apart, latched, alters.occupied, alters.stop]
    by_cases own : m = k
    · subst own
      rw [if_neg fun h => first h.1]
      unfold releaseFreed
      simp only [List.mem_cons_self, true_and]
      split
      · exact releaseTrip_model m s
      · rfl
    · have kept : (releaseFreed k s).model m = s.model m := congrArg View.model (alters.others m own)
      simp only [kept, List.mem_cons, own, false_or]

theorem deriveShowing_queue (s : State) : (deriveShowing s).alert.queue = s.alert.queue :=
  (showAs_keeps _ _).1

/-- R142: the clear notices remove the ACKED records of the cleared latches. -/
theorem clearNotices_eq (ids : List FaultId) (s : State) : ∃ a : AlertUnit,
    forEach ids clearNotice s = { s with alert := a } ∧ a.routes = s.alert.routes ∧
      a.queue = s.alert.queue.filter fun r => !(ids.any fun id => r.about == .fault id && s.removable r) := by
  induction ids generalizing s with
  | nil => exact ⟨s.alert, rfl, rfl, by simp⟩
  | cons id rest ih =>
    obtain ⟨a, eq, routes, queue⟩ := ih (clearNotice id s)
    have first : (clearNotice id s).alert.queue =
        s.alert.queue.filter fun r => !(r.about == .fault id && s.removable r) := deriveShowing_queue _
    refine ⟨a, by rw [forEach_cons, eq]; rfl, routes.trans (deriveShowing_routes _), ?_⟩
    rw [queue, first, List.filter_filter]
    refine List.filter_congr fun r _ => ?_
    rw [List.any_cons, Bool.not_or, Bool.and_comm]
    rfl

theorem mem_clearable {named : FaultId → Bool} {id : FaultId} : id ∈ s.clearable named ↔
    named id = true ∧ (s.marks id).latched = true ∧ (s.marks id).active = false := by
  simp [State.clearable, mem_allFaults, and_assoc]

theorem mem_tripped {m : ModelId} : m ∈ tripped ids ↔ ∃ k, k ≠ ModelKind.loadAlarm ∧ .model k m ∈ ids := by
  have trips (id : FaultId) : id.tripModel = some m ↔ ∃ k, k ≠ ModelKind.loadAlarm ∧ id = .model k m := by
    cases id with
    | model k j => cases k <;> simp [FaultId.tripModel, ModelKind.trips, eq_comm]
    | _ => simp [FaultId.tripModel]
  simp only [tripped, List.mem_filter, mem_allModels, true_and, List.any_eq_true, beq_iff_eq, trips]
  constructor
  · rintro ⟨id, listed, k, other, rfl⟩
    exact ⟨k, other, listed⟩
  · rintro ⟨k, other, listed⟩
    exact ⟨_, listed, k, other, rfl⟩

end

/-! ### The statement -/

section
variable (s : State) (named : FaultId → Bool)

/-- The part once the latches are cleared and the freed models released. -/
def State.unlatched : State := forEach (tripped (s.clearable named)) releaseFreed (unlatchAll (s.clearable named) s)

/-- What a change of a model and an update of the fault table keep, clearing latches and releases keep. -/
theorem unlatched_reads {β : Type} (read : State → β) (marks : ∀ id f t, read (State.modMarks t id f) = read t)
    (change : ∀ k f t, read (changeModel k f t) = read t) : read (s.unlatched named) = read s :=
  (forEach_keeps read _ (releaseFreed_reads read (fun _ _ => marks _ _ _) change) _ _).trans
    (unlatchAll_keeps read marks)

theorem unlatched_latched (id : FaultId) : ((s.unlatched named).marks id).latched =
    ((s.marks id).latched && !(named id && !(s.marks id).active)) := by
  rw [State.unlatched, releases_latched, unlatchAll_marks]
  split
  · rename_i cleared
    obtain ⟨isNamed, -, inactive⟩ := mem_clearable.mp cleared
    simp [isNamed, inactive]
  · rename_i kept
    cases latched : (s.marks id).latched
    · rfl
    · have spared : ¬ (named id = true ∧ (s.marks id).active = false) :=
        fun h => kept (mem_clearable.mpr ⟨h.1, latched, h.2⟩)
      cases isNamed : named id <;> cases active : (s.marks id).active <;> simp_all

theorem unlatched_active {id : FaultId} (other : ∀ m, id ≠ .model .follow m) :
    ((s.unlatched named).marks id).active = (s.marks id).active := by
  rw [State.unlatched, releases_active other, unlatchAll_marks]
  split <;> rfl

theorem unlatched_model (m : ModelId) : (s.unlatched named).model m =
    if m ∈ tripped (s.clearable named) ∧ (unlatchAll (s.clearable named) s).noTripLatch m = true then
      (s.model m).asReleased s.sup.stopAsserted (s.maskOccupied (s.model m).config.zoneMask) else s.model m := by
  have same {β : Type} (read : State → β) (marks : ∀ id f t, read (State.modMarks t id f) = read t) :
      read (unlatchAll (s.clearable named) s) = read s := unlatchAll_keeps read marks
  rw [State.unlatched, releases_model (tripped _) (allModels_nodup.filter _), same (State.model · m) fun _ _ _ => rfl,
    same (fun t => t.sup.stopAsserted) fun _ _ _ => rfl, same State.maskOccupied fun _ _ _ => rfl]

end

section
variable {s : State} {kind a b : Byte}

theorem clearArgs_of_refused (refused : namedFaults kind a b = none) : clearArgs [kind, a, b] s = (s, badArgs) := by
  have read : clearArgs [kind, a, b] s =
      match namedFaults kind a b with | none => (s, badArgs) | some named => clearNamed named s := rfl
  rw [read, refused]

theorem clearArgs_of_named {named : FaultId → Bool} (names : namedFaults kind a b = some named) :
    clearArgs [kind, a, b] s = clearNamed named s := by
  have read : clearArgs [kind, a, b] s =
      match namedFaults kind a b with | none => (s, badArgs) | some named => clearNamed named s := rfl
  rw [read, names]

/-- R122: the reply counts the latches that were cleared, or those that are left. -/
theorem exec_clearFault_of_named {c : Sender} {named : FaultId → Bool} (carries : s.carriesOut c = true)
    (names : namedFaults kind a b = some named) : exec (.clearFault c [kind, a, b]) s =
      .next (settle ((clearLatches (s.clearable named) s).answeredWith c
        (if s.stillActive named = [] then controlReply 0x08 .ok (BitVec.ofNat 16 (s.clearable named).length)
          else controlReply 0x08 .stillActive (BitVec.ofNat 16 (s.stillActive named).length)))) := by
  have done := clearArgs_of_named (s := s) names
  split
  · rename_i all
    exact act_control carries (done.trans (by rw [clearNamed, all]; rfl))
  · rename_i left
    exact act_control carries (done.trans (congrArg _ (if_neg (by simpa using left))))

/-- R142: an ACKED record of a cleared latch is removable once the latches are cleared. -/
theorem noticed_iff (s : State) (named : FaultId → Bool) (r : AlertRecord) :
    ((s.clearable named).any fun id => r.about == .fault id && (s.unlatched named).removable r) = true ↔
      (r.state == .acked && (s.clearable named).any fun id => r.about == .fault id) = true := by
  have removable {id : FaultId} (listed : id ∈ s.clearable named) (about : r.about = .fault id) :
      (s.unlatched named).removable r = (r.state == .acked) := by
    obtain ⟨isNamed, -, inactive⟩ := mem_clearable.mp listed
    have free : ((s.unlatched named).marks id).latched = false := by
      rw [unlatched_latched, isNamed, inactive]
      exact Bool.and_false _
    simp [State.removable, about, free]
  simp only [List.any_eq_true, Bool.and_eq_true, beq_iff_eq]
  constructor
  · rintro ⟨id, listed, about, gone⟩
    exact ⟨beq_iff_eq.mp ((removable listed about).symm.trans gone), id, listed, about⟩
  · rintro ⟨acked, id, listed, about⟩
    exact ⟨id, listed, about, (removable listed about).trans (beq_iff_eq.mpr acked)⟩

end

/-- Settles O42: the subjects byte by byte; and the latches, the releases and the notices as three runs, of which each
keeps what the others change. -/
theorem clearFaultClearsInactiveLatches : Obligations.ClearFaultClearsInactiveLatches := by
  refine ⟨fun kind a b => ?_, fun c kind a b s carries => ⟨fun refused => ?_, fun args count => ?_,
    fun named names => ?_, mem_allFaults⟩⟩
  · obtain ⟨modelOut, nodeOut, buttonOut, rest⟩ := names_all_refused (a := a) (b := b)
    refine ⟨?_, fun single any => ?_, names_model, ?_, ?_, fun bay single => ?_, fun above single => ?_⟩
    · rintro rfl
      rw [namedFaults_all]
      obtain ⟨any, model, node, button⟩ := names_all (a := a) (b := b)
      exact ⟨any, model, node, button, modelOut, nodeOut, buttonOut, rest⟩
    · have small : kind.toNat ≤ 10 := by omega
      exact names_code small (namedKind_of_any small any)
    · rintro rfl
      exact names_node
    · rintro rfl
      exact names_button
    · exact names_code single (namedKind_of_bay bay single)
    · rw [namedFaults_kind single, namedKind, if_pos (by omega)]
  · exact act_control carries (clearArgs_of_refused refused)
  · have done : clearArgs args s = (s, (.badField, 0)) := if_pos count
    exact act_control carries done
  · obtain ⟨alert, eq, routes, queue⟩ := clearNotices_eq (s.clearable named) (s.unlatched named)
    have cleared : clearLatches (s.clearable named) s = { s.unlatched named with alert := alert } := eq
    have kept {β : Type} (read : State → β) (marks : ∀ id f t, read (State.modMarks t id f) = read t)
        (change : ∀ k f t, read (changeModel k f t) = read t) := unlatched_reads s named read marks change
    have outer := kept State.outer (fun _ _ _ => rfl) changeModel_outer
    have records := kept State.alert (fun _ _ _ => rfl) changeModel_alert
    refine ⟨_, exec_clearFault_of_named carries names, ?_⟩
    rw [cleared]
    refine ⟨unlatched_latched s named, fun id other => unlatched_active s named other,
      fun m faulted freed none => ?_, fun m service => ?_, ?_, routes.trans (congrArg _ records),
      State.relay_of_outer outer, State.settings_of_outer outer,
      kept (fun t => t.press.buttons) (fun _ _ _ => rfl) changeModel_buttons,
      kept (fun t => t.sup.zones) (fun _ _ _ => rfl) changeModel_zones⟩
    · have free : (unlatchAll (s.clearable named) s).noTripLatch m = true := by
        refine (noTripLatch_iff _ m).mpr fun ⟨k, trips, latched⟩ => ?_
        rw [← releases_latched (tripped (s.clearable named))] at latched
        exact absurd (latched.symm.trans (none k trips)) (by decide)
      show (s.unlatched named).model m = _
      rw [unlatched_model, if_pos ⟨mem_tripped.mpr freed, free⟩, Model.asReleased, if_pos faulted]
    · show (s.unlatched named).model m = _
      rw [unlatched_model, Model.asReleased, if_neg service, ite_self]
    · show alert.queue = _
      rw [queue, records]
      exact List.filter_congr fun r _ => congrArg (! ·) (Bool.eq_iff_iff.mpr (noticed_iff s named r))

end Sys2Proof.Machine

/-! ## Silent drives, a silent spine and the bay-check window (O51) -/

namespace Sys2Proof.Machine

/-! ### The marks of a condition after its report (R112, R114) -/

/-- R97, R114: a latch and its trip touch of the latched entry its latch only, but for FOLLOW, which a trip ends. -/
theorem latchAndRaise_marks_self {id : FaultId} (other : ∀ m, id ≠ .model .follow m) (s : State) :
    (latchAndRaise id s).marks id = { s.marks id with latched := true } := by
  cases id with
  | model kind m =>
    rw [latchModel_eq, raise_marks]
    split
    · rw [tripModel, changeModel_marks, if_neg fun h => other m h.2, State.latchedAt, State.modMarks_marks_self]
    · rw [State.latchedAt, State.modMarks_marks_self]
  | nodeSilent n => exact (raise_marks _ _ _).trans (State.modMarks_marks_self _ _ _)
  | buttonStuck k => exact (raise_marks _ _ _).trans (State.modMarks_marks_self _ _ _)
  | bay b => exact (raise_marks _ _ _).trans (State.modMarks_marks_self _ _ _)

/-- R112, R114: a true condition is active where it is detected, and newly active it is latched. -/
theorem report_true_marks {id : FaultId} (other : ∀ m, id ≠ .model .follow m) (condition : id.byReport = false)
    (s : State) : ((report id true s).marks id).underlying = true ∧
      ((report id true s).marks id).active = s.detects id ∧
      (s.detects id = true → (s.marks id).active = false → ((report id true s).marks id).latched = true) := by
  rw [report_eq, condition]
  split
  · next new =>
    rw [latchAndRaise_marks_self other, State.sensed, State.modMarks_marks_self]
    exact ⟨rfl, Bool.true_and _, fun _ _ => rfl⟩
  · next old =>
    rw [State.sensed, State.modMarks_marks_self]
    exact ⟨rfl, Bool.true_and _, fun detects inactive => absurd (by simp [detects, inactive]) old⟩

theorem report_marks_ne {id k : FaultId} (trips : id.tripModel = none) (other : k ≠ id) (v : Bool) (s : State) :
    (report id v s).marks k = s.marks k := by
  cases v
  · rw [report_false, quench, State.modMarks_marks, if_neg other]
  · rw [report_true_of_no_trip trips]
    (repeat' split) <;> simp [State.modMarks_marks, other]

/-! ### A silent drive (R103) -/

theorem report_zones (id : FaultId) (v : Bool) (s : State) : (report id v s).sup.zones = s.sup.zones :=
  report_reads (fun t => t.sup.zones) (fun _ _ _ => rfl) changeModel_zones (fun _ _ => by rw [raise_sup]) id v s

/-- R103: a trip does not take its model into ENABLING, where its drive silence timer would start. -/
theorem tripModel_driveSilence (m k : ModelId) (s : State) :
    ((tripModel m s).watch k).driveSilence = (s.watch k).driveSilence := by
  have trip : ((s.model m).trip.state == .enabling && (s.model m).state != .enabling) = false := by
    cases state : (s.model m).state <;> simp [Model.trip, Model.dropCue, Model.dropHold, state]
  rw [tripModel, changeModel_watch]
  by_cases own : k = m <;> simp [own, trip]

/-- R112, R114: a report to an entry of a model touches of the models that one only, and no drive silence timer. -/
theorem reportModel_beside (kind : ModelKind) (m : ModelId) (v : Bool) (s : State) :
    (∀ k, k ≠ m → (report (.model kind m) v s).model k = s.model k) ∧
    ∀ k, ((report (.model kind m) v s).watch k).driveSilence = (s.watch k).driveSilence := by
  have latch (t : State) : (∀ k, k ≠ m → (latchAndRaise (.model kind m) t).model k = t.model k) ∧
      ∀ k, ((latchAndRaise (.model kind m) t).watch k).driveSilence = (t.watch k).driveSilence := by
    rw [latchModel_eq]
    simp only [State.model, State.watch, raise_motion, raise_sup]
    split
    · exact ⟨fun k other => changeModel_model_ne other _ _, fun k => tripModel_driveSilence m k _⟩
    · exact ⟨fun _ _ => rfl, fun _ => rfl⟩
  rw [report_eq]
  split
  · exact latch _
  · exact ⟨fun _ _ => rfl, fun _ => rfl⟩

/-- The part once a model's drive silence timer has run out. -/
def State.driveUnheard (s : State) (m : ModelId) : State := s.modWatch m fun w => { w with driveSilence := none }

theorem driveSilenceEnds_of_running {m : ModelId} {s : State} (timer : (s.watch m).driveSilence.isSome = true) :
    driveSilenceEnds m s = report (.model .driveSilent m) true (s.driveUnheard m) := if_pos timer

/-! ### A silent spine (R118) -/

/-- The part once the spine-silence timer has run out. -/
def State.spineUnheard (s : State) : State := s.onRelay fun q => { q with spineSilence := none }

theorem spineSilenceEnds_of_running {s : State} (timer : s.relay.spineSilence.isSome = true) :
    spineSilenceEnds s = report (.bay .spineSilent) true s.spineUnheard := if_pos timer

/-! ### The bay-check window (R120) -/

/-- R120: the end of a window: a quiet one ends the condition. -/
theorem windowEnds_eq (s : State) : windowEnds s = { s with
    relay := { s.relay with windowCount := 0, windowTimer := 10000 }
    sup := if s.relay.windowCount < s.settings.bayThreshold then { s.sup with
      faults := s.sup.faults.modify (.bay .bayCheck) fun k => ⟨false, false, k.latched⟩ } else s.sup } := by
  unfold windowEnds
  dsimp only
  by_cases quiet : s.relay.windowCount < s.settings.bayThreshold
  · rw [if_pos quiet, if_pos quiet, report_false]
    rfl
  · rw [if_neg quiet, if_neg quiet]
    rfl

/-- The part once the receiver at BAY_IN has left a broken frame and its counters have counted it. -/
def State.broken (s : State) (next : Receiver) (counted : BayCounters) : State :=
  { s with relay := { s.relay with rxBay := next, bayCounters := counted } }

theorem abandon_bay {s : State} (collects : s.relay.rxBay ≠ .discarding) (next : Receiver) : abandon .bay next s =
    bayError (s.broken next
      { s.relay.bayCounters with framingErrors := oneMore s.relay.bayCounters.framingErrors }) := if_neg collects

theorem receive_bay_long {s : State} (collects : s.relay.rxBay ≠ .discarding) (classify : Frame → State → State)
    {f : Frame} (long : 64 < f.payload.length) : receive .bay classify f s = bayError (s.broken .discarding
      { s.relay.bayCounters with framingErrors := oneMore s.relay.bayCounters.framingErrors }) := by
  have receiver : s.receiver .bay ≠ .discarding := collects
  rw [receive, if_neg receiver, if_pos long, abandon_bay collects]

theorem receive_bay_bad {s : State} (collects : s.relay.rxBay ≠ .discarding) (classify : Frame → State → State)
    {f : Frame} (short : f.payload.length ≤ 64) (bad : checkGood f = false) :
    receive .bay classify f s = bayError (s.broken .waiting
      { s.relay.bayCounters with checkErrors := oneMore s.relay.bayCounters.checkErrors }) := by
  have receiver : s.receiver .bay ≠ .discarding := collects
  rw [receive, if_neg receiver, if_neg (by omega)]
  dsimp only
  rw [if_neg (by simp [bad])]
  rfl

/-- What of the relay's own records the transmitters and the lamps leave. -/
theorem State.tallied_of_steady {s t : State} (h : t.steady.relay = s.steady.relay) :
    t.relay.windowCount = s.relay.windowCount ∧ t.relay.rxBay = s.relay.rxBay ∧
      t.relay.bayCounters = s.relay.bayCounters ∧ t.relay.spineSilence = s.relay.spineSilence :=
  ⟨(congrArg LineRelay.windowCount h :), (congrArg LineRelay.rxBay h :), (congrArg LineRelay.bayCounters h :),
    (congrArg LineRelay.spineSilence h :)⟩

/-- R120: an error that reaches the threshold of its window makes BAY_CHECK true, in the settled state. -/
theorem bayError_reports {s : State} (detects : (s.route 10).detect = true) (next : Receiver) (counted : BayCounters)
    (reaches : s.settings.bayThreshold ≤ bump 255 s.relay.windowCount) :
    let t := settle (bayError (s.broken next counted))
    t.relay.windowCount = bump 255 s.relay.windowCount ∧ t.relay.rxBay = next ∧ t.relay.bayCounters = counted ∧
      (t.marks (.bay .bayCheck)).underlying = true ∧ (t.marks (.bay .bayCheck)).active = true ∧
      ((s.marks (.bay .bayCheck)).active = false → (t.marks (.bay .bayCheck)).latched = true) ∧
      t.motion = s.motion ∧ t.press.waits = s.press.waits := by
  let counting := (s.broken next counted).onRelay fun q => { q with windowCount := bump 255 q.windowCount }
  have error : bayError (s.broken next counted) = report (.bay .bayCheck) true counting := if_pos reaches
  have reported := report_eq_of_no_trip (id := .bay .bayCheck) rfl true counting
  obtain ⟨windowCount, receiver, counters, -⟩ := State.tallied_of_steady
    (settle_steady_relay (State.relay_of_outer (report_outer (.bay .bayCheck) true counting)))
  obtain ⟨underlying, active, latched⟩ := report_true_marks (id := .bay .bayCheck) (by simp) rfl counting
  dsimp only
  rw [error, settle_marks, settle_motion, settle_press_waits]
  exact ⟨windowCount, receiver, counters, underlying, active.trans detects, latched detects,
    (congrArg State.motion reported :), (congrArg (fun u => u.press.waits) reported :)⟩

end Sys2Proof.Machine

/-! ## What a review of the zones leaves of buttons and paused models (R13, R61, R92) -/

namespace Sys2Proof.Machine

/-! ### The desk

`State.desk` is what of the buttons no operation on a zone or on a model touches, and the show clock with it. -/

structure Desk where
  recorded : Vector (BitVec 16) 62
  buttons : Vector (Option Button) 128
  stuck : Key → Marks
  clock : Clock

def State.desk (s : State) : Desk :=
  ⟨s.press.recorded, s.press.buttons, fun k => s.marks (.buttonStuck k), s.motion.clock⟩

theorem State.recorded_of_desk {s t : State} (h : t.desk = s.desk) : t.press.recorded = s.press.recorded :=
  congrArg Desk.recorded h

theorem State.entry_of_desk {s t : State} (h : t.desk = s.desk) : t.entry = s.entry :=
  congrArg (fun d : Desk => tget d.buttons) h

theorem State.stuck_of_desk {s t : State} (h : t.desk = s.desk) (k : Key) :
    t.marks (.buttonStuck k) = s.marks (.buttonStuck k) := congrFun (congrArg Desk.stuck h) k

theorem State.clock_of_desk {s t : State} (h : t.desk = s.desk) : t.motion.clock = s.motion.clock :=
  congrArg Desk.clock h

@[simp] theorem quietTest_desk (b : Bool) (s : State) : (quietTest b s).desk = s.desk := by
  simp only [State.desk, State.marks, quietTest_press, quietTest_motion, quietTest_sup]

@[simp] theorem raise_desk (a : About) (s : State) : (raise a s).desk = s.desk := by
  simp only [State.desk, State.marks, raise_press, raise_motion, raise_sup]

theorem modMarks_desk (s : State) (kind : ModelKind) (m : ModelId) (f : Marks → Marks) :
    (s.modMarks (.model kind m) f).desk = s.desk := by simp [State.desk, State.modMarks_marks]

@[simp] theorem changeModel_desk (m : ModelId) (f : Model → Model) (s : State) :
    (changeModel m f s).desk = s.desk := by
  have clock : (changeModel m f s).motion.clock = s.motion.clock := by rw [changeModel_motion]
  simp [State.desk, changeModel_marks, changeModel_buttons, clock]

@[simp] theorem driveReport_desk (m : ModelId) (s : State) : (driveReport m s).desk = s.desk := by
  rw [driveReport_eq, raise_desk]
  split
  · exact modMarks_desk s _ _ _
  · exact (changeModel_desk m _ _).trans (modMarks_desk s _ _ _)

@[simp] theorem startRequest_desk (m : ModelId) (c : CueId) (o : Owner) (p : Bool) (s : State) :
    (startRequest m c o p s).1.desk = s.desk := by
  rw [startRequest_eq]
  cases s.verdict m c o <;> simp [startCue]

@[simp] theorem removeEntry_desk (m : ModelId) (s : State) : (removeEntry m s).desk = s.desk := quietTest_desk _ _

@[simp] theorem serveEntry_desk (m : ModelId) (c : CueId) (s : State) : (serveEntry m c s).1.desk = s.desk := by
  have decided := startRequest_desk m c .control false s
  unfold serveEntry
  split <;> rename_i answer <;> rw [answer] at decided <;> simpa using decided

@[simp] theorem freeIfStartable_desk (m : ModelId) (s : State) : (freeIfStartable m s).desk = s.desk := by
  unfold freeIfStartable becomeFree
  split
  · split
    · rfl
    · rename_i e _
      have served := serveEntry_desk m e.cue s
      split <;> rename_i answer <;> rw [answer] at served <;> exact served
  · rfl

@[simp] theorem updateMark_desk (m : ModelId) (s : State) : (updateMark m s).desk = s.desk := by
  obtain same | hold | release := updateMark_cases m s
  · rw [same]
  · rw [hold, holdModel, changeModel_desk]; rfl
  · rw [release, releaseModel]
    split
    · rw [freeIfStartable_desk]; rfl
    · rw [changeModel_desk]; rfl

@[simp] theorem setZone_desk (z : ZoneId) (new : Zone) (s : State) : (setZone z new s).desk = s.desk := by
  rw [setZone_eq]
  split
  · rfl
  · exact forEach_keeps State.desk _ (fun m t => by unfold followZone; split <;> simp) _ _

@[simp] theorem reviewZone_desk (z : ZoneId) (s : State) : (reviewZone z s).desk = s.desk := by
  obtain ⟨same, -⟩ | set := reviewZone_eq z s
  · rw [same]
  · rw [set, setZone_desk]

theorem reviewZones_desk (s : State) : (reviewZones s).desk = s.desk :=
  forEach_keeps State.desk _ reviewZone_desk _ _

/-! ### Paused models -/

/-- R13: the model is paused in the cue of a button, its pause window at a time. -/
structure Model.PausedBy (y : Model) (k : Key) (window : Nat) : Prop where
  state : y.state = .holding
  pause : y.holdPause = true
  target : y.target = some .cue
  owner : y.owner = some (.button k)
  timer : y.pauseTimer = some window

/-- R13: a pause of a cue in play, or of one held by a zone. -/
theorem Model.pausedBy_pause {x : Model} {k : Key} (owner : x.owner = some (.button k)) (plays : x.state = .running ∨
    (x.state = .holding ∧ x.target = some .cue ∧ x.pauseTimer = none)) :
    x.pause.PausedBy k (x.config.pauseWindow * 1000) := by
  obtain running | ⟨holding, cue, unpaused⟩ := plays
  · constructor <;> simp [Model.pause, running, owner]
  · constructor <;> simp [Model.pause, holding, cue, unpaused, owner]

theorem Model.PausedBy.zoneHold {y : Model} {k : Key} {window : Nat} (h : y.PausedBy k window) :
    y.zoneHold.PausedBy k window := by
  have held : y.zoneHold = { y with holdZone := true } := by simp only [Model.zoneHold, h.state]
  rw [held]
  exact ⟨h.state, h.pause, h.target, h.owner, h.timer⟩

theorem Model.PausedBy.zoneRelease {y : Model} {k : Key} {window : Nat} (h : y.PausedBy k window) (g : GalleryMode) :
    (y.zoneRelease g).PausedBy k window := by
  rw [zoneRelease_paused g h.state h.pause]
  exact ⟨h.state, h.pause, h.target, h.owner, h.timer⟩

section
variable {m : ModelId} {k : Key} {window : Nat} {s : State}

/-- R11, R12: a zone hold and a zone release leave a paused model paused. -/
theorem updateMark_pausedBy (h : (s.model m).PausedBy k window) : ((updateMark m s).model m).PausedBy k window := by
  obtain same | hold | release := updateMark_cases m s
  · rw [same]; exact h
  · rw [hold, holdModel_marked.1]
    exact h.zoneHold
  · rw [release, (releaseModel_marked h.state).1]
    exact h.zoneRelease _

theorem setZone_pausedBy (z : ZoneId) (new : Zone) (h : (s.model m).PausedBy k window) :
    ((setZone z new s).model m).PausedBy k window := by
  by_cases apart : (s.model m).config.zoneMask.getLsbD z.val = false ∨ new.state.isOccupied = s.zoneOccupied z
  · have model : (setZone z new s).model m = s.model m := congrArg Local.model (setZone_apart apart)
    rw [model]
    exact h
  · obtain ⟨covered, changed⟩ := not_or.mp apart
    obtain ⟨t, -, before, after⟩ := setZone_meets (Bool.eq_true_of_not_eq_false covered) changed
    have start : t.model m = s.model m := congrArg Local.model before
    have model : (setZone z new s).model m = (updateMark m t).model m := congrArg Local.model after
    rw [model]
    exact updateMark_pausedBy (start ▸ h)

theorem reviewZones_pausedBy (h : (s.model m).PausedBy k window) : ((reviewZones s).model m).PausedBy k window := by
  refine forEach_invariant (Good := fun t => (t.model m).PausedBy k window) (fun z t paused => ?_) allZones h
  obtain ⟨same, -⟩ | set := reviewZone_eq z t
  · rw [same]
    exact paused
  · rw [set]
    exact setZone_pausedBy z _ paused

end

/-! ### Zones that a sensor reports (R90) -/

/-- R90, R91: a zone that its sensor is recorded to report is occupied once it is reviewed. -/
theorem reviewed_of_reported {n : NodeId} {z : ZoneId} {s : State} (sensor : (s.node n).role = .sensor)
    (owns : (s.node n).zones.getLsbD z.val = true) (reports : (tget s.sup.reported n).getLsbD z.val = true) :
    (s.reviewed z).state = .occupied := by
  have own : s.zoneOwned z = true := (zoneOwned_iff s z).mpr ⟨n, sensor, owns⟩
  have held : s.zoneHeld z = true := (zoneHeld_iff s z).mpr ⟨n, ⟨sensor, owns⟩, .inl reports⟩
  rw [State.reviewed, own, held, if_neg (by decide), if_pos rfl]
  split
  · next now => exact now
  · rfl

end Sys2Proof.Machine

/-! ## The emptying of a recorded set (R61) -/

namespace Sys2Proof.Machine

/-! ### The drop of one button -/

/-- R61 points 1 and 2: the part once a dropped button's timers are stopped and SUSPECT is taken from it. -/
def State.letGo (s : State) (k : Key) (i : EntryIx) (b : Button) : State :=
  { s with
    press := { s.press with
      buttons := tput s.press.buttons i (some { b with stuckTimer := none, downSince := none, suspect := false }) }
    sup := if b.suspect then { s.sup with
      faults := s.sup.faults.modify (.buttonStuck k) fun x => ⟨false, false, x.latched⟩ } else s.sup }

theorem dropButton_of_unmapped {k : Key} {s : State} (unmapped : s.entryOf k = none) : dropButton k s = s := by
  rw [dropButton, unmapped]

section
variable {s : State} {k : Key} {i : EntryIx} {b : Button} (mapped : s.entryOf k = some i) (entry : s.entry i = some b)
include mapped entry

/-- R61: a dropped button is let go, and the cue that a HOLD button owns is paused. -/
theorem dropButton_of_entry : dropButton k s =
    if b.mode = .hold ∧ s.ownsCue k b.modelId = true then pauseModel b.modelId (s.letGo k i b) else s.letGo k i b := by
  have stopped := modEntry_of_entry entry fun b => { b with stuckTimer := none, downSince := none }
  have read : (s.modEntry i fun b => { b with stuckTimer := none, downSince := none }).entry i =
      some { b with stuckTimer := none, downSince := none } := by
    rw [stopped]; exact tget_tput_self _ _ _
  have letGo : (if b.suspect then
      clearSuspect i k (s.modEntry i fun b => { b with stuckTimer := none, downSince := none })
      else s.modEntry i fun b => { b with stuckTimer := none, downSince := none }) = s.letGo k i b := by
    unfold State.letGo
    cases suspect : b.suspect
    · have same : ({ b with stuckTimer := none, downSince := none, suspect := false } : Button) =
          { b with stuckTimer := none, downSince := none } := by rw [← suspect]
      rw [same]
      exact stopped
    · rw [if_pos rfl, if_pos rfl, clearSuspect, report_false, modEntry_of_entry read, stopped, tput_tput]
      rfl
  have pauses : (b.mode == .hold && (s.letGo k i b).ownsCue k b.modelId) = true ↔
      b.mode = .hold ∧ s.ownsCue k b.modelId = true := by
    rw [Bool.and_eq_true, beq_iff_eq]
    rfl
  unfold dropButton
  rw [mapped]
  dsimp only
  rw [read]
  dsimp only
  rw [letGo]
  exact if_congr pauses rfl rfl

end

theorem letGo_entry (s : State) (k : Key) (i j : EntryIx) (b : Button) : (s.letGo k i b).entry j = if j = i then
    some { b with stuckTimer := none, downSince := none, suspect := false } else s.entry j := tget_tput _ _ _ _

theorem letGo_marks (s : State) (k : Key) (i : EntryIx) (b : Button) (id : FaultId) : (s.letGo k i b).marks id =
    if b.suspect = true ∧ id = .buttonStuck k then ⟨false, false, (s.marks id).latched⟩ else s.marks id := by
  unfold State.letGo
  cases b.suspect
  · rfl
  · refine (FaultTable.get_modify _ _ _ _).trans ?_
    by_cases own : id = .buttonStuck k
    · subst own; simp [State.marks]
    · simp [own, State.marks]

/-- What a change of a model keeps, and a button let go, the drop of a button keeps. -/
theorem dropButton_reads {β : Type} (read : State → β) (change : ∀ m f t, read (changeModel m f t) = read t)
    (letGo : ∀ t k i b, t.entry i = some b → read (t.letGo k i b) = read t) (k : Key) (s : State) :
    read (dropButton k s) = read s := by
  cases mapped : s.entryOf k with
  | none => rw [dropButton_of_unmapped mapped]
  | some i =>
    obtain ⟨b, entry, -⟩ := entry_of_entryOf mapped
    rw [dropButton_of_entry mapped entry]
    split
    · exact (change _ _ _).trans (letGo s k i b entry)
    · exact letGo s k i b entry

theorem dropButton_backdrop (k : Key) (s : State) : (dropButton k s).backdrop = s.backdrop :=
  dropButton_reads State.backdrop (fun m f t => changeModel_backdrop m f t)
    (fun t k i b _ => by unfold State.letGo; cases b.suspect <;> rfl) k s

theorem dropButton_sources (k : Key) (s : State) : (dropButton k s).sources = s.sources :=
  dropButton_reads State.sources (fun m f t => changeModel_sources m f t)
    (fun t k i b _ => by
      have reported : (t.letGo k i b).sup.reported = t.sup.reported := by unfold State.letGo; cases b.suspect <;> rfl
      simp [State.sources, reported, letGo_marks]) k s

theorem dropButton_board (k : Key) (s : State) : (dropButton k s).board = s.board :=
  dropButton_reads State.board (fun m f t => changeModel_board m f t)
    (fun t k i b entry => by
      have keys : (fun j => ((t.letGo k i b).entry j).map Button.key) = fun j => (t.entry j).map Button.key :=
        funext fun j => by
          rw [letGo_entry]
          by_cases own : j = i
          · subst own; rw [if_pos rfl, entry]; rfl
          · rw [if_neg own]
      exact congrArg (·, t.lamp) keys) k s

/-! ### What the drop of a button does, and what it leaves of the others -/

/-- What an operation on other buttons leaves of the button `k` with its entry `i`: the entry, the condition, and the
model `m` where the button owns its cue. -/
structure State.Spares (k : Key) (i : EntryIx) (m : ModelId) (s t : State) : Prop where
  mapped : t.entryOf k = s.entryOf k
  entry : t.entry i = s.entry i
  condition : t.marks (.buttonStuck k) = s.marks (.buttonStuck k)
  model : (s.model m).owner = some (.button k) → t.model m = s.model m

/-- R61 points 1 to 3: what is left of a button `k` with its entry `i` of `b` that is let go. -/
structure State.Released (k : Key) (i : EntryIx) (b : Button) (s t : State) : Prop where
  entry : t.entry i = some { b with stuckTimer := none, downSince := none, suspect := false }
  condition : t.marks (.buttonStuck k) =
    if b.suspect then ⟨false, false, (s.marks (.buttonStuck k)).latched⟩ else s.marks (.buttonStuck k)
  model : b.mode = .hold → (s.model b.modelId).owner = some (.button k) → t.model b.modelId = (s.model b.modelId).pause

section
variable {k : Key} {i : EntryIx} {m : ModelId} {b : Button} {s t u : State}

theorem State.Spares.refl : s.Spares k i m s := ⟨rfl, rfl, rfl, fun _ => rfl⟩

theorem State.Spares.trans (h : State.Spares k i m s t) (g : State.Spares k i m t u) : State.Spares k i m s u where
  mapped := g.mapped.trans h.mapped
  entry := g.entry.trans h.entry
  condition := g.condition.trans h.condition
  model owner := by
    have model := h.model owner
    exact (g.model (model ▸ owner)).trans model

theorem Model.pause_owner (x : Model) : x.pause.owner = x.owner := by
  unfold Model.pause
  split
  · rfl
  · split <;> rfl
  all_goals rfl

theorem State.Released.after (h : State.Spares k i b.modelId s t) (g : State.Released k i b t u) :
    State.Released k i b s u where
  entry := g.entry
  condition := by rw [g.condition, h.condition]
  model hold owner := by
    have model := h.model owner
    rw [g.model hold (model ▸ owner), model]

theorem State.Released.then (h : State.Released k i b s t) (g : State.Spares k i b.modelId t u) :
    State.Released k i b s u where
  entry := g.entry.trans h.entry
  condition := g.condition.trans h.condition
  model hold owner := by
    have model := h.model hold owner
    exact (g.model (by rw [model, Model.pause_owner, owner])).trans model

/-- R13: a pause leaves a model in its state or HOLDING. -/
theorem Model.pause_state (x : Model) : x.pause.state = x.state ∨ x.pause.state = .holding := by
  unfold Model.pause
  split
  · exact .inr rfl
  · next holding =>
    split
    · exact .inr holding
    · exact .inr holding
  all_goals exact .inl rfl

theorem settled_pause (x : Model) : x.settled x.pause = x.pause := by
  refine if_neg ?_
  obtain same | held := x.pause_state
  · simp [Model.leaves, same]
  · simp [Model.leaves, held, ModelState.outOfService]

theorem dropButton_released (mapped : s.entryOf k = some i) (entry : s.entry i = some b) :
    State.Released k i b s (dropButton k s) := by
  have entryPaused (t : State) : (pauseModel b.modelId t).entry = t.entry :=
    congrArg (fun v => tget v) (changeModel_buttons _ _ t)
  rw [dropButton_of_entry mapped entry]
  constructor
  · split
    · rw [entryPaused, letGo_entry, if_pos rfl]
    · rw [letGo_entry, if_pos rfl]
  · split
    · rw [pauseModel, changeModel_marks, if_neg (by simp), letGo_marks]
      simp
    · rw [letGo_marks]
      simp
  · intro hold owner
    have owns : s.ownsCue k b.modelId = true := beq_iff_eq.mpr owner
    rw [if_pos ⟨hold, owns⟩, pauseModel, changeModel_model_self, settled_pause]
    rfl

/-- R61: the drop of one button spares the others. -/
theorem dropButton_spares {l : Key} (other : l ≠ k) (mapped : s.entryOf k = some i) :
    State.Spares k i m s (dropButton l s) := by
  have mappedStill : (dropButton l s).entryOf k = s.entryOf k := congrFun (entryOf_of_board (dropButton_board l s)) k
  cases there : s.entryOf l with
  | none => rw [dropButton_of_unmapped there]; exact .refl
  | some j =>
    obtain ⟨c, entry, key⟩ := entry_of_entryOf there
    have apart : i ≠ j := fun same => by
      subst same
      exact other (key.symm.trans (key_of_entryOf mapped entry))
    have condition : (s.letGo l j c).marks (.buttonStuck k) = s.marks (.buttonStuck k) := by
      rw [letGo_marks, if_neg (by simp [Ne.symm other])]
    have entryKept : (s.letGo l j c).entry i = s.entry i := by rw [letGo_entry, if_neg apart]
    refine ⟨mappedStill, ?_, ?_, fun owner => ?_⟩ <;> rw [dropButton_of_entry there entry] <;> split
    · exact (congrArg (fun v => tget v i) (changeModel_buttons _ _ _)).trans entryKept
    · exact entryKept
    · rw [pauseModel, changeModel_marks, if_neg (by simp), condition]
    · exact condition
    · next pauses =>
      have elsewhere : m ≠ c.modelId := fun same => by
        have owns := beq_iff_eq.mp pauses.2
        rw [← same, owner] at owns
        exact other (by simpa using owns.symm)
      rw [pauseModel, changeModel_model_ne elsewhere]
      rfl
    · rfl

/-! ### The drops of a set of buttons -/

/-- R61: the drops of other buttons of a panel spare the button. -/
theorem dropButtons_spare {n : NodeId} {bs : List ButtonIx} (others : ∀ c ∈ bs, (⟨n, c⟩ : Key) ≠ k)
    (mapped : s.entryOf k = some i) : State.Spares k i m s (forEach bs (fun c t => dropButton ⟨n, c⟩ t) s) := by
  induction bs generalizing s with
  | nil => exact .refl
  | cons c rest ih =>
    have first := dropButton_spares (m := m) (others c List.mem_cons_self) mapped
    exact first.trans (ih (fun d member => others d (List.mem_cons_of_mem c member)) (first.mapped.trans mapped))

/-- R61: among the drops of several buttons, each once, each is let go. -/
theorem dropButtons_release {bs : List ButtonIx} (apart : bs.Nodup) (member : k.button ∈ bs)
    (mapped : s.entryOf k = some i) (entry : s.entry i = some b) :
    State.Released k i b s (forEach bs (fun c t => dropButton ⟨k.node, c⟩ t) s) := by
  obtain ⟨before, after, rfl⟩ := List.append_of_mem member
  rw [List.nodup_middle, List.nodup_cons, List.mem_append, not_or] at apart
  obtain ⟨⟨notBefore, notAfter⟩, -⟩ := apart
  have other {l : List ButtonIx} (out : k.button ∉ l) : ∀ c ∈ l, (⟨k.node, c⟩ : Key) ≠ k :=
    fun c inside same => out (congrArg Key.button same ▸ inside)
  rw [forEach_append, forEach_cons]
  have first := dropButtons_spare (m := b.modelId) (other notBefore) mapped
  have mappedThen := first.mapped.trans mapped
  have released := dropButton_released mappedThen (first.entry.trans entry)
  have mappedLast := (congrFun (entryOf_of_board (dropButton_board k _)) k).trans mappedThen
  exact .after first (released.then (dropButtons_spare (other notAfter) mappedLast))

/-! ### The emptying (R61) -/

/-- The buttons of a panel that are recorded DOWN, in ascending number. -/
def State.downButtons (s : State) (n : NodeId) : List ButtonIx :=
  allButtons.filter fun c => (tget s.press.recorded n).getLsbD c.val

theorem mem_downButtons {n : NodeId} {c : ButtonIx} : c ∈ s.downButtons n ↔ s.isDown ⟨n, c⟩ = true := by
  rw [State.downButtons, List.mem_filter]
  exact ⟨fun h => h.2, fun h => ⟨List.mem_finRange c, h⟩⟩

/-- The part once a panel's recorded set is empty. -/
def State.emptied (s : State) (n : NodeId) : State :=
  s.onPress fun q => { q with recorded := tput q.recorded n 0 }

theorem emptyRecorded_eq (n : NodeId) (s : State) : emptyRecorded n s =
    forEach (s.downButtons n) (fun c t => dropButton ⟨n, c⟩ t) (s.emptied n) := rfl

theorem emptyRecorded_spares (up : s.isDown k = false) (mapped : s.entryOf k = some i) :
    State.Spares k i m s (emptyRecorded k.node s) := by
  have start : State.Spares k i m s (s.emptied k.node) := ⟨rfl, rfl, rfl, fun _ => rfl⟩
  refine start.trans (dropButtons_spare (fun c member same => ?_) mapped)
  have down := mem_downButtons.mp member
  rw [same, up] at down
  exact absurd down (by decide)

theorem emptyRecorded_released (down : s.isDown k = true) (mapped : s.entryOf k = some i) (entry : s.entry i = some b) :
    State.Released k i b s (emptyRecorded k.node s) := by
  have start : State.Spares k i b.modelId s (s.emptied k.node) := ⟨rfl, rfl, rfl, fun _ => rfl⟩
  have apart : (s.downButtons k.node).Nodup := (List.nodup_finRange 16).filter _
  exact .after start (dropButtons_release apart (mem_downButtons.mpr down) mapped entry)

theorem emptyRecorded_recorded (n : NodeId) (s : State) :
    (emptyRecorded n s).press.recorded = tput s.press.recorded n 0 :=
  congrArg Backdrop.recorded
    (forEach_keeps State.backdrop _ (fun c t => dropButton_backdrop ⟨n, c⟩ t) (s.downButtons n) (s.emptied n))

theorem emptyRecorded_clock (n : NodeId) (s : State) : (emptyRecorded n s).motion.clock = s.motion.clock :=
  congrArg Backdrop.clock
    (forEach_keeps State.backdrop _ (fun c t => dropButton_backdrop ⟨n, c⟩ t) (s.downButtons n) (s.emptied n))

theorem emptyRecorded_sources (n : NodeId) (s : State) : (emptyRecorded n s).sources = s.sources :=
  forEach_keeps State.sources _ (fun c t => dropButton_sources ⟨n, c⟩ t) (s.downButtons n) (s.emptied n)

end

end Sys2Proof.Machine

/-! ## Silent nodes, and the silences together (O51) -/

namespace Sys2Proof.Machine

/-! ### A silent node (R61, R89, R117) -/

/-- R117: the part once the silence of a node is reported. -/
def State.nodeUnheard (s : State) (n : NodeId) : State :=
  report (.nodeSilent n) true (s.modNode n fun e => { e with silence := none })

/-- R61: a silent panel's buttons are let go. -/
def handsOff (n : NodeId) (s : State) : State := if (s.node n).role = .panel then emptyRecorded n s else s

/-- R89: a silent sensor is taken to report its zones. -/
def State.zonesLost (s : State) (n : NodeId) : State :=
  if (s.node n).role = .sensor then s.onSup fun q => { q with reported := tput q.reported n (s.node n).zones } else s

theorem nodeSilenceEnds_of_running {n : NodeId} {s : State} (timer : (s.node n).silence.isSome = true) :
    nodeSilenceEnds n s = (let u := handsOff n (s.nodeUnheard n)
      if (u.marks (.nodeSilent n)).active && !(s.marks (.nodeSilent n)).active then reviewZones (u.zonesLost n)
      else u) := if_pos timer

section
variable (n : NodeId) (s : State)

theorem nodeUnheard_eq : s.nodeUnheard n = { s.modNode n fun e => { e with silence := none } with
    sup := { s.sup with faults := (s.nodeUnheard n).sup.faults }, alert := (s.nodeUnheard n).alert } :=
  report_eq_of_no_trip rfl true _

theorem nodeUnheard_node (k : NodeId) :
    (s.nodeUnheard n).node k = if k = n then { s.node n with silence := none } else s.node k := by
  rw [nodeUnheard_eq]
  exact State.modNode_node s n k _

/-- R117: the silence of a node spares every button. -/
theorem nodeUnheard_spares (k : Key) (i : EntryIx) (m : ModelId) : State.Spares k i m s (s.nodeUnheard n) where
  mapped := congrFun (entryOf_of_board (report_board _ _ _)) k
  entry := by rw [nodeUnheard_eq]; rfl
  condition := report_marks_ne rfl (by simp) true _
  model _ := by rw [nodeUnheard_eq]; rfl

theorem handsOff_outer : (handsOff n s).outer = s.outer := by
  unfold handsOff
  split
  · exact emptyRecorded_outer n s
  · rfl

theorem handsOff_sources : (handsOff n s).sources = s.sources := by
  unfold handsOff
  split
  · exact emptyRecorded_sources n s
  · rfl

theorem handsOff_clock : (handsOff n s).motion.clock = s.motion.clock := by
  unfold handsOff
  split
  · exact emptyRecorded_clock n s
  · rfl

theorem handsOff_recorded : tget (handsOff n s).press.recorded n =
    if (s.node n).role = .panel then 0 else tget s.press.recorded n := by
  unfold handsOff
  split
  · rw [emptyRecorded_recorded, tget_tput_self]
  · rfl

theorem zonesLost_eq : s.zonesLost n = { s with sup := { s.sup with reported := (s.zonesLost n).sup.reported } } := by
  unfold State.zonesLost
  split <;> rfl

end

theorem State.silent_of_sources {s t : State} (h : t.sources = s.sources) (n : NodeId) :
    t.marks (.nodeSilent n) = s.marks (.nodeSilent n) := congrFun (congrArg (fun x => x.2.1) h) n

/-- What the review of the zones leaves, once a node is silent: the rest of the part, the buttons, the condition and the
models that are paused. -/
structure State.Looked (s t : State) : Prop where
  outer : t.outer = s.outer
  desk : t.desk = s.desk
  silent : ∀ n, t.marks (.nodeSilent n) = s.marks (.nodeSilent n)
  paused : ∀ m k window, (s.model m).PausedBy k window → (t.model m).PausedBy k window

theorem reviewZones_looked (n : NodeId) (s : State) : State.Looked s (reviewZones (s.zonesLost n)) := by
  have lost := zonesLost_eq n s
  have desk : (s.zonesLost n).desk = s.desk := by rw [lost]; rfl
  have outer : (s.zonesLost n).outer = s.outer := by rw [lost]; rfl
  have silent (k : NodeId) : (s.zonesLost n).marks (.nodeSilent k) = s.marks (.nodeSilent k) := by rw [lost]; rfl
  have model (m : ModelId) : (s.zonesLost n).model m = s.model m := by rw [lost]; rfl
  refine ⟨(reviewZones_outer _).trans outer, (reviewZones_desk _).trans desk, fun k => ?_, fun m k window paused =>
    reviewZones_pausedBy ((model m).symm ▸ paused)⟩
  exact (State.silent_of_sources (reviewZones_sources _) k).trans (silent k)

section
variable {n : NodeId} {s : State} (timer : (s.node n).silence.isSome = true)
include timer

theorem nodeSilenceEnds_looked : State.Looked (handsOff n (s.nodeUnheard n)) (nodeSilenceEnds n s) := by
  rw [nodeSilenceEnds_of_running timer]
  dsimp only
  split
  · exact reviewZones_looked n _
  · exact ⟨rfl, rfl, fun _ => rfl, fun _ _ _ => id⟩

/-- R112, R117: the condition of the silent node. -/
theorem nodeSilenceEnds_marks : (nodeSilenceEnds n s).marks (.nodeSilent n) = (s.nodeUnheard n).marks (.nodeSilent n) :=
  ((nodeSilenceEnds_looked timer).silent n).trans
    (State.silent_of_sources (handsOff_sources n _) n)

/-- R61, R117: of the relay and the settings a silence touches the node's entry only. -/
theorem nodeSilenceEnds_outer : (nodeSilenceEnds n s).outer = (s.modNode n fun e => { e with silence := none }).outer :=
  (nodeSilenceEnds_looked timer).outer.trans ((handsOff_outer n _).trans (report_outer _ _ _))

theorem nodeSilenceEnds_node (k : NodeId) :
    (nodeSilenceEnds n s).node k = if k = n then { s.node n with silence := none } else s.node k :=
  (congrArg (fun r => tget (LineRelay.nodes r) k) (State.relay_of_outer (nodeSilenceEnds_outer timer))).trans
    (State.modNode_node s n k _)

theorem nodeSilenceEnds_recorded : tget (nodeSilenceEnds n s).press.recorded n =
    if (s.node n).role = .panel then 0 else tget s.press.recorded n := by
  have role : ((s.nodeUnheard n).node n).role = (s.node n).role := by rw [nodeUnheard_node, if_pos rfl]
  have recorded : (s.nodeUnheard n).press.recorded = s.press.recorded := by rw [nodeUnheard_eq]; rfl
  rw [State.recorded_of_desk (nodeSilenceEnds_looked timer).desk, handsOff_recorded, role, recorded]

theorem nodeSilenceEnds_clock : (nodeSilenceEnds n s).motion.clock = s.motion.clock := by
  rw [State.clock_of_desk (nodeSilenceEnds_looked timer).desk, handsOff_clock, nodeUnheard_eq]
  rfl

/-- R89, R91: a sensor that is newly silent is recorded to report its zones, and they are occupied. -/
theorem nodeSilenceEnds_zones (sensor : (s.node n).role = .sensor) (detects : (s.route 5).detect = true)
    (new : (s.marks (.nodeSilent n)).active = false) :
    tget (nodeSilenceEnds n s).sup.reported n = (s.node n).zones ∧
    ∀ z, (s.node n).zones.getLsbD z.val = true →
      (tget (nodeSilenceEnds n s).sup.zones z).state = .occupied := by
  have node : (s.nodeUnheard n).node n = { s.node n with silence := none } := by rw [nodeUnheard_node, if_pos rfl]
  have off : handsOff n (s.nodeUnheard n) = s.nodeUnheard n := if_neg (by rw [node]; simp [sensor])
  have active : ((s.nodeUnheard n).marks (.nodeSilent n)).active = true :=
    (report_true_marks (id := .nodeSilent n) (by simp) rfl _).2.1.trans detects
  have lost : (s.nodeUnheard n).zonesLost n = (s.nodeUnheard n).onSup fun q =>
      { q with reported := tput q.reported n (s.node n).zones } := by
    rw [State.zonesLost, node, if_pos sensor]
  have ends : nodeSilenceEnds n s = reviewZones ((s.nodeUnheard n).zonesLost n) := by
    rw [nodeSilenceEnds_of_running timer, off]
    exact if_pos (by rw [active, new]; rfl)
  have lostNode : ((s.nodeUnheard n).zonesLost n).node n = { s.node n with silence := none } := by
    rw [lost]; exact node
  have reported : tget ((s.nodeUnheard n).zonesLost n).sup.reported n = (s.node n).zones := by
    rw [lost]; exact tget_tput_self _ _ _
  rw [ends]
  refine ⟨by rw [State.reported_of_sources (reviewZones_sources _), reported], fun z owns => ?_⟩
  rw [reviewZones_zone]
  exact reviewed_of_reported (by rw [lostNode]; exact sensor) (by rw [lostNode]; exact owns) (by rw [reported, owns])

/-- R61: each button of a silent panel is let go. -/
theorem nodeSilenceEnds_removed (panel : (s.node n).role = .panel) {k : Key} {i : EntryIx} {b : Button}
    (own : k.node = n) (mapped : s.entryOf k = some i) (entry : s.entry i = some b) :
    s.Removed (nodeSilenceEnds n s) k i b := by
  subst own
  obtain ⟨-, desk, -, paused⟩ := nodeSilenceEnds_looked timer
  have off : handsOff k.node (s.nodeUnheard k.node) = emptyRecorded k.node (s.nodeUnheard k.node) :=
    if_pos (by rw [nodeUnheard_node, if_pos rfl]; exact panel)
  rw [off] at desk paused
  have start := nodeUnheard_spares k.node s k i b.modelId
  have isDown : (s.nodeUnheard k.node).isDown k = s.isDown k := by rw [nodeUnheard_eq]; rfl
  have mappedThen := start.mapped.trans mapped
  have released (down : s.isDown k = true) : State.Released k i b s (emptyRecorded k.node (s.nodeUnheard k.node)) :=
    .after start (emptyRecorded_released (isDown.trans down) mappedThen (start.entry.trans entry))
  refine ⟨fun up => ?_, fun down => ?_, fun down => ?_, fun down hold owns => ?_⟩
  · have spared := start.trans (emptyRecorded_spares (isDown.trans up) mappedThen)
    exact ⟨by rw [State.entry_of_desk desk, spared.entry, entry],
      by rw [State.stuck_of_desk desk, spared.condition]⟩
  · rw [State.entry_of_desk desk, (released down).entry]
  · rw [State.stuck_of_desk desk, (released down).condition]
  · intro x plays y
    have owner : x.owner = some (.button k) := beq_iff_eq.mp owns
    obtain ⟨state, pause, target, owner, window⟩ := paused b.modelId k _
      (((released down).model hold owner).symm ▸ Model.pausedBy_pause owner plays)
    exact ⟨state, pause, target, owner, window⟩

end

/-- The transmitters and the lamps touch nothing of a button that is let go. -/
theorem State.Removed.of_steady {s t u : State} {k : Key} {i : EntryIx} {b : Button} (h : s.Removed t k i b)
    (same : u.steady = t.steady) : s.Removed u k i b := by
  have entry : u.entry i = t.entry i := congrFun (entry_of_steady same) i
  have marks : u.marks (.buttonStuck k) = t.marks (.buttonStuck k) :=
    congrArg (fun q : Supervisor => q.faults.get (.buttonStuck k)) (State.sup_of_steady same)
  have model : u.model b.modelId = t.model b.modelId :=
    congrArg (fun q : MotionSequencer => tget q.models b.modelId) (State.motion_of_steady same)
  constructor
  · rw [entry, marks]; exact h.up
  · rw [entry]; exact h.down
  · rw [marks]; exact h.condition
  · rw [model]; exact h.paused

/-! ### The silences and the bay-check errors -/

theorem nodeSilenceExpiry_reports (n : NodeId) {s : State} (running : s.running = true)
    (timer : (s.node n).silence.isSome = true) : ∃ t, exec (.nodeSilenceExpiry n) s = .next t ∧
      t.node n = { s.node n with silence := none } ∧ (∀ k, k ≠ n → t.node k = s.node k) ∧
      (t.marks (.nodeSilent n)).underlying = true ∧ (t.marks (.nodeSilent n)).active = (s.route 5).detect ∧
      ((s.route 5).detect = true → (s.marks (.nodeSilent n)).active = false →
        (t.marks (.nodeSilent n)).latched = true) ∧
      tget t.press.recorded n = (if (s.node n).role = .panel then 0 else tget s.press.recorded n) ∧
      ((s.node n).role = .sensor → (s.route 5).detect = true → (s.marks (.nodeSilent n)).active = false →
        tget t.sup.reported n = (s.node n).zones ∧
        ∀ z, (s.node n).zones.getLsbD z.val = true → (tget t.sup.zones z).state = .occupied) ∧
      ((s.node n).role = .panel → ∀ k i b, k.node = n → s.entryOf k = some i → s.entry i = some b →
        s.Removed t k i b) ∧
      t.settings = s.settings ∧ t.pins = s.pins ∧ t.motion.clock = s.motion.clock := by
  have steady := settle_steady (nodeSilenceEnds n s)
  have outer := nodeSilenceEnds_outer timer
  have node (k : NodeId) : (settle (nodeSilenceEnds n s)).node k =
      if k = n then { s.node n with silence := none } else s.node k :=
    (congrArg (tget · k) (State.nodes_of_steady steady)).trans (nodeSilenceEnds_node timer k)
  obtain ⟨underlying, active, latched⟩ := report_true_marks (id := .nodeSilent n) (by simp) rfl
    (s.modNode n fun e => { e with silence := none })
  refine ⟨_, (exec_nodeSilenceExpiry n s).trans (act_of_running running), ?_⟩
  rw [settle_marks, nodeSilenceEnds_marks timer, settle_sup, settle_settings, settle_motion,
    State.recorded_of_steady steady, State.pins_of_steady steady, State.settings_of_outer outer,
    State.pins_of_outer outer]
  exact ⟨(node n).trans (if_pos rfl), fun k other => (node k).trans (if_neg other), underlying, active, latched,
    nodeSilenceEnds_recorded timer, nodeSilenceEnds_zones timer,
    fun panel k i b own mapped entry => (nodeSilenceEnds_removed timer panel own mapped entry).of_steady steady,
    rfl, rfl, nodeSilenceEnds_clock timer⟩

theorem driveSilenceExpiry_reports (m : ModelId) {s : State} (running : s.running = true)
    (timer : (s.watch m).driveSilence.isSome = true) : ∃ t, exec (.driveSilenceExpiry m) s = .next t ∧
      (t.watch m).driveSilence = none ∧ (t.marks (.model .driveSilent m)).underlying = true ∧
      (t.marks (.model .driveSilent m)).active = (s.route 4).detect ∧
      ((s.route 4).detect = true → (s.marks (.model .driveSilent m)).active = false →
        (t.marks (.model .driveSilent m)).latched = true ∧
        ((s.marks (.model .driveSilent m)).latched = false → (s.model m).state ≠ .disabled →
          (t.model m).state = .faulted)) ∧
      (∀ k, k ≠ m → t.model k = s.model k) ∧ t.sup.zones = s.sup.zones ∧ t.steady.relay = s.steady.relay := by
  obtain ⟨others, watches⟩ := reportModel_beside .driveSilent m true (s.driveUnheard m)
  obtain ⟨underlying, active, latched⟩ :=
    report_true_marks (id := .model .driveSilent m) (by simp) rfl (s.driveUnheard m)
  have unheard : ((s.driveUnheard m).watch m).driveSilence = none := by
    rw [State.driveUnheard, State.modWatch_watch_self]
  refine ⟨_, (exec_driveSilenceExpiry m s).trans (act_of_running running), ?_⟩
  rw [driveSilenceEnds_of_running timer, settle_watch, settle_marks, settle_sup]
  simp only [settle_model]
  refine ⟨(watches m).trans unheard, underlying, active,
    fun detects new => ⟨latched detects new, fun fresh service => ?_⟩, others, report_zones _ _ _,
    settle_steady_relay (State.relay_of_outer (report_outer _ _ _))⟩
  exact (reportModel_trips (kind := .driveSilent) rfl rfl (s := s.driveUnheard m) detects new fresh service).1

theorem spineSilenceExpiry_reports {s : State} (running : s.running = true)
    (timer : s.relay.spineSilence.isSome = true) : ∃ t, exec .spineSilenceExpiry s = .next t ∧
      t.relay.spineSilence = none ∧ (t.marks (.bay .spineSilent)).underlying = true ∧
      (t.marks (.bay .spineSilent)).active = (s.route 8).detect ∧
      (∀ id, id ≠ .bay .spineSilent → t.marks id = s.marks id) ∧ t.motion = s.motion ∧
      t.press.waits = s.press.waits := by
  have reported := report_eq_of_no_trip (id := .bay .spineSilent) rfl true s.spineUnheard
  obtain ⟨underlying, active, -⟩ := report_true_marks (id := .bay .spineSilent) (by simp) rfl s.spineUnheard
  obtain ⟨-, -, -, silence⟩ := State.tallied_of_steady
    (settle_steady_relay (State.relay_of_outer (report_outer (.bay .spineSilent) true s.spineUnheard)))
  refine ⟨_, (exec_spineSilenceExpiry s).trans (act_of_running running), ?_⟩
  rw [spineSilenceEnds_of_running timer, settle_motion, settle_press_waits]
  simp only [settle_marks]
  exact ⟨silence, underlying, active, fun id other => report_marks_ne rfl other _ _,
    (congrArg State.motion reported :), (congrArg (fun u => u.press.waits) reported :)⟩

/-- Settles O51: a stopped timer leaves the part as it is; a silence that runs out is reported; a window ends by its
count; and an error of each form is one that reaches the threshold. -/
theorem silencesAreReported : Obligations.SilencesAreReported := by
  refine ⟨fun n s running => ⟨fun stopped => ?_, nodeSilenceExpiry_reports n running⟩,
    fun m s running => ⟨fun stopped => ?_, driveSilenceExpiry_reports m running⟩,
    fun s running => ⟨fun stopped => ?_, spineSilenceExpiry_reports running, ?_, fun collects detects => ?_⟩⟩
  · rw [exec_nodeSilenceExpiry, act_of_running running, nodeSilenceEnds, if_neg (by simp [stopped])]
  · rw [exec_driveSilenceExpiry, act_of_running running, driveSilenceEnds, if_neg (by simp [stopped])]
  · rw [exec_spineSilenceExpiry, act_of_running running, spineSilenceEnds, if_neg (by simp [stopped])]
  · rw [exec_bayCheckWindowEnd, act_of_running running, windowEnds_eq]
  · intro errors framing checks reports reaches
    have report (next : Receiver) (counted : BayCounters) := bayError_reports detects next counted reaches
    refine ⟨⟨_, ?_, report .discarding framing⟩, ⟨_, ?_, report .waiting framing⟩, fun f =>
      ⟨fun long => ⟨_, ?_, report .discarding framing⟩, fun short bad => ⟨_, ?_, report .waiting checks⟩⟩⟩
    · rw [exec_framingError, act_of_running running, abandon_bay collects]
    · rw [exec_receiverGapTimeout, act_of_running running, abandon_bay collects]
    · rw [exec_bayFrameReceived, act_of_running running, receive_bay_long collects _ long]
    · rw [exec_bayFrameReceived, act_of_running running, receive_bay_bad collects _ short bad]

end Sys2Proof.Machine
